-- ==== Sys2Proof/Word.lean ====
section
/-! DEFINITION. Word.lean: the bit vectors of TriCore 1.1 (spec/00_scope.md rule R12, rule R20) and the register number of a 4-bit register field. -/

namespace Sys2Proof

/-- A 32-bit word: every register and every address (00 R12). -/
abbrev Word := BitVec 32

/-- The contents of one byte of memory (20 R141). -/
abbrev Byte := BitVec 8

/-- A 64-bit doubleword, the value of a register pair (10 R43). -/
abbrev DWord := BitVec 64

/-- The number of a data or of an address register, 0 to 15: what a 4-bit register field names (00 R21). -/
abbrev Reg := Fin 16

end Sys2Proof
end

