-- ==== Sys2Proof/Config.lean ====
section
/-! DEFINITION. Config.lean: the parameters an implementation or its host fixes (spec/92_eei_decisions.md section 2) as plain data that no step writes, and the one free value of the model. -/

namespace Sys2Proof

/-- What stands behind an address (20 R154, 60 R1000): memory that keeps what is written, or a device of the host. An
address no region covers is unimplemented. -/
inductive MemKind where
  | storage
  | device
deriving DecidableEq, Repr

/-- One region of the parameter MEM_MAP: the addresses `base` up to, not including, `base + size` (20 R154, 92 D6). -/
structure Region where
  base : Nat
  size : Nat
  kind : MemKind
deriving DecidableEq, Repr

/-- A form of OPCODE_MAP the host marks as unimplemented: the instruction words `w` (a 16-bit form in the low halfword)
with `w &&& mask = value` (30 R235). -/
structure FormMark where
  mask  : Word
  value : Word
deriving DecidableEq, Repr

/-- A register or some bits of it locked while SYSCON.ENDINIT = 1: the CSFR offset and the locked bits (10 R107). -/
structure LockedBits where
  offset : BitVec 16
  bits   : Word
deriving DecidableEq, Repr

/-- The instruction formats (30 R207, R208). -/
inductive Format where
  | abs | absb | b | bit | bo | bol | brc | brn | brr | rc | rcpw | rcr | rcrr | rcrw | rlc | rr | rrpw | rrr | rrrr
  | rrrw | sys
  | sb | sbc | sbr | sbrn | sc | slr | slro | sr | src | sro | srr | srrs | ssr | ssro
deriving DecidableEq, Repr

/-- One pair of an opcode map (30 R230): the format, op1 and op2 (0 in a format without one) of an instruction form. The
form is named by its match value in the default map (31 R250). -/
structure OpcodeRow where
  format : Format
  op1    : Nat
  op2    : Nat
  form   : Word
deriving DecidableEq, Repr

/-- A value of the parameter OPCODE_MAP (30 R230), written out. -/
abbrev OpcodeMap := List OpcodeRow

/-- Which part of a range table entry a register holds (10 R75). -/
inductive RangePart where
  | lower
  | upper
  | mode
deriving DecidableEq, Repr

/-- A range register: its table, set, entry and part (10 R75). -/
structure RangeAddr where
  code : Bool
  set  : Nat
  num  : Nat
  part : RangePart
deriving DecidableEq, Repr

/-- The core special function registers by name (10 R75). -/
inductive CsfrName where
  | pcxi | psw | pc | fcx | lcx | isp | icr | biv | btv | syscon | pmucon | dmucon
  | dbgsr | gprwb | exevt | swevt | crevt | tr0evt | tr1evt
  | range (q : RangeAddr)
deriving DecidableEq, Repr

/-- One pair of a CSFR map: the byte offset and the register there (10 R75). -/
structure CsfrRow where
  offset : BitVec 16
  reg    : CsfrName
deriving DecidableEq, Repr

/-- A value of the parameter CSFR_MAP (10 R75), written out; the first row of an offset counts. -/
abbrev CsfrMap := List CsfrRow

/-- The parameter CSA_LAYOUT (60 R965): the word offsets in a context save area of PSW, A10 to A15, D8 to D15 (`upper`) and
of A11, A2 to A7, D0 to D7 (`lower`). The link word is word 0. -/
structure CsaLayout where
  upper : Vector (Fin 16) 15
  lower : Vector (Fin 16) 15
deriving DecidableEq, Repr

/-- The layout of 60 R965 (92 D3, log 17). -/
def CsaLayout.default : CsaLayout where
  upper := #v[1, 2, 3, 4, 5, 6, 7, 8, 9, 10, 11, 12, 13, 14, 15]
  lower := #v[1, 2, 3, 4, 5, 6, 7, 8, 9, 10, 11, 12, 13, 14, 15]

/-- A value of the parameter ALIGN_CHECK_MODE (20 R143, 92 D7): for each load, store and read-modify-write of data the
number of bytes that its effective address must be a multiple of. The context loads and stores want 64 under every mode
(49 R875). -/
structure AlignTable where
  ldB   : Nat
  ldBu  : Nat
  ldH   : Nat
  ldHu  : Nat
  ldQ   : Nat
  ldW   : Nat
  ldD   : Nat
  ldA   : Nat
  ldDa  : Nat
  stB   : Nat
  stT   : Nat
  stH   : Nat
  stQ   : Nat
  stW   : Nat
  stD   : Nat
  stA   : Nat
  stDa  : Nat
  ldmst : Nat
  swapW : Nat
  swapA : Nat
deriving DecidableEq, Repr

/-- The table `source` of 20 R143: bytes anywhere, addresses on words, all other data on halfwords (92 D7, log 35). -/
def AlignTable.source : AlignTable where
  ldB   := 1
  ldBu  := 1
  ldH   := 2
  ldHu  := 2
  ldQ   := 2
  ldW   := 2
  ldD   := 2
  ldA   := 4
  ldDa  := 4
  stB   := 1
  stT   := 1
  stH   := 2
  stQ   := 2
  stW   := 2
  stD   := 2
  stA   := 4
  stDa  := 4
  ldmst := 2
  swapW := 2
  swapA := 4

/-- The parameters of 92 section 2 that this spec leaves to the implementation. N_PRS, N_DRANGE and N_CRANGE are the
lengths of the lists of range entries that the state holds (00 R13, R14). -/
structure Config where
  /-- OPCODE_MAP (30 R230); none: the default map of 31 R250 (log 15). -/
  opcodeMap       : Option OpcodeMap
  /-- CSFR_MAP; none: the default map of 10 R75 (log 16). -/
  csfrMap         : Option CsfrMap
  /-- CSA_LAYOUT (60 R965). -/
  csaLayout       : CsaLayout
  /-- MEM_MAP (20 R154) with the device windows of 60 R1000. -/
  memMap          : List Region
  /-- RESET_PC (70 R1022). -/
  resetPc         : Word
  /-- RESET_BTV (10 R101). -/
  resetBtv        : Word
  /-- RESET_BIV (10 R100). -/
  resetBiv        : Word
  /-- RESET_ISP (10 R90). -/
  resetIsp        : Word
  /-- ALIGN_CHECK_MODE (00 R19, 20 R143; log 35). -/
  align           : AlignTable
  /-- MPN_CHECK (20 R155). -/
  mpnCheck        : Bool
  /-- DEBUG_MODE (49 R910). -/
  debugMode       : Bool
  /-- ENDINIT_PROTECTED (00 R16, 10 R107). -/
  endinitLocked   : List LockedBits
  /-- The forms the host marks as unimplemented (30 R235). -/
  unimplemented   : List FormMark
deriving DecidableEq, Repr

/-- The default parameters. DESIGN CHOICE (unsafe, log 2 and 5): the numbers of the reset addresses are those of the
source's examples, RESET_PC = RESET_BTV (70 R1022); segments 0 to 13 are storage and segments 14 and 15 devices (48
R802, 60 R1000). OPCODE_MAP, CSFR_MAP, CSA_LAYOUT and ALIGN_CHECK_MODE are the spec's own defaults (log 15, 16, 17 and 35);
ENDINIT_PROTECTED is empty, MPN_CHECK on, DEBUG_MODE off, nothing unimplemented (92 section 2). -/
def Config.default : Config where
  opcodeMap     := none
  csfrMap       := none
  csaLayout     := CsaLayout.default
  memMap        := [⟨0x00000000, 0xE0000000, .storage⟩, ⟨0xE0000000, 0x20000000, .device⟩]
  resetPc       := 0x80001000
  resetBtv      := 0x80001000
  resetBiv      := 0x80002000
  resetIsp      := 0
  align         := AlignTable.source
  mpnCheck      := true
  debugMode     := false
  endinitLocked := []
  unimplemented := []

/-- FREE VALUE (log 6): the `n`-th byte that the outside world supplies, for a read of a device address (60 R1000) or of
an unimplemented address of segments 3 to 15 (93 U4, 'any value'). It has no body: nothing can be proved of it. -/
opaque Config.freeByte : Nat → Byte

end Sys2Proof
end

