-- ==== Sys2Proof/Machine/State.lean ====
section
/-! DEFINITION. Machine/State.lean: the state of TriCore 1.1 as plain data (spec/10_state.md rule R40 to R136, with what crosses the boundary of the core by 92 section 3), the reasons a step can stop, and the state after reset. -/

namespace Sys2Proof.Machine

open Sys2Proof

/-- One range table entry of a protection set (10 R121 to R124): the register pair DPRx_n or CPRx_n and its mode register
DPMx_n or CPMx_n. -/
structure RangeEntry where
  /-- Lower bound word of the register pair (10 R121). -/
  lower : Word
  /-- Upper bound word of the register pair (10 R121). -/
  upper : Word
  /-- The mode register: WE RE WS RS WBL RBL WBU RBU for data (10 R123), XE . XS . BL . . BU for code (10 R124). -/
  mode  : BitVec 8
deriving DecidableEq, Repr

/-- The causes of the asynchronous class 4 traps (60 R939). -/
inductive BusCause where
  | prvp | bus | pari | blto | pkey
deriving DecidableEq, Repr

/-- A write by another bus master, a host event between two instructions (20 R152, 10 R77). -/
inductive BusWrite where
  /-- One byte of the address space. -/
  | byte (addr : Word) (value : Byte)
  /-- A core special function register, by its CSFR offset (log 13). -/
  | csfr (offset : BitVec 16) (value : Word)
deriving DecidableEq, Repr

/-- What the host presents before one step (60 R960, R979; 92 section 3). -/
structure HostInput where
  /-- The new value of ICR.PIPN; none leaves it as it is (60 R960). -/
  pipn    : Option (BitVec 8)
  /-- A reset (70 R1020). -/
  reset   : Bool
  /-- A non-maskable interrupt (60 R942). -/
  nmi     : Bool
  /-- An asynchronous class 4 trap (60 R939). -/
  busTrap : Option BusCause
  /-- Writes of other bus masters, first to last (20 R152). -/
  writes  : List BusWrite
deriving DecidableEq, Repr

/-- The signals of the mode registers to the Debug Control Unit (10 R123, R124; 60 R1005): an access inside a range, at
its lower bound or at its upper bound. -/
inductive DebugKind where
  | writeRange | readRange | writeLower | readLower | writeUpper | readUpper
  | fetchRange | fetchLower | fetchUpper
deriving DecidableEq, Repr

/-- What the core sends across its boundary (92 section 3). -/
inductive HostOutput where
  /-- A store of `size` bytes to a device address, with the supervisor line (60 R991, R1000). -/
  | deviceStore (addr : Word) (size value : Nat) (supervisor : Bool)
  /-- The request of a load from a device address (60 R1000, R991); the answer is a free value (log 6). -/
  | deviceLoad (addr : Word) (size : Nat) (supervisor : Bool)
  /-- The acknowledge of interrupt `p` (60 R976 step 8). -/
  | intAck (p : BitVec 8)
  /-- The DEBUG instruction at `pc` in debug mode (49 R910). -/
  | debugEvent (pc : Word)
  /-- A signal of a mode register (60 R1005). -/
  | debugSignal (kind : DebugKind) (addr : Word)
deriving DecidableEq, Repr

/-- The core special function registers that no context operation and no exception entry writes (10 R75): the limit
pointer, the stack pointer of the interrupts, the vector bases, the system registers and the debug registers. -/
structure Csfrs where
  lcx    : Word
  isp    : Word
  biv    : Word
  btv    : Word
  syscon : Word
  pmucon : Word
  dmucon : Word
  dbgsr  : Word
  gprwb  : Word
  exevt  : Word
  swevt  : Word
  crevt  : Word
  tr0evt : Word
  tr1evt : Word
deriving DecidableEq, Repr

/-- The boundary of the core: what the host presents and what the core has emitted, with the events still pending (60
R979) and the count of free bytes drawn (the model's own field, log 6). -/
structure Boundary where
  /-- What the host presents, one entry before each step; after the last one nothing (log 12). -/
  inputs       : List HostInput
  /-- What the core has emitted, newest first (log 12). -/
  outputs      : List HostOutput
  /-- An NMI presented and not yet taken (60 R979). -/
  nmiPending   : Bool
  /-- Class 4 traps presented and not yet taken, oldest first (60 R979). -/
  trapsPending : List BusCause
  /-- How many values of `Config.freeByte` have been drawn (log 6). -/
  freeCount    : Nat
deriving DecidableEq, Repr

/-- The machine. The memory is the sorted list of its non-zero bytes (20 R145, log 4). -/
structure State where
  /-- The data registers D0 to D15 (10 R40). -/
  d        : Vector Word 16
  /-- The address registers A0 to A15 (10 R40). -/
  a        : Vector Word 16
  /-- The program counter: the address of the instruction that executes next (10 R52). -/
  pc       : Word
  /-- The program status word (10 R56). -/
  psw      : Word
  /-- The previous context information register (10 R74). -/
  pcxi     : Word
  /-- The free context list head pointer (10 R81). -/
  fcx      : Word
  /-- The interrupt control register (10 R95). -/
  icr      : Word
  /-- The other core special function registers (10 R75). -/
  csfr     : Csfrs
  /-- The data protection sets, DPRx_n and DPMx_n (10 R120, R121, R123): set x, entry n. -/
  dataSets : List (List RangeEntry)
  /-- The code protection sets, CPRx_n and CPMx_n (10 R120, R122, R124). -/
  codeSets : List (List RangeEntry)
  /-- The memory (20 R145): addresses rising, no byte that reads as an unlisted one. -/
  mem      : List Host.Cell
  /-- The boundary to the host. -/
  env      : Boundary
  /-- The parameters of the implementation, which no step writes. -/
  cfg      : Config
deriving DecidableEq, Repr

/-- Why a step stops with a fault. -/
inductive Fault where
  /-- Raised by a trap or interrupt entry whose context cannot be saved: FCX = 0, or no implemented memory at the CSA (60
  R971 b, 93 U7, the state `Stuck` of the spec). Safe: the spec stops there. -/
  | stuckContextEntry
  /-- Raised by an entry whose FCD traps follow one another without end, because the free list leads back to LCX (60
  R967, log 9). Safe: the spec's own step never completes there. -/
  | endlessDepletion
deriving DecidableEq, Repr

/-- Why a step is refused. -/
inductive Refusal where
  /-- Raised by the dispatch for an instruction without a meaning, by its mnemonic. Safe. -/
  | notModelled (mnemonic : String)
  /-- Raised by MFCR and MTCR with an offset that is no multiple of 4 (93 U1). Safe: the spec refuses it. -/
  | unalignedCsfrOffset
  /-- Raised by a step in a state with PSW.IO = 11 (93 U3, 60 R994). Safe: the spec refuses it. -/
  | reservedIoLevel
  /-- Raised by the DSP multiply instructions with the field n at 2 or 3 (93 U6, 43 R500). Safe: the spec refuses it. -/
  | undefinedShiftField
deriving DecidableEq, Repr

/-- The core special function registers after reset (10 R136) for the parameters `c`. DESIGN CHOICE (log 1): LCX follows
the spec's choice of 0; ISP, PMUCON, DMUCON and the debug registers may hold any value by the spec and hold 0 here. -/
def Csfrs.reset (c : Config) : Csfrs where
  lcx    := 0
  isp    := c.resetIsp
  biv    := c.resetBiv
  btv    := c.resetBtv
  syscon := 0
  pmucon := 0
  dmucon := 0
  dbgsr  := 0
  gprwb  := 0
  exevt  := 0
  swevt  := 0
  crevt  := 0
  tr0evt := 0
  tr1evt := 0

/-- The machine right after reset (10 R136, 70 R1020 to R1022). D15 = 0 is the TIN of the reset trap; PSW = 0x00000B80.
DESIGN CHOICE (log 1): D0 to D14, A0 to A15 and the range registers may hold any value by the spec and hold 0 here; N_PRS,
N_DRANGE and N_CRANGE are 4 (92 D8). -/
def State.reset : State where
  d        := Vector.replicate 16 0
  a        := Vector.replicate 16 0
  pc       := Config.default.resetPc
  psw      := 0x00000B80
  pcxi     := 0
  fcx      := 0
  icr      := 0
  csfr     := Csfrs.reset Config.default
  dataSets := List.replicate 4 (List.replicate 4 ⟨0, 0, 0⟩)
  codeSets := List.replicate 4 (List.replicate 4 ⟨0, 0, 0⟩)
  mem      := []
  env      := ⟨[], [], false, [], 0⟩
  cfg      := Config.default

end Sys2Proof.Machine
end

