-- ==== Sys2Proof/Machine/Memory.lean ====
section
/-! DEFINITION. Machine/Memory.lean: the one address space of bytes (spec/20_memory.md rule R140, R145) as a sorted list of cells, and its little-endian reads and writes. -/

namespace Sys2Proof.Machine

open Sys2Proof

/-- What a byte that nothing has written reads as. DESIGN CHOICE (unsafe, log 4): 0; the spec leaves the memory after
reset to the host (10 R136). -/
def Memory.unlisted : Byte := 0

/-- The byte at address `x`. -/
def Memory.read : List Host.Cell → Nat → Byte
  | [], _ => Memory.unlisted
  | (b, v) :: rest, x => if x = b then v else Memory.read rest x

/-- The memory after a byte is written at address `x`; a byte equal to an unlisted one is not listed. -/
def Memory.write : List Host.Cell → Nat → Byte → List Host.Cell
  | [], x, v => if v = Memory.unlisted then [] else [(x, v)]
  | (b, w) :: rest, x, v =>
    if x < b then (if v = Memory.unlisted then (b, w) :: rest else (x, v) :: (b, w) :: rest)
    else if x = b then (if v = Memory.unlisted then rest else (x, v) :: rest)
    else (b, w) :: Memory.write rest x v

/-- The list holds rising addresses from `lo` up, inside the address space, and no byte an unlisted one equals. -/
def Memory.wfFrom : Nat → List Host.Cell → Bool
  | _, [] => true
  | lo, (b, v) :: rest => decide (lo ≤ b) && decide (b < 2 ^ 32) && (v != Memory.unlisted) && Memory.wfFrom (b + 1) rest

/-- The canonical form of a memory. -/
def Memory.wf (m : List Host.Cell) : Bool := Memory.wfFrom 0 m

/-- The value of the `n` bytes at `addr 0` to `addr (n-1)`, the first the least significant (20 R140). -/
def Memory.readBytes (m : List Host.Cell) (addr : Nat → Word) : Nat → Nat
  | 0 => 0
  | n + 1 => Memory.readBytes m addr n + (Memory.read m (addr n).toNat).toNat * 256 ^ n

/-- The memory after the `n` low bytes of `v` are written at `addr 0` to `addr (n-1)`, the least significant first (20
R140). -/
def Memory.writeBytes (m : List Host.Cell) (addr : Nat → Word) (v : Nat) : Nat → List Host.Cell
  | 0 => m
  | n + 1 => Memory.write (Memory.writeBytes m addr v n) (addr n).toNat (BitVec.ofNat 8 (v / 256 ^ n))

/-- The value of `n` bytes the outside world supplies, from the free byte number `start` on (log 6). -/
def freeBytes (start : Nat) : Nat → Nat
  | 0 => 0
  | n + 1 => freeBytes start n + (Config.freeByte (start + n)).toNat * 256 ^ n

end Sys2Proof.Machine
end

