-- ==== Sys2Proof/Machine/Bits.lean ====
section
/-! DEFINITION. Machine/Bits.lean: bit fields, packed elements, integer values, rounding, saturation and counting of bits: the primitives of spec/00_scope.md rule R20 to R28 that the meanings share. -/

namespace Sys2Proof.Machine

open Sys2Proof

/-- The value of a condition as a word: 1 or 0 (00 R34, 45 R620 `zext_1(bool(p))`). -/
def boolWord (p : Bool) : Word := if p then 1 else 0

/-- `x` with bit `i` set to `b`. -/
def setBit (x : Word) (i : Nat) (b : Bool) : Word :=
  if b then x ||| BitVec.twoPow 32 i else x &&& ~~~(BitVec.twoPow 32 i)

/-- `x` with the `n` bits from bit `lo` up replaced by `v`. -/
def setField (x : Word) (lo : Nat) (n : Nat) (v : BitVec n) : Word :=
  (x &&& ~~~((BitVec.allOnes n).setWidth 32 <<< lo)) ||| (v.setWidth 32 <<< lo)

/-- The high halfword `x[31:16]` (43 R501). -/
def hiHalf (x : Word) : BitVec 16 := x.extractLsb' 16 16

/-- The low halfword `x[15:0]` (43 R501). -/
def loHalf (x : Word) : BitVec 16 := x.extractLsb' 0 16

/-- Element `k` of a word packed with bytes (44 R550). -/
def byteElem (x : Word) (k : Nat) : BitVec 8 := x.extractLsb' (8 * k) 8

/-- Element `k` of a word packed with halfwords (44 R550). -/
def halfElem (x : Word) (k : Nat) : BitVec 16 := x.extractLsb' (16 * k) 16

/-- The word whose byte elements are `f 0` to `f 3` (44 R551 `pack`). -/
def packBytes (f : Nat → BitVec 8) : Word := f 3 ++ f 2 ++ f 1 ++ f 0

/-- The word whose halfword elements are `f 0` and `f 1` (44 R551 `pack`). -/
def packHalves (f : Nat → BitVec 16) : Word := f 1 ++ f 0

/-- `ssov_n` (00 R28). -/
def ssov (n : Nat) (r : Int) : Int :=
  if r > 2 ^ (n - 1) - 1 then 2 ^ (n - 1) - 1 else if r < -2 ^ (n - 1) then -2 ^ (n - 1) else r

/-- `suov_n` (00 R28). -/
def suov (n : Nat) (r : Int) : Int :=
  if r > 2 ^ n - 1 then 2 ^ n - 1 else if r < 0 then 0 else r

/-- `round16` on the unbounded integer (00 R27). -/
def round16 (r : Int) : Int := (r + 0x8000) / 0x10000 * 0x10000

/-- The number of 0 bits of `x` from bit `n - 1` down to the first 1 bit. -/
def zerosBelow {w : Nat} (x : BitVec w) : Nat → Nat
  | 0 => 0
  | n + 1 => if x.getLsbD n then 0 else zerosBelow x n + 1

/-- The number of leading 0 bits: the width when `x` is 0 (42 R451, 44 R580). -/
def leadingZeros {w : Nat} (x : BitVec w) : Nat := zerosBelow x w

/-- The number of leading 1 bits (42 R452, 44 R581). -/
def leadingOnes {w : Nat} (x : BitVec w) : Nat := leadingZeros (~~~x)

/-- The number of bits after the sign bit that equal it (42 R453, 44 R582). -/
def leadingSigns {w : Nat} (x : BitVec w) : Nat :=
  (if x.msb then leadingOnes x else leadingZeros x) - 1

/-- `rev16(x)[n] = x[15-n]` (20 R170). -/
def rev16 (x : BitVec 16) : BitVec 16 := x.reverse

/-- `2^width - 1`, the mask of a bit field (42 R480). -/
def fieldMask (width : Nat) : Word := BitVec.ofNat 32 (2 ^ width - 1)

end Sys2Proof.Machine
end

