-- ==== Sys2Proof/Machine/Flags.lean ====
section
/-! DEFINITION. Machine/Flags.lean: the fields of the PSW (spec/10_state.md rule R56 to R73) and the flag primitives of rule R59 to R65. -/

namespace Sys2Proof.Machine

open Sys2Proof

/-! ## The fields of the PSW -/

/-- PSW.C, bit 31 (10 R59). -/
def Psw.c (p : Word) : Bool := p.getLsbD 31
/-- PSW.V, bit 30 (10 R60). -/
def Psw.v (p : Word) : Bool := p.getLsbD 30
/-- PSW.SV, bit 29 (10 R65). -/
def Psw.sv (p : Word) : Bool := p.getLsbD 29
/-- PSW.AV, bit 28 (10 R60). -/
def Psw.av (p : Word) : Bool := p.getLsbD 28
/-- PSW.SAV, bit 27 (10 R65). -/
def Psw.sav (p : Word) : Bool := p.getLsbD 27
/-- PSW.PRS, bits 13:12 (10 R67). -/
def Psw.prs (p : Word) : BitVec 2 := p.extractLsb' 12 2
/-- PSW.IO, bits 11:10 (10 R68). -/
def Psw.io (p : Word) : BitVec 2 := p.extractLsb' 10 2
/-- PSW.IS, bit 9 (10 R69). -/
def Psw.is (p : Word) : Bool := p.getLsbD 9
/-- PSW.GW, bit 8 (10 R70). -/
def Psw.gw (p : Word) : Bool := p.getLsbD 8
/-- PSW.CDE, bit 7 (10 R71). -/
def Psw.cde (p : Word) : Bool := p.getLsbD 7
/-- PSW.CDC, bits 6:0 (10 R72). -/
def Psw.cdc (p : Word) : BitVec 7 := p.extractLsb' 0 7

/-- The bits of the PSW that exist: all but 26:14 (10 R58). -/
def Psw.defined (p : Word) : Word := p &&& 0xF8003FFF

/-- The PSW with C := `b` (10 R59). -/
def Psw.setC (p : Word) (b : Bool) : Word := setBit p 31 b

/-- The PSW with V := `v`, AV := `av` and the sticky bits SV and SAV set where V and AV are (10 R60, R65). -/
def Psw.setOverflow (p : Word) (v av : Bool) : Word :=
  setBit (setBit (setBit (setBit p 30 v) 29 (v || Psw.sv p)) 28 av) 27 (av || Psw.sav p)

/-- The PSW with V := `v` and SV set where V is; AV and SAV unchanged (41 R422). -/
def Psw.setV (p : Word) (v : Bool) : Word := setBit (setBit p 30 v) 29 (v || Psw.sv p)

/-- The PSW with V, SV, AV and SAV cleared (49 R903). -/
def Psw.clearOverflow (p : Word) : Word := setBit (setBit (setBit (setBit p 30 false) 29 false) 28 false) 27 false

/-- The PSW on an interrupt or trap entry: PRS, IO, IS, GW, CDE, CDC at their default, the five flags unchanged, the
reserved bits 0 (60 R963). -/
def Psw.entry (p : Word) : Word := (p &&& 0xF8000000) ||| 0x00000B80

/-! ## Call depth counting (10 R72, 47 R770) -/

/-- The number of leading ones of CDC, `k` (10 R72). -/
def callDepthMask (p : Word) : Nat := leadingOnes (Psw.cdc p)

/-- The width of the counter, `w = 6 - k` (47 R770). -/
def callDepthWidth (p : Word) : Nat := 6 - callDepthMask p

/-- The counter, `cnt`: the low `w` bits of CDC (47 R770). -/
def callDepthCount (p : Word) : Nat := (Psw.cdc p).toNat % 2 ^ callDepthWidth p

/-- `counting_on` (47 R770). -/
def callCountingOn (p : Word) : Bool := Psw.cdc p != 0x7F && Psw.cde p

/-- `call_depth_overflow` (47 R770). -/
def callDepthOverflow (p : Word) : Bool :=
  callCountingOn p && callDepthCount p == 2 ^ callDepthWidth p - 1

/-- A counter exists and is not 0: NEST of RFE (49 R880 step 1). -/
def callDepthNonzero (p : Word) : Bool := decide (callDepthMask p ≤ 5) && callDepthCount p != 0

/-- A counter exists and is 0: CDU of RET (47 R774 step 1). -/
def callDepthZero (p : Word) : Bool := decide (callDepthMask p ≤ 5) && callDepthCount p == 0

/-- The PSW a call leaves: CDC incremented if counting is on, CDE := 1 (47 R769 step 5, R770). -/
def Psw.afterCall (p : Word) : Word :=
  setBit (setField p 0 7 (if callCountingOn p then Psw.cdc p + 1 else Psw.cdc p)) 7 true

/-! ## Overflow and carry -/

/-- A true result `r` outside the signed range of `n` bits (10 R60, R62, R63). -/
def overflowSigned (n : Nat) (r : Int) : Bool := decide (r > 2 ^ (n - 1) - 1 ∨ r < -2 ^ (n - 1))

/-- A true result `r` outside the unsigned range of `n` bits (10 R61, R62, R63). -/
def overflowUnsigned (n : Nat) (r : Int) : Bool := decide (r > 2 ^ n - 1 ∨ r < 0)

/-- Advanced overflow: the exclusive or of the two top bits of the value written (10 R60). -/
def advOverflow {n : Nat} (res : BitVec n) : Bool := res.getLsbD (n - 1) != res.getLsbD (n - 2)

/-- `carry32`: bit 32 of `u(x) + u(y) + cin` (10 R64). -/
def carry32 (x y : Word) (cin : Bool) : Bool := decide (2 ^ 32 ≤ x.toNat + y.toNat + cin.toNat)

/-- The value an arithmetic instruction writes and the overflow conditions of its result. -/
structure Result (n : Nat) where
  value : BitVec n
  v     : Bool
  av    : Bool

/-- A signed result that wraps: `res = r mod 2^n`, flags by set_V_AV_n(r, res) (10 R60, R62). -/
def signedResult (n : Nat) (r : Int) : Result n :=
  ⟨BitVec.ofInt n r, overflowSigned n r, advOverflow (BitVec.ofInt n r)⟩

/-- A signed result that saturates: `res = ssov_n(r)`, flags by set_V_AV_n(r, res) (10 R60, R62). -/
def signedSatResult (n : Nat) (r : Int) : Result n :=
  ⟨BitVec.ofInt n (ssov n r), overflowSigned n r, advOverflow (BitVec.ofInt n (ssov n r))⟩

/-- An unsigned result that wraps, flags by set_V_AV_Un(r, res) (10 R61, R62). -/
def unsignedResult (n : Nat) (r : Int) : Result n :=
  ⟨BitVec.ofInt n r, overflowUnsigned n r, advOverflow (BitVec.ofInt n r)⟩

/-- An unsigned result that saturates: `res = suov_n(r)`, flags by set_V_AV_Un(r, res) (10 R61, R62). -/
def unsignedSatResult (n : Nat) (r : Int) : Result n :=
  ⟨BitVec.ofInt n (suov n r), overflowUnsigned n r, advOverflow (BitVec.ofInt n (suov n r))⟩

/-- Four byte results side by side: V and AV are the OR over the elements (10 R63). -/
def packByteResults (f : Nat → Result 8) : Result 32 :=
  ⟨packBytes fun k => (f k).value, (f 0).v || (f 1).v || (f 2).v || (f 3).v,
    (f 0).av || (f 1).av || (f 2).av || (f 3).av⟩

/-- Two halfword results side by side: V and AV are the OR over the elements (10 R63). -/
def packHalfResults (f : Nat → Result 16) : Result 32 :=
  ⟨packHalves fun k => (f k).value, (f 0).v || (f 1).v, (f 0).av || (f 1).av⟩

/-- Two word results in a register pair, the first in the high word (43 R502, 10 R63 at N = 32). -/
def packWordResults (r1 r0 : Result 32) : Result 64 :=
  ⟨r1.value ++ r0.value, r1.v || r0.v, r1.av || r0.av⟩

/-- Two rounded word results of which a register keeps the high halfwords (43 R507, R515). -/
def packHighResults (r1 r0 : Result 32) : Result 32 :=
  ⟨hiHalf r1.value ++ hiHalf r0.value, r1.v || r0.v, r1.av || r0.av⟩

/-- A rounded word result of which the register keeps the high halfword, zeros below (43 R505). -/
def highResult (r : Result 32) : Result 32 := ⟨hiHalf r.value ++ (0 : BitVec 16), r.v, r.av⟩

end Sys2Proof.Machine
end

