-- ==== Sys2Proof/Syntax.lean ====
section
/-! DEFINITION. Syntax.lean: the instructions of TriCore 1.1, one constructor per row (form) of spec/opcode_table.json, named after the form (30 R250). Operands are register numbers or the raw immediate field of the form, in the order of the assembler syntax of the rule named beside it: c, a, b, d are the fields d, s1, s2, s3 (30 R205); a field the form does not use is no operand (30 R211). -/

namespace Sys2Proof

/-- An instruction: a form of spec/opcode_table.json with its operand fields. -/
inductive Instr where
  -- format BRN, 32 bits
  | jnzTBrn (a : Reg) (n : BitVec 5) (disp15 : BitVec 15) -- JNZ.T_BRN, 47 R762
  | jzTBrn (a : Reg) (n : BitVec 5) (disp15 : BitVec 15) -- JZ.T_BRN, 47 R763
  -- format ABS, 32 bits
  | ldAAbs (a : Reg) (off18 : BitVec 18) -- LD.A_ABS, 48 R805
  | ldBuAbs (a : Reg) (off18 : BitVec 18) -- LD.BU_ABS, 48 R807
  | ldBAbs (a : Reg) (off18 : BitVec 18) -- LD.B_ABS, 48 R806
  | ldDaAbs (a : Reg) (off18 : BitVec 18) -- LD.DA_ABS, 48 R809
  | ldDAbs (a : Reg) (off18 : BitVec 18) -- LD.D_ABS, 48 R808
  | ldHuAbs (a : Reg) (off18 : BitVec 18) -- LD.HU_ABS, 48 R811
  | ldHAbs (a : Reg) (off18 : BitVec 18) -- LD.H_ABS, 48 R810
  | ldQAbs (a : Reg) (off18 : BitVec 18) -- LD.Q_ABS, 48 R812
  | ldWAbs (a : Reg) (off18 : BitVec 18) -- LD.W_ABS, 48 R813
  | ldlcxAbs (off18 : BitVec 18) -- LDLCX_ABS, 49 R879
  | ldmstAbs (a : Reg) (off18 : BitVec 18) -- LDMST_ABS, 48 R822
  | lducxAbs (off18 : BitVec 18) -- LDUCX_ABS, 49 R877
  | leaAbs (a : Reg) (off18 : BitVec 18) -- LEA_ABS, 48 R830
  | stAAbs (a : Reg) (off18 : BitVec 18) -- ST.A_ABS, 48 R814
  | stBAbs (a : Reg) (off18 : BitVec 18) -- ST.B_ABS, 48 R815
  | stDaAbs (a : Reg) (off18 : BitVec 18) -- ST.DA_ABS, 48 R817
  | stDAbs (a : Reg) (off18 : BitVec 18) -- ST.D_ABS, 48 R816
  | stHAbs (a : Reg) (off18 : BitVec 18) -- ST.H_ABS, 48 R818
  | stQAbs (a : Reg) (off18 : BitVec 18) -- ST.Q_ABS, 48 R819
  | stWAbs (a : Reg) (off18 : BitVec 18) -- ST.W_ABS, 48 R820
  | stlcxAbs (off18 : BitVec 18) -- STLCX_ABS, 49 R878
  | stucxAbs (off18 : BitVec 18) -- STUCX_ABS, 49 R876
  | swapAAbs (a : Reg) (off18 : BitVec 18) -- SWAP.A_ABS, 48 R823
  | swapWAbs (a : Reg) (off18 : BitVec 18) -- SWAP.W_ABS, 48 R824
  -- format ABSB, 32 bits
  | stTAbsb (off18 : BitVec 18) (bpos3 : BitVec 3) (b : BitVec 1) -- ST.T_ABSB, 48 R821
  -- format B, 32 bits
  | callaB (disp24 : BitVec 24) -- CALLA_B, 47 R772
  | callB (disp24 : BitVec 24) -- CALL_B, 47 R771
  | jaB (disp24 : BitVec 24) -- JA_B, 47 R743
  | jlaB (disp24 : BitVec 24) -- JLA_B, 47 R746
  | jlB (disp24 : BitVec 24) -- JL_B, 47 R745
  | jB (disp24 : BitVec 24) -- J_B, 47 R742
  -- format BIT, 32 bits
  | andAndTBit (c a : Reg) (p1 : BitVec 5) (b : Reg) (p2 : BitVec 5) -- AND.AND.T_BIT, 45 R677
  | andAndnTBit (c a : Reg) (p1 : BitVec 5) (b : Reg) (p2 : BitVec 5) -- AND.ANDN.T_BIT, 45 R678
  | andNorTBit (c a : Reg) (p1 : BitVec 5) (b : Reg) (p2 : BitVec 5) -- AND.NOR.T_BIT, 45 R679
  | andOrTBit (c a : Reg) (p1 : BitVec 5) (b : Reg) (p2 : BitVec 5) -- AND.OR.T_BIT, 45 R680
  | andTBit (c a : Reg) (p1 : BitVec 5) (b : Reg) (p2 : BitVec 5) -- AND.T_BIT, 45 R668
  | andnTBit (c a : Reg) (p1 : BitVec 5) (b : Reg) (p2 : BitVec 5) -- ANDN.T_BIT, 45 R669
  | insTBit (c a : Reg) (p1 : BitVec 5) (b : Reg) (p2 : BitVec 5) -- INS.T_BIT, 45 R694
  | insnTBit (c a : Reg) (p1 : BitVec 5) (b : Reg) (p2 : BitVec 5) -- INSN.T_BIT, 45 R695
  | nandTBit (c a : Reg) (p1 : BitVec 5) (b : Reg) (p2 : BitVec 5) -- NAND.T_BIT, 45 R670
  | norTBit (c a : Reg) (p1 : BitVec 5) (b : Reg) (p2 : BitVec 5) -- NOR.T_BIT, 45 R671
  | orAndTBit (c a : Reg) (p1 : BitVec 5) (b : Reg) (p2 : BitVec 5) -- OR.AND.T_BIT, 45 R681
  | orAndnTBit (c a : Reg) (p1 : BitVec 5) (b : Reg) (p2 : BitVec 5) -- OR.ANDN.T_BIT, 45 R682
  | orNorTBit (c a : Reg) (p1 : BitVec 5) (b : Reg) (p2 : BitVec 5) -- OR.NOR.T_BIT, 45 R683
  | orOrTBit (c a : Reg) (p1 : BitVec 5) (b : Reg) (p2 : BitVec 5) -- OR.OR.T_BIT, 45 R684
  | orTBit (c a : Reg) (p1 : BitVec 5) (b : Reg) (p2 : BitVec 5) -- OR.T_BIT, 45 R672
  | ornTBit (c a : Reg) (p1 : BitVec 5) (b : Reg) (p2 : BitVec 5) -- ORN.T_BIT, 45 R673
  | shAndTBit (c a : Reg) (p1 : BitVec 5) (b : Reg) (p2 : BitVec 5) -- SH.AND.T_BIT, 45 R686
  | shAndnTBit (c a : Reg) (p1 : BitVec 5) (b : Reg) (p2 : BitVec 5) -- SH.ANDN.T_BIT, 45 R687
  | shNandTBit (c a : Reg) (p1 : BitVec 5) (b : Reg) (p2 : BitVec 5) -- SH.NAND.T_BIT, 45 R688
  | shNorTBit (c a : Reg) (p1 : BitVec 5) (b : Reg) (p2 : BitVec 5) -- SH.NOR.T_BIT, 45 R689
  | shOrTBit (c a : Reg) (p1 : BitVec 5) (b : Reg) (p2 : BitVec 5) -- SH.OR.T_BIT, 45 R690
  | shOrnTBit (c a : Reg) (p1 : BitVec 5) (b : Reg) (p2 : BitVec 5) -- SH.ORN.T_BIT, 45 R691
  | shXnorTBit (c a : Reg) (p1 : BitVec 5) (b : Reg) (p2 : BitVec 5) -- SH.XNOR.T_BIT, 45 R692
  | shXorTBit (c a : Reg) (p1 : BitVec 5) (b : Reg) (p2 : BitVec 5) -- SH.XOR.T_BIT, 45 R693
  | xnorTBit (c a : Reg) (p1 : BitVec 5) (b : Reg) (p2 : BitVec 5) -- XNOR.T_BIT, 45 R674
  | xorTBit (c a : Reg) (p1 : BitVec 5) (b : Reg) (p2 : BitVec 5) -- XOR.T_BIT, 45 R675
  -- format BO, 32 bits
  | ldABoShort (a b : Reg) (off10 : BitVec 10) -- LD.A_BO_SHORT, 48 R805
  | ldABoPreinc (a b : Reg) (off10 : BitVec 10) -- LD.A_BO_PREINC, 48 R805
  | ldABoPostinc (a b : Reg) (off10 : BitVec 10) -- LD.A_BO_POSTINC, 48 R805
  | ldABoCirc (a b : Reg) (off10 : BitVec 10) -- LD.A_BO_CIRC, 48 R805
  | ldABoBrev (a b : Reg) -- LD.A_BO_BREV, 48 R805
  | ldBBoShort (a b : Reg) (off10 : BitVec 10) -- LD.B_BO_SHORT, 48 R806
  | ldBBoPreinc (a b : Reg) (off10 : BitVec 10) -- LD.B_BO_PREINC, 48 R806
  | ldBBoPostinc (a b : Reg) (off10 : BitVec 10) -- LD.B_BO_POSTINC, 48 R806
  | ldBBoCirc (a b : Reg) (off10 : BitVec 10) -- LD.B_BO_CIRC, 48 R806
  | ldBBoBrev (a b : Reg) -- LD.B_BO_BREV, 48 R806
  | ldBuBoShort (a b : Reg) (off10 : BitVec 10) -- LD.BU_BO_SHORT, 48 R807
  | ldBuBoPreinc (a b : Reg) (off10 : BitVec 10) -- LD.BU_BO_PREINC, 48 R807
  | ldBuBoPostinc (a b : Reg) (off10 : BitVec 10) -- LD.BU_BO_POSTINC, 48 R807
  | ldBuBoCirc (a b : Reg) (off10 : BitVec 10) -- LD.BU_BO_CIRC, 48 R807
  | ldBuBoBrev (a b : Reg) -- LD.BU_BO_BREV, 48 R807
  | ldDBoShort (a b : Reg) (off10 : BitVec 10) -- LD.D_BO_SHORT, 48 R808
  | ldDBoPreinc (a b : Reg) (off10 : BitVec 10) -- LD.D_BO_PREINC, 48 R808
  | ldDBoPostinc (a b : Reg) (off10 : BitVec 10) -- LD.D_BO_POSTINC, 48 R808
  | ldDBoCirc (a b : Reg) (off10 : BitVec 10) -- LD.D_BO_CIRC, 48 R808
  | ldDBoBrev (a b : Reg) -- LD.D_BO_BREV, 48 R808
  | ldDaBoShort (a b : Reg) (off10 : BitVec 10) -- LD.DA_BO_SHORT, 48 R809
  | ldDaBoPreinc (a b : Reg) (off10 : BitVec 10) -- LD.DA_BO_PREINC, 48 R809
  | ldDaBoPostinc (a b : Reg) (off10 : BitVec 10) -- LD.DA_BO_POSTINC, 48 R809
  | ldDaBoCirc (a b : Reg) (off10 : BitVec 10) -- LD.DA_BO_CIRC, 48 R809
  | ldDaBoBrev (a b : Reg) -- LD.DA_BO_BREV, 48 R809
  | ldHBoShort (a b : Reg) (off10 : BitVec 10) -- LD.H_BO_SHORT, 48 R810
  | ldHBoPreinc (a b : Reg) (off10 : BitVec 10) -- LD.H_BO_PREINC, 48 R810
  | ldHBoPostinc (a b : Reg) (off10 : BitVec 10) -- LD.H_BO_POSTINC, 48 R810
  | ldHBoCirc (a b : Reg) (off10 : BitVec 10) -- LD.H_BO_CIRC, 48 R810
  | ldHBoBrev (a b : Reg) -- LD.H_BO_BREV, 48 R810
  | ldHuBoShort (a b : Reg) (off10 : BitVec 10) -- LD.HU_BO_SHORT, 48 R811
  | ldHuBoPreinc (a b : Reg) (off10 : BitVec 10) -- LD.HU_BO_PREINC, 48 R811
  | ldHuBoPostinc (a b : Reg) (off10 : BitVec 10) -- LD.HU_BO_POSTINC, 48 R811
  | ldHuBoCirc (a b : Reg) (off10 : BitVec 10) -- LD.HU_BO_CIRC, 48 R811
  | ldHuBoBrev (a b : Reg) -- LD.HU_BO_BREV, 48 R811
  | ldQBoShort (a b : Reg) (off10 : BitVec 10) -- LD.Q_BO_SHORT, 48 R812
  | ldQBoPreinc (a b : Reg) (off10 : BitVec 10) -- LD.Q_BO_PREINC, 48 R812
  | ldQBoPostinc (a b : Reg) (off10 : BitVec 10) -- LD.Q_BO_POSTINC, 48 R812
  | ldQBoCirc (a b : Reg) (off10 : BitVec 10) -- LD.Q_BO_CIRC, 48 R812
  | ldQBoBrev (a b : Reg) -- LD.Q_BO_BREV, 48 R812
  | ldWBoShort (a b : Reg) (off10 : BitVec 10) -- LD.W_BO_SHORT, 48 R813
  | ldWBoPreinc (a b : Reg) (off10 : BitVec 10) -- LD.W_BO_PREINC, 48 R813
  | ldWBoPostinc (a b : Reg) (off10 : BitVec 10) -- LD.W_BO_POSTINC, 48 R813
  | ldWBoCirc (a b : Reg) (off10 : BitVec 10) -- LD.W_BO_CIRC, 48 R813
  | ldWBoBrev (a b : Reg) -- LD.W_BO_BREV, 48 R813
  | ldlcxBoShort (b : Reg) (off10 : BitVec 10) -- LDLCX_BO_SHORT, 49 R879
  | ldmstBoShort (a b : Reg) (off10 : BitVec 10) -- LDMST_BO_SHORT, 48 R822
  | ldmstBoPreinc (a b : Reg) (off10 : BitVec 10) -- LDMST_BO_PREINC, 48 R822
  | ldmstBoPostinc (a b : Reg) (off10 : BitVec 10) -- LDMST_BO_POSTINC, 48 R822
  | ldmstBoCirc (a b : Reg) (off10 : BitVec 10) -- LDMST_BO_CIRC, 48 R822
  | ldmstBoBrev (a b : Reg) -- LDMST_BO_BREV, 48 R822
  | lducxBoShort (b : Reg) (off10 : BitVec 10) -- LDUCX_BO_SHORT, 49 R877
  | leaBoShort (a b : Reg) (off10 : BitVec 10) -- LEA_BO_SHORT, 48 R830
  | leaBoPreinc (a b : Reg) (off10 : BitVec 10) -- LEA_BO_PREINC, 48 R830
  | leaBoPostinc (a b : Reg) (off10 : BitVec 10) -- LEA_BO_POSTINC, 48 R830
  | leaBoCirc (a b : Reg) (off10 : BitVec 10) -- LEA_BO_CIRC, 48 R830
  | leaBoBrev (a b : Reg) -- LEA_BO_BREV, 48 R830
  | stABoShort (a b : Reg) (off10 : BitVec 10) -- ST.A_BO_SHORT, 48 R814
  | stABoPreinc (a b : Reg) (off10 : BitVec 10) -- ST.A_BO_PREINC, 48 R814
  | stABoPostinc (a b : Reg) (off10 : BitVec 10) -- ST.A_BO_POSTINC, 48 R814
  | stABoCirc (a b : Reg) (off10 : BitVec 10) -- ST.A_BO_CIRC, 48 R814
  | stABoBrev (a b : Reg) -- ST.A_BO_BREV, 48 R814
  | stBBoShort (a b : Reg) (off10 : BitVec 10) -- ST.B_BO_SHORT, 48 R815
  | stBBoPreinc (a b : Reg) (off10 : BitVec 10) -- ST.B_BO_PREINC, 48 R815
  | stBBoPostinc (a b : Reg) (off10 : BitVec 10) -- ST.B_BO_POSTINC, 48 R815
  | stBBoCirc (a b : Reg) (off10 : BitVec 10) -- ST.B_BO_CIRC, 48 R815
  | stBBoBrev (a b : Reg) -- ST.B_BO_BREV, 48 R815
  | stDBoShort (a b : Reg) (off10 : BitVec 10) -- ST.D_BO_SHORT, 48 R816
  | stDBoPreinc (a b : Reg) (off10 : BitVec 10) -- ST.D_BO_PREINC, 48 R816
  | stDBoPostinc (a b : Reg) (off10 : BitVec 10) -- ST.D_BO_POSTINC, 48 R816
  | stDBoCirc (a b : Reg) (off10 : BitVec 10) -- ST.D_BO_CIRC, 48 R816
  | stDBoBrev (a b : Reg) -- ST.D_BO_BREV, 48 R816
  | stDaBoShort (a b : Reg) (off10 : BitVec 10) -- ST.DA_BO_SHORT, 48 R817
  | stDaBoPreinc (a b : Reg) (off10 : BitVec 10) -- ST.DA_BO_PREINC, 48 R817
  | stDaBoPostinc (a b : Reg) (off10 : BitVec 10) -- ST.DA_BO_POSTINC, 48 R817
  | stDaBoCirc (a b : Reg) (off10 : BitVec 10) -- ST.DA_BO_CIRC, 48 R817
  | stDaBoBrev (a b : Reg) -- ST.DA_BO_BREV, 48 R817
  | stHBoShort (a b : Reg) (off10 : BitVec 10) -- ST.H_BO_SHORT, 48 R818
  | stHBoPreinc (a b : Reg) (off10 : BitVec 10) -- ST.H_BO_PREINC, 48 R818
  | stHBoPostinc (a b : Reg) (off10 : BitVec 10) -- ST.H_BO_POSTINC, 48 R818
  | stHBoCirc (a b : Reg) (off10 : BitVec 10) -- ST.H_BO_CIRC, 48 R818
  | stHBoBrev (a b : Reg) -- ST.H_BO_BREV, 48 R818
  | stQBoShort (a b : Reg) (off10 : BitVec 10) -- ST.Q_BO_SHORT, 48 R819
  | stQBoPreinc (a b : Reg) (off10 : BitVec 10) -- ST.Q_BO_PREINC, 48 R819
  | stQBoPostinc (a b : Reg) (off10 : BitVec 10) -- ST.Q_BO_POSTINC, 48 R819
  | stQBoCirc (a b : Reg) (off10 : BitVec 10) -- ST.Q_BO_CIRC, 48 R819
  | stQBoBrev (a b : Reg) -- ST.Q_BO_BREV, 48 R819
  | stWBoShort (a b : Reg) (off10 : BitVec 10) -- ST.W_BO_SHORT, 48 R820
  | stWBoPreinc (a b : Reg) (off10 : BitVec 10) -- ST.W_BO_PREINC, 48 R820
  | stWBoPostinc (a b : Reg) (off10 : BitVec 10) -- ST.W_BO_POSTINC, 48 R820
  | stWBoCirc (a b : Reg) (off10 : BitVec 10) -- ST.W_BO_CIRC, 48 R820
  | stWBoBrev (a b : Reg) -- ST.W_BO_BREV, 48 R820
  | stlcxBoShort (b : Reg) (off10 : BitVec 10) -- STLCX_BO_SHORT, 49 R878
  | stucxBoShort (b : Reg) (off10 : BitVec 10) -- STUCX_BO_SHORT, 49 R876
  | swapABoShort (a b : Reg) (off10 : BitVec 10) -- SWAP.A_BO_SHORT, 48 R823
  | swapABoPreinc (a b : Reg) (off10 : BitVec 10) -- SWAP.A_BO_PREINC, 48 R823
  | swapABoPostinc (a b : Reg) (off10 : BitVec 10) -- SWAP.A_BO_POSTINC, 48 R823
  | swapABoCirc (a b : Reg) (off10 : BitVec 10) -- SWAP.A_BO_CIRC, 48 R823
  | swapABoBrev (a b : Reg) -- SWAP.A_BO_BREV, 48 R823
  | swapWBoShort (a b : Reg) (off10 : BitVec 10) -- SWAP.W_BO_SHORT, 48 R824
  | swapWBoPreinc (a b : Reg) (off10 : BitVec 10) -- SWAP.W_BO_PREINC, 48 R824
  | swapWBoPostinc (a b : Reg) (off10 : BitVec 10) -- SWAP.W_BO_POSTINC, 48 R824
  | swapWBoCirc (a b : Reg) (off10 : BitVec 10) -- SWAP.W_BO_CIRC, 48 R824
  | swapWBoBrev (a b : Reg) -- SWAP.W_BO_BREV, 48 R824
  -- format BOL, 32 bits
  | ldABol (a b : Reg) (off16 : BitVec 16) -- LD.A_BOL, 48 R805
  | ldWBol (a b : Reg) (off16 : BitVec 16) -- LD.W_BOL, 48 R813
  | leaBol (a b : Reg) (off16 : BitVec 16) -- LEA_BOL, 48 R830
  | stWBol (a b : Reg) (off16 : BitVec 16) -- ST.W_BOL, 48 R820
  -- format BRC, 32 bits
  | jeqBrc (a : Reg) (const4 : BitVec 4) (disp15 : BitVec 15) -- JEQ_BRC, 47 R750
  | jgeUBrc (a : Reg) (const4 : BitVec 4) (disp15 : BitVec 15) -- JGE.U_BRC, 47 R753
  | jgeBrc (a : Reg) (const4 : BitVec 4) (disp15 : BitVec 15) -- JGE_BRC, 47 R752
  | jltUBrc (a : Reg) (const4 : BitVec 4) (disp15 : BitVec 15) -- JLT.U_BRC, 47 R755
  | jltBrc (a : Reg) (const4 : BitVec 4) (disp15 : BitVec 15) -- JLT_BRC, 47 R754
  | jnedBrc (a : Reg) (const4 : BitVec 4) (disp15 : BitVec 15) -- JNED_BRC, 47 R766
  | jneiBrc (a : Reg) (const4 : BitVec 4) (disp15 : BitVec 15) -- JNEI_BRC, 47 R767
  | jneBrc (a : Reg) (const4 : BitVec 4) (disp15 : BitVec 15) -- JNE_BRC, 47 R751
  -- format BRR, 32 bits
  | jeqABrr (a b : Reg) (disp15 : BitVec 15) -- JEQ.A_BRR, 47 R776
  | jeqBrr (a b : Reg) (disp15 : BitVec 15) -- JEQ_BRR, 47 R750
  | jgeUBrr (a b : Reg) (disp15 : BitVec 15) -- JGE.U_BRR, 47 R753
  | jgeBrr (a b : Reg) (disp15 : BitVec 15) -- JGE_BRR, 47 R752
  | jltUBrr (a b : Reg) (disp15 : BitVec 15) -- JLT.U_BRR, 47 R755
  | jltBrr (a b : Reg) (disp15 : BitVec 15) -- JLT_BRR, 47 R754
  | jneABrr (a b : Reg) (disp15 : BitVec 15) -- JNE.A_BRR, 47 R777
  | jnedBrr (a b : Reg) (disp15 : BitVec 15) -- JNED_BRR, 47 R766
  | jneiBrr (a b : Reg) (disp15 : BitVec 15) -- JNEI_BRR, 47 R767
  | jneBrr (a b : Reg) (disp15 : BitVec 15) -- JNE_BRR, 47 R751
  | jnzABrr (a : Reg) (disp15 : BitVec 15) -- JNZ.A_BRR, 47 R778
  | jzABrr (a : Reg) (disp15 : BitVec 15) -- JZ.A_BRR, 47 R779
  | loopBrr (a : Reg) (disp15 : BitVec 15) -- LOOP_BRR, 47 R768
  -- format RC, 32 bits
  | absdifsRc (c a : Reg) (const9 : BitVec 9) -- ABSDIFS_RC, 40 R322
  | absdifRc (c a : Reg) (const9 : BitVec 9) -- ABSDIF_RC, 40 R321
  | addcRc (c a : Reg) (const9 : BitVec 9) -- ADDC_RC, 40 R308
  | addsURc (c a : Reg) (const9 : BitVec 9) -- ADDS.U_RC, 40 R310
  | addsRc (c a : Reg) (const9 : BitVec 9) -- ADDS_RC, 40 R309
  | addxRc (c a : Reg) (const9 : BitVec 9) -- ADDX_RC, 40 R307
  | addRc (c a : Reg) (const9 : BitVec 9) -- ADD_RC, 40 R304
  | andEqRc (c a : Reg) (const9 : BitVec 9) -- AND.EQ_RC, 45 R629
  | andGeURc (c a : Reg) (const9 : BitVec 9) -- AND.GE.U_RC, 45 R634
  | andGeRc (c a : Reg) (const9 : BitVec 9) -- AND.GE_RC, 45 R633
  | andLtURc (c a : Reg) (const9 : BitVec 9) -- AND.LT.U_RC, 45 R632
  | andLtRc (c a : Reg) (const9 : BitVec 9) -- AND.LT_RC, 45 R631
  | andNeRc (c a : Reg) (const9 : BitVec 9) -- AND.NE_RC, 45 R630
  | andnRc (c a : Reg) (const9 : BitVec 9) -- ANDN_RC, 42 R442
  | andRc (c a : Reg) (const9 : BitVec 9) -- AND_RC, 42 R441
  | bisrRc (const9 : BitVec 9) -- BISR_RC, 49 R874
  | eqanyBRc (c a : Reg) (const9 : BitVec 9) -- EQANY.B_RC, 45 R658
  | eqanyHRc (c a : Reg) (const9 : BitVec 9) -- EQANY.H_RC, 45 R659
  | eqRc (c a : Reg) (const9 : BitVec 9) -- EQ_RC, 45 R622
  | geURc (c a : Reg) (const9 : BitVec 9) -- GE.U_RC, 45 R627
  | geRc (c a : Reg) (const9 : BitVec 9) -- GE_RC, 45 R626
  | ltURc (c a : Reg) (const9 : BitVec 9) -- LT.U_RC, 45 R625
  | ltRc (c a : Reg) (const9 : BitVec 9) -- LT_RC, 45 R624
  | maxURc (c a : Reg) (const9 : BitVec 9) -- MAX.U_RC, 40 R324
  | maxRc (c a : Reg) (const9 : BitVec 9) -- MAX_RC, 40 R323
  | minURc (c a : Reg) (const9 : BitVec 9) -- MIN.U_RC, 40 R326
  | minRc (c a : Reg) (const9 : BitVec 9) -- MIN_RC, 40 R325
  | mulmURc (c a : Reg) (const9 : BitVec 9) -- MULM.U_RC, 41 R386
  | mulmRc (c a : Reg) (const9 : BitVec 9) -- MULM_RC, 41 R385
  | mulsURc (c a : Reg) (const9 : BitVec 9) -- MULS.U_RC, 41 R384
  | mulsRc (c a : Reg) (const9 : BitVec 9) -- MULS_RC, 41 R383
  | mulRc (c a : Reg) (const9 : BitVec 9) -- MUL_RC, 41 R382
  | nandRc (c a : Reg) (const9 : BitVec 9) -- NAND_RC, 42 R443
  | neRc (c a : Reg) (const9 : BitVec 9) -- NE_RC, 45 R623
  | norRc (c a : Reg) (const9 : BitVec 9) -- NOR_RC, 42 R444
  | orEqRc (c a : Reg) (const9 : BitVec 9) -- OR.EQ_RC, 45 R635
  | orGeURc (c a : Reg) (const9 : BitVec 9) -- OR.GE.U_RC, 45 R640
  | orGeRc (c a : Reg) (const9 : BitVec 9) -- OR.GE_RC, 45 R639
  | orLtURc (c a : Reg) (const9 : BitVec 9) -- OR.LT.U_RC, 45 R638
  | orLtRc (c a : Reg) (const9 : BitVec 9) -- OR.LT_RC, 45 R637
  | orNeRc (c a : Reg) (const9 : BitVec 9) -- OR.NE_RC, 45 R636
  | ornRc (c a : Reg) (const9 : BitVec 9) -- ORN_RC, 42 R447
  | orRc (c a : Reg) (const9 : BitVec 9) -- OR_RC, 42 R446
  | rsubsURc (c a : Reg) (const9 : BitVec 9) -- RSUBS.U_RC, 40 R318
  | rsubsRc (c a : Reg) (const9 : BitVec 9) -- RSUBS_RC, 40 R317
  | rsubRc (c a : Reg) (const9 : BitVec 9) -- RSUB_RC, 40 R316
  | shBRc (c a : Reg) (const9 : BitVec 9) -- SH.B_RC, 44 R591
  | shEqRc (c a : Reg) (const9 : BitVec 9) -- SH.EQ_RC, 45 R648
  | shGeURc (c a : Reg) (const9 : BitVec 9) -- SH.GE.U_RC, 45 R653
  | shGeRc (c a : Reg) (const9 : BitVec 9) -- SH.GE_RC, 45 R652
  | shHRc (c a : Reg) (const9 : BitVec 9) -- SH.H_RC, 44 R591
  | shLtURc (c a : Reg) (const9 : BitVec 9) -- SH.LT.U_RC, 45 R651
  | shLtRc (c a : Reg) (const9 : BitVec 9) -- SH.LT_RC, 45 R650
  | shNeRc (c a : Reg) (const9 : BitVec 9) -- SH.NE_RC, 45 R649
  | shaBRc (c a : Reg) (const9 : BitVec 9) -- SHA.B_RC, 44 R592
  | shaHRc (c a : Reg) (const9 : BitVec 9) -- SHA.H_RC, 44 R592
  | shasRc (c a : Reg) (const9 : BitVec 9) -- SHAS_RC, 42 R471
  | shaRc (c a : Reg) (const9 : BitVec 9) -- SHA_RC, 42 R470
  | shRc (c a : Reg) (const9 : BitVec 9) -- SH_RC, 42 R469
  | syscallRc (const9 : BitVec 9) -- SYSCALL_RC, 49 R885
  | xnorRc (c a : Reg) (const9 : BitVec 9) -- XNOR_RC, 42 R448
  | xorEqRc (c a : Reg) (const9 : BitVec 9) -- XOR.EQ_RC, 45 R641
  | xorGeURc (c a : Reg) (const9 : BitVec 9) -- XOR.GE.U_RC, 45 R646
  | xorGeRc (c a : Reg) (const9 : BitVec 9) -- XOR.GE_RC, 45 R645
  | xorLtURc (c a : Reg) (const9 : BitVec 9) -- XOR.LT.U_RC, 45 R644
  | xorLtRc (c a : Reg) (const9 : BitVec 9) -- XOR.LT_RC, 45 R643
  | xorNeRc (c a : Reg) (const9 : BitVec 9) -- XOR.NE_RC, 45 R642
  | xorRc (c a : Reg) (const9 : BitVec 9) -- XOR_RC, 42 R449
  -- format RCPW, 32 bits
  | imaskRcpw (c : Reg) (const4 : BitVec 4) (p w : BitVec 5) -- IMASK_RCPW, 42 R485
  | insertRcpw (c a : Reg) (const4 : BitVec 4) (p w : BitVec 5) -- INSERT_RCPW, 42 R484
  -- format RCR, 32 bits
  | caddARcr (c d a : Reg) (const9 : BitVec 9) -- CADD.A_RCR, 46 R714
  | caddnARcr (c d a : Reg) (const9 : BitVec 9) -- CADDN.A_RCR, 46 R715
  | caddnRcr (c d a : Reg) (const9 : BitVec 9) -- CADDN_RCR, 40 R332
  | caddRcr (c d a : Reg) (const9 : BitVec 9) -- CADD_RCR, 40 R331
  | maddmURcr (c d a : Reg) (const9 : BitVec 9) -- MADDM.U_RCR, 41 R391
  | maddmsURcr (c d a : Reg) (const9 : BitVec 9) -- MADDMS.U_RCR, 41 R393
  | maddmsRcr (c d a : Reg) (const9 : BitVec 9) -- MADDMS_RCR, 41 R392
  | maddmRcr (c d a : Reg) (const9 : BitVec 9) -- MADDM_RCR, 41 R390
  | maddsURcr (c d a : Reg) (const9 : BitVec 9) -- MADDS.U_RCR, 41 R389
  | maddsRcr (c d a : Reg) (const9 : BitVec 9) -- MADDS_RCR, 41 R388
  | maddRcr (c d a : Reg) (const9 : BitVec 9) -- MADD_RCR, 41 R387
  | msubmURcr (c d a : Reg) (const9 : BitVec 9) -- MSUBM.U_RCR, 41 R398
  | msubmsURcr (c d a : Reg) (const9 : BitVec 9) -- MSUBMS.U_RCR, 41 R400
  | msubmsRcr (c d a : Reg) (const9 : BitVec 9) -- MSUBMS_RCR, 41 R399
  | msubmRcr (c d a : Reg) (const9 : BitVec 9) -- MSUBM_RCR, 41 R397
  | msubsURcr (c d a : Reg) (const9 : BitVec 9) -- MSUBS.U_RCR, 41 R396
  | msubsRcr (c d a : Reg) (const9 : BitVec 9) -- MSUBS_RCR, 41 R395
  | msubRcr (c d a : Reg) (const9 : BitVec 9) -- MSUB_RCR, 41 R394
  | selARcr (c d a : Reg) (const9 : BitVec 9) -- SEL.A_RCR, 46 R718
  | selnARcr (c d a : Reg) (const9 : BitVec 9) -- SELN.A_RCR, 46 R719
  | selnRcr (c d a : Reg) (const9 : BitVec 9) -- SELN_RCR, 40 R338
  | selRcr (c d a : Reg) (const9 : BitVec 9) -- SEL_RCR, 40 R337
  -- format RCRR, 32 bits
  | insertRcrr (c a : Reg) (const4 : BitVec 4) (d : Reg) -- INSERT_RCRR, 42 R484
  -- format RCRW, 32 bits
  | imaskRcrw (c : Reg) (const4 : BitVec 4) (d : Reg) (w : BitVec 5) -- IMASK_RCRW, 42 R485
  | insertRcrw (c a : Reg) (const4 : BitVec 4) (d : Reg) (w : BitVec 5) -- INSERT_RCRW, 42 R484
  -- format RLC, 32 bits
  | addihARlc (c a : Reg) (const16 : BitVec 16) -- ADDIH.A_RLC, 46 R702
  | addihRlc (c a : Reg) (const16 : BitVec 16) -- ADDIH_RLC, 40 R306
  | addiRlc (c a : Reg) (const16 : BitVec 16) -- ADDI_RLC, 40 R305
  | mfcrRlc (c : Reg) (const16 : BitVec 16) -- MFCR_RLC, 49 R900
  | movURlc (c : Reg) (const16 : BitVec 16) -- MOV.U_RLC, 40 R302
  | movhARlc (c : Reg) (const16 : BitVec 16) -- MOVH.A_RLC, 46 R711
  | movhRlc (c : Reg) (const16 : BitVec 16) -- MOVH_RLC, 40 R303
  | movRlc (c : Reg) (const16 : BitVec 16) -- MOV_RLC, 40 R301
  | mtcrRlc (const16 : BitVec 16) (a : Reg) -- MTCR_RLC, 49 R901
  -- format RR, 32 bits
  | absBRr (c a : Reg) -- ABS.B_RR, 44 R555
  | absHRr (c a : Reg) -- ABS.H_RR, 44 R555
  | absdifBRr (c a b : Reg) -- ABSDIF.B_RR, 44 R557
  | absdifHRr (c a b : Reg) -- ABSDIF.H_RR, 44 R557
  | absdifsBRr (c a b : Reg) -- ABSDIFS.B_RR, 44 R558
  | absdifsHRr (c a b : Reg) -- ABSDIFS.H_RR, 44 R558
  | absdifsRr (c a b : Reg) -- ABSDIFS_RR, 40 R322
  | absdifRr (c a b : Reg) -- ABSDIF_RR, 40 R321
  | abssBRr (c a : Reg) -- ABSS.B_RR, 44 R556
  | abssHRr (c a : Reg) -- ABSS.H_RR, 44 R556
  | abssRr (c a : Reg) -- ABSS_RR, 40 R320
  | absRr (c a : Reg) -- ABS_RR, 40 R319
  | addARr (c a b : Reg) -- ADD.A_RR, 46 R701
  | addBRr (c a b : Reg) -- ADD.B_RR, 44 R560
  | addHRr (c a b : Reg) -- ADD.H_RR, 44 R560
  | addcRr (c a b : Reg) -- ADDC_RR, 40 R308
  | addsBuRr (c a b : Reg) -- ADDS.BU_RR, 44 R562
  | addsBRr (c a b : Reg) -- ADDS.B_RR, 44 R561
  | addsHuRr (c a b : Reg) -- ADDS.HU_RR, 44 R562
  | addsHRr (c a b : Reg) -- ADDS.H_RR, 44 R561
  | addsURr (c a b : Reg) -- ADDS.U_RR, 40 R310
  | addscAtRr (c a b : Reg) -- ADDSC.AT_RR, 46 R704
  | addscARr (c a b : Reg) (n : BitVec 2) -- ADDSC.A_RR, 46 R703
  | addsRr (c a b : Reg) -- ADDS_RR, 40 R309
  | addxRr (c a b : Reg) -- ADDX_RR, 40 R307
  | addRr (c a b : Reg) -- ADD_RR, 40 R304
  | andEqRr (c a b : Reg) -- AND.EQ_RR, 45 R629
  | andGeURr (c a b : Reg) -- AND.GE.U_RR, 45 R634
  | andGeRr (c a b : Reg) -- AND.GE_RR, 45 R633
  | andLtURr (c a b : Reg) -- AND.LT.U_RR, 45 R632
  | andLtRr (c a b : Reg) -- AND.LT_RR, 45 R631
  | andNeRr (c a b : Reg) -- AND.NE_RR, 45 R630
  | andnRr (c a b : Reg) -- ANDN_RR, 42 R442
  | andRr (c a b : Reg) -- AND_RR, 42 R441
  | calliRr (b : Reg) -- CALLI_RR, 47 R773
  | cloBRr (c a : Reg) -- CLO.B_RR, 44 R581
  | cloHRr (c a : Reg) -- CLO.H_RR, 44 R581
  | cloRr (c a : Reg) -- CLO_RR, 42 R452
  | clsBRr (c a : Reg) -- CLS.B_RR, 44 R582
  | clsHRr (c a : Reg) -- CLS.H_RR, 44 R582
  | clsRr (c a : Reg) -- CLS_RR, 42 R453
  | clzBRr (c a : Reg) -- CLZ.B_RR, 44 R580
  | clzHRr (c a : Reg) -- CLZ.H_RR, 44 R580
  | clzRr (c a : Reg) -- CLZ_RR, 42 R451
  | difscARr (c a b : Reg) (n : BitVec 2) -- DIFSC.A_RR, 46 R707
  | dvinitBuRr (c a b : Reg) -- DVINIT.BU_RR, 41 R422
  | dvinitBRr (c a b : Reg) -- DVINIT.B_RR, 41 R422
  | dvinitHuRr (c a b : Reg) -- DVINIT.HU_RR, 41 R422
  | dvinitHRr (c a b : Reg) -- DVINIT.H_RR, 41 R422
  | dvinitURr (c a b : Reg) -- DVINIT.U_RR, 41 R422
  | dvinitRr (c a b : Reg) -- DVINIT_RR, 41 R422
  | eqARr (c a b : Reg) -- EQ.A_RR, 46 R721
  | eqBRr (c a b : Reg) -- EQ.B_RR, 45 R655
  | eqHRr (c a b : Reg) -- EQ.H_RR, 45 R656
  | eqWRr (c a b : Reg) -- EQ.W_RR, 45 R657
  | eqanyBRr (c a b : Reg) -- EQANY.B_RR, 45 R658
  | eqanyHRr (c a b : Reg) -- EQANY.H_RR, 45 R659
  | eqzARr (c a : Reg) -- EQZ.A_RR, 46 R725
  | eqRr (c a b : Reg) -- EQ_RR, 45 R622
  | geARr (c a b : Reg) -- GE.A_RR, 46 R724
  | geURr (c a b : Reg) -- GE.U_RR, 45 R627
  | geRr (c a b : Reg) -- GE_RR, 45 R626
  | jiRr (b : Reg) -- JI_RR, 47 R748
  | jliRr (b : Reg) -- JLI_RR, 47 R747
  | ltARr (c a b : Reg) -- LT.A_RR, 46 R723
  | ltBuRr (c a b : Reg) -- LT.BU_RR, 45 R661
  | ltBRr (c a b : Reg) -- LT.B_RR, 45 R660
  | ltHuRr (c a b : Reg) -- LT.HU_RR, 45 R663
  | ltHRr (c a b : Reg) -- LT.H_RR, 45 R662
  | ltURr (c a b : Reg) -- LT.U_RR, 45 R625
  | ltWuRr (c a b : Reg) -- LT.WU_RR, 45 R665
  | ltWRr (c a b : Reg) -- LT.W_RR, 45 R664
  | ltRr (c a b : Reg) -- LT_RR, 45 R624
  | maxBuRr (c a b : Reg) -- MAX.BU_RR, 44 R571
  | maxBRr (c a b : Reg) -- MAX.B_RR, 44 R570
  | maxHuRr (c a b : Reg) -- MAX.HU_RR, 44 R571
  | maxHRr (c a b : Reg) -- MAX.H_RR, 44 R570
  | maxURr (c a b : Reg) -- MAX.U_RR, 40 R324
  | maxRr (c a b : Reg) -- MAX_RR, 40 R323
  | minBuRr (c a b : Reg) -- MIN.BU_RR, 44 R573
  | minBRr (c a b : Reg) -- MIN.B_RR, 44 R572
  | minHuRr (c a b : Reg) -- MIN.HU_RR, 44 R573
  | minHRr (c a b : Reg) -- MIN.H_RR, 44 R572
  | minURr (c a b : Reg) -- MIN.U_RR, 40 R326
  | minRr (c a b : Reg) -- MIN_RR, 40 R325
  | movAaRr (c b : Reg) -- MOV.AA_RR, 46 R709
  | movARr (c b : Reg) -- MOV.A_RR, 46 R708
  | movDRr (c b : Reg) -- MOV.D_RR, 46 R710
  | movRr (c b : Reg) -- MOV_RR, 40 R301
  | mulHRr (c a b : Reg) (n : BitVec 2) -- MUL.H_RR, 43 R506
  | mulQRr (c a b : Reg) (n : BitVec 2) -- MUL.Q_RR, 43 R504
  | mulmURr (c a b : Reg) -- MULM.U_RR, 41 R386
  | mulmRr (c a b : Reg) -- MULM_RR, 41 R385
  | mulrHRr (c a b : Reg) (n : BitVec 2) -- MULR.H_RR, 43 R507
  | mulrQRr (c a b : Reg) (n : BitVec 2) -- MULR.Q_RR, 43 R505
  | mulsURr (c a b : Reg) -- MULS.U_RR, 41 R384
  | mulsRr (c a b : Reg) -- MULS_RR, 41 R383
  | mulRr (c a b : Reg) -- MUL_RR, 41 R382
  | nandRr (c a b : Reg) -- NAND_RR, 42 R443
  | neARr (c a b : Reg) -- NE.A_RR, 46 R722
  | nezARr (c a : Reg) -- NEZ.A_RR, 46 R726
  | neRr (c a b : Reg) -- NE_RR, 45 R623
  | norRr (c a b : Reg) -- NOR_RR, 42 R444
  | orEqRr (c a b : Reg) -- OR.EQ_RR, 45 R635
  | orGeURr (c a b : Reg) -- OR.GE.U_RR, 45 R640
  | orGeRr (c a b : Reg) -- OR.GE_RR, 45 R639
  | orLtURr (c a b : Reg) -- OR.LT.U_RR, 45 R638
  | orLtRr (c a b : Reg) -- OR.LT_RR, 45 R637
  | orNeRr (c a b : Reg) -- OR.NE_RR, 45 R636
  | ornRr (c a b : Reg) -- ORN_RR, 42 R447
  | orRr (c a b : Reg) -- OR_RR, 42 R446
  | satBuRr (c a : Reg) -- SAT.BU_RR, 40 R328
  | satBRr (c a : Reg) -- SAT.B_RR, 40 R327
  | satHuRr (c a : Reg) -- SAT.HU_RR, 40 R330
  | satHRr (c a : Reg) -- SAT.H_RR, 40 R329
  | shBRr (c a b : Reg) -- SH.B_RR, 44 R591
  | shEqRr (c a b : Reg) -- SH.EQ_RR, 45 R648
  | shGeURr (c a b : Reg) -- SH.GE.U_RR, 45 R653
  | shGeRr (c a b : Reg) -- SH.GE_RR, 45 R652
  | shHRr (c a b : Reg) -- SH.H_RR, 44 R591
  | shLtURr (c a b : Reg) -- SH.LT.U_RR, 45 R651
  | shLtRr (c a b : Reg) -- SH.LT_RR, 45 R650
  | shNeRr (c a b : Reg) -- SH.NE_RR, 45 R649
  | shaBRr (c a b : Reg) -- SHA.B_RR, 44 R592
  | shaHRr (c a b : Reg) -- SHA.H_RR, 44 R592
  | shasRr (c a b : Reg) -- SHAS_RR, 42 R471
  | shaRr (c a b : Reg) -- SHA_RR, 42 R470
  | shRr (c a b : Reg) -- SH_RR, 42 R469
  | subARr (c a b : Reg) -- SUB.A_RR, 46 R705
  | subBRr (c a b : Reg) -- SUB.B_RR, 44 R563
  | subHRr (c a b : Reg) -- SUB.H_RR, 44 R563
  | subcRr (c a b : Reg) -- SUBC_RR, 40 R313
  | subsBuRr (c a b : Reg) -- SUBS.BU_RR, 44 R565
  | subsBRr (c a b : Reg) -- SUBS.B_RR, 44 R564
  | subsHuRr (c a b : Reg) -- SUBS.HU_RR, 44 R565
  | subsHRr (c a b : Reg) -- SUBS.H_RR, 44 R564
  | subsURr (c a b : Reg) -- SUBS.U_RR, 40 R315
  | subscARr (c a b : Reg) (n : BitVec 2) -- SUBSC.A_RR, 46 R706
  | subsRr (c a b : Reg) -- SUBS_RR, 40 R314
  | subxRr (c a b : Reg) -- SUBX_RR, 40 R312
  | subRr (c a b : Reg) -- SUB_RR, 40 R311
  | xnorRr (c a b : Reg) -- XNOR_RR, 42 R448
  | xorEqRr (c a b : Reg) -- XOR.EQ_RR, 45 R641
  | xorGeURr (c a b : Reg) -- XOR.GE.U_RR, 45 R646
  | xorGeRr (c a b : Reg) -- XOR.GE_RR, 45 R645
  | xorLtURr (c a b : Reg) -- XOR.LT.U_RR, 45 R644
  | xorLtRr (c a b : Reg) -- XOR.LT_RR, 45 R643
  | xorNeRr (c a b : Reg) -- XOR.NE_RR, 45 R642
  | xorRr (c a b : Reg) -- XOR_RR, 42 R449
  -- format RRPW, 32 bits
  | dextrRrpw (c a b : Reg) (p : BitVec 5) -- DEXTR_RRPW, 42 R483
  | extrURrpw (c a : Reg) (p w : BitVec 5) -- EXTR.U_RRPW, 42 R482
  | extrRrpw (c a : Reg) (p w : BitVec 5) -- EXTR_RRPW, 42 R481
  | imaskRrpw (c b : Reg) (p w : BitVec 5) -- IMASK_RRPW, 42 R485
  | insertRrpw (c a b : Reg) (p w : BitVec 5) -- INSERT_RRPW, 42 R484
  -- format RRR, 32 bits
  | caddARrr (c d a b : Reg) -- CADD.A_RRR, 46 R714
  | caddnARrr (c d a b : Reg) -- CADDN.A_RRR, 46 R715
  | caddnRrr (c d a b : Reg) -- CADDN_RRR, 40 R332
  | caddRrr (c d a b : Reg) -- CADD_RRR, 40 R331
  | csubARrr (c d a b : Reg) -- CSUB.A_RRR, 46 R716
  | csubnARrr (c d a b : Reg) -- CSUBN.A_RRR, 46 R717
  | csubnRrr (c d a b : Reg) -- CSUBN_RRR, 40 R334
  | csubRrr (c d a b : Reg) -- CSUB_RRR, 40 R333
  | dvadjRrr (c d b : Reg) -- DVADJ_RRR, 41 R427
  | dvstepURrr (c d b : Reg) -- DVSTEP.U_RRR, 41 R426
  | dvstepRrr (c d b : Reg) -- DVSTEP_RRR, 41 R425
  | maddHRrr (c d a b : Reg) (n : BitVec 2) -- MADD.H_RRR, 43 R513
  | maddQRrr (c d a b : Reg) (n : BitVec 2) -- MADD.Q_RRR, 43 R508
  | maddmHRrr (c d a b : Reg) -- MADDM.H_RRR, 43 R517
  | maddmQRrr (c d a b : Reg) -- MADDM.Q_RRR, 43 R512
  | maddmURrr (c d a b : Reg) -- MADDM.U_RRR, 41 R391
  | maddmsURrr (c d a b : Reg) -- MADDMS.U_RRR, 41 R393
  | maddmsRrr (c d a b : Reg) -- MADDMS_RRR, 41 R392
  | maddmRrr (c d a b : Reg) -- MADDM_RRR, 41 R390
  | maddrHRrr (c d a b : Reg) (n : BitVec 2) -- MADDR.H_RRR, 43 R515
  | maddrQRrr (c d a b : Reg) (n : BitVec 2) -- MADDR.Q_RRR, 43 R510
  | maddrsHRrr (c d a b : Reg) (n : BitVec 2) -- MADDRS.H_RRR, 43 R516
  | maddrsQRrr (c d a b : Reg) (n : BitVec 2) -- MADDRS.Q_RRR, 43 R511
  | maddsHRrr (c d a b : Reg) (n : BitVec 2) -- MADDS.H_RRR, 43 R514
  | maddsQRrr (c d a b : Reg) (n : BitVec 2) -- MADDS.Q_RRR, 43 R509
  | maddsURrr (c d a b : Reg) -- MADDS.U_RRR, 41 R389
  | maddsRrr (c d a b : Reg) -- MADDS_RRR, 41 R388
  | maddRrr (c d a b : Reg) -- MADD_RRR, 41 R387
  | msubHRrr (c d a b : Reg) (n : BitVec 2) -- MSUB.H_RRR, 43 R523
  | msubQRrr (c d a b : Reg) (n : BitVec 2) -- MSUB.Q_RRR, 43 R518
  | msubmHRrr (c d a b : Reg) -- MSUBM.H_RRR, 43 R527
  | msubmQRrr (c d a b : Reg) -- MSUBM.Q_RRR, 43 R522
  | msubmURrr (c d a b : Reg) -- MSUBM.U_RRR, 41 R398
  | msubmsURrr (c d a b : Reg) -- MSUBMS.U_RRR, 41 R400
  | msubmsRrr (c d a b : Reg) -- MSUBMS_RRR, 41 R399
  | msubmRrr (c d a b : Reg) -- MSUBM_RRR, 41 R397
  | msubrHRrr (c d a b : Reg) (n : BitVec 2) -- MSUBR.H_RRR, 43 R525
  | msubrQRrr (c d a b : Reg) (n : BitVec 2) -- MSUBR.Q_RRR, 43 R520
  | msubrsHRrr (c d a b : Reg) (n : BitVec 2) -- MSUBRS.H_RRR, 43 R526
  | msubrsQRrr (c d a b : Reg) (n : BitVec 2) -- MSUBRS.Q_RRR, 43 R521
  | msubsHRrr (c d a b : Reg) (n : BitVec 2) -- MSUBS.H_RRR, 43 R524
  | msubsQRrr (c d a b : Reg) (n : BitVec 2) -- MSUBS.Q_RRR, 43 R519
  | msubsURrr (c d a b : Reg) -- MSUBS.U_RRR, 41 R396
  | msubsRrr (c d a b : Reg) -- MSUBS_RRR, 41 R395
  | msubRrr (c d a b : Reg) -- MSUB_RRR, 41 R394
  | selARrr (c d a b : Reg) -- SEL.A_RRR, 46 R718
  | selnARrr (c d a b : Reg) -- SELN.A_RRR, 46 R719
  | selnRrr (c d a b : Reg) -- SELN_RRR, 40 R338
  | selRrr (c d a b : Reg) -- SEL_RRR, 40 R337
  -- format RRRR, 32 bits
  | dextrRrrr (c a b d : Reg) -- DEXTR_RRRR, 42 R483
  | extrURrrr (c a d : Reg) -- EXTR.U_RRRR, 42 R482
  | extrRrrr (c a d : Reg) -- EXTR_RRRR, 42 R481
  | insertRrrr (c a b d : Reg) -- INSERT_RRRR, 42 R484
  -- format RRRW, 32 bits
  | extrURrrw (c a d : Reg) (w : BitVec 5) -- EXTR.U_RRRW, 42 R482
  | extrRrrw (c a d : Reg) (w : BitVec 5) -- EXTR_RRRW, 42 R481
  | imaskRrrw (c b d : Reg) (w : BitVec 5) -- IMASK_RRRW, 42 R485
  | insertRrrw (c a b d : Reg) (w : BitVec 5) -- INSERT_RRRW, 42 R484
  -- format SYS, 32 bits
  | debugSys -- DEBUG_SYS, 49 R910
  | disableSys -- DISABLE_SYS, 49 R891
  | dsyncSys -- DSYNC_SYS, 49 R895
  | enableSys -- ENABLE_SYS, 49 R890
  | isyncSys -- ISYNC_SYS, 49 R896
  | nopSys -- NOP_SYS, 49 R897
  | retSys -- RET_SYS, 47 R774
  | rfeSys -- RFE_SYS, 49 R880
  | rslcxSys -- RSLCX_SYS, 49 R873
  | rstvSys -- RSTV_SYS, 49 R903
  | svlcxSys -- SVLCX_SYS, 49 R872
  | trapsvSys -- TRAPSV_SYS, 49 R906
  | trapvSys -- TRAPV_SYS, 49 R905
  -- format SRRS, 16 bits
  | addscASrrs (a b : Reg) (n : BitVec 2) -- ADDSC.A_SRRS, 46 R703
  -- format SBRN, 16 bits
  | jnzTSbrn (n : BitVec 5) (disp4 : BitVec 4) -- JNZ.T_SBRN, 47 R762
  | jzTSbrn (n : BitVec 5) (disp4 : BitVec 4) -- JZ.T_SBRN, 47 R763
  -- format SB, 16 bits
  | jnzSb (disp8 : BitVec 8) -- JNZ_SB, 47 R760
  | jzSb (disp8 : BitVec 8) -- JZ_SB, 47 R761
  | jSb (disp8 : BitVec 8) -- J_SB, 47 R742
  -- format SBC, 16 bits
  | jeqSbc (const4 disp4 : BitVec 4) -- JEQ_SBC, 47 R750
  | jneSbc (const4 disp4 : BitVec 4) -- JNE_SBC, 47 R751
  -- format SBR, 16 bits
  | jeqSbr (b : Reg) (disp4 : BitVec 4) -- JEQ_SBR, 47 R750
  | jgezSbr (b : Reg) (disp4 : BitVec 4) -- JGEZ_SBR, 47 R756
  | jgtzSbr (b : Reg) (disp4 : BitVec 4) -- JGTZ_SBR, 47 R757
  | jiSbr (b : Reg) -- JI_SBR, 47 R748
  | jlezSbr (b : Reg) (disp4 : BitVec 4) -- JLEZ_SBR, 47 R758
  | jltzSbr (b : Reg) (disp4 : BitVec 4) -- JLTZ_SBR, 47 R759
  | jneSbr (b : Reg) (disp4 : BitVec 4) -- JNE_SBR, 47 R751
  | jnzASbr (b : Reg) (disp4 : BitVec 4) -- JNZ.A_SBR, 47 R778
  | jnzSbr (b : Reg) (disp4 : BitVec 4) -- JNZ_SBR, 47 R760
  | jzASbr (b : Reg) (disp4 : BitVec 4) -- JZ.A_SBR, 47 R779
  | jzSbr (b : Reg) (disp4 : BitVec 4) -- JZ_SBR, 47 R761
  | loopSbr (b : Reg) (disp4 : BitVec 4) -- LOOP_SBR, 47 R768
  -- format SC, 16 bits
  | andSc (const8 : BitVec 8) -- AND_SC, 42 R441
  | bisrSc (const8 : BitVec 8) -- BISR_SC, 49 R874
  | movSc (const8 : BitVec 8) -- MOV_SC, 40 R301
  | orSc (const8 : BitVec 8) -- OR_SC, 42 R446
  | subASc (const8 : BitVec 8) -- SUB.A_SC, 46 R705
  -- format SLR, 16 bits
  | ldASlr (a b : Reg) -- LD.A_SLR, 48 R841
  | ldASlrPostinc (a b : Reg) -- LD.A_SLR_POSTINC, 48 R841
  | ldBuSlr (a b : Reg) -- LD.BU_SLR, 48 R843
  | ldBuSlrPostinc (a b : Reg) -- LD.BU_SLR_POSTINC, 48 R843
  | ldBSlr (a b : Reg) -- LD.B_SLR, 48 R842
  | ldBSlrPostinc (a b : Reg) -- LD.B_SLR_POSTINC, 48 R842
  | ldHSlr (a b : Reg) -- LD.H_SLR, 48 R844
  | ldHSlrPostinc (a b : Reg) -- LD.H_SLR_POSTINC, 48 R844
  | ldWSlr (a b : Reg) -- LD.W_SLR, 48 R845
  | ldWSlrPostinc (a b : Reg) -- LD.W_SLR_POSTINC, 48 R845
  -- format SLRO, 16 bits
  | ldASlro (a : Reg) (off4 : BitVec 4) -- LD.A_SLRO, 48 R841
  | ldBuSlro (a : Reg) (off4 : BitVec 4) -- LD.BU_SLRO, 48 R843
  | ldBSlro (a : Reg) (off4 : BitVec 4) -- LD.B_SLRO, 48 R842
  | ldHSlro (a : Reg) (off4 : BitVec 4) -- LD.H_SLRO, 48 R844
  | ldWSlro (a : Reg) (off4 : BitVec 4) -- LD.W_SLRO, 48 R845
  -- format SR, 16 bits
  | debugSr -- DEBUG_SR, 49 R910
  | movzASr (a : Reg) -- MOVZ.A_SR, 46 R713
  | nopSr -- NOP_SR, 49 R897
  | notSr (a : Reg) -- NOT_SR, 42 R445
  | retSr -- RET_SR, 47 R774
  | rfeSr -- RFE_SR, 49 R880
  | rsubSr (a : Reg) -- RSUB_SR, 40 R316
  | satBuSr (a : Reg) -- SAT.BU_SR, 40 R328
  | satBSr (a : Reg) -- SAT.B_SR, 40 R327
  | satHuSr (a : Reg) -- SAT.HU_SR, 40 R330
  | satHSr (a : Reg) -- SAT.H_SR, 40 R329
  -- format SRC, 16 bits
  | addSrc (a : Reg) (const4 : BitVec 4) -- ADD_SRC, 40 R304
  | addSrcD15 (a : Reg) (const4 : BitVec 4) -- ADD_SRC_D15, 40 R304
  | caddnSrc (a : Reg) (const4 : BitVec 4) -- CADDN_SRC, 40 R332
  | caddSrc (a : Reg) (const4 : BitVec 4) -- CADD_SRC, 40 R331
  | cmovnSrc (a : Reg) (const4 : BitVec 4) -- CMOVN_SRC, 40 R336
  | cmovSrc (a : Reg) (const4 : BitVec 4) -- CMOV_SRC, 40 R335
  | eqSrc (a : Reg) (const4 : BitVec 4) -- EQ_SRC, 45 R622
  | ltUSrc (a : Reg) (const4 : BitVec 4) -- LT.U_SRC, 45 R625
  | ltSrc (a : Reg) (const4 : BitVec 4) -- LT_SRC, 45 R624
  | movSrc (a : Reg) (const4 : BitVec 4) -- MOV_SRC, 40 R301
  | shaSrc (a : Reg) (const4 : BitVec 4) -- SHA_SRC, 42 R470
  | shSrc (a : Reg) (const4 : BitVec 4) -- SH_SRC, 42 R469
  -- format SRO, 16 bits
  | ldASro (b : Reg) (off4 : BitVec 4) -- LD.A_SRO, 48 R841
  | ldBuSro (b : Reg) (off4 : BitVec 4) -- LD.BU_SRO, 48 R843
  | ldBSro (b : Reg) (off4 : BitVec 4) -- LD.B_SRO, 48 R842
  | ldHSro (b : Reg) (off4 : BitVec 4) -- LD.H_SRO, 48 R844
  | ldWSro (b : Reg) (off4 : BitVec 4) -- LD.W_SRO, 48 R845
  | stASro (b : Reg) (off4 : BitVec 4) -- ST.A_SRO, 48 R846
  | stBSro (b : Reg) (off4 : BitVec 4) -- ST.B_SRO, 48 R847
  | stHSro (b : Reg) (off4 : BitVec 4) -- ST.H_SRO, 48 R848
  | stWSro (b : Reg) (off4 : BitVec 4) -- ST.W_SRO, 48 R849
  -- format SRR, 16 bits
  | addSrr (a b : Reg) -- ADD_SRR, 40 R304
  | addSrrD15 (a b : Reg) -- ADD_SRR_D15, 40 R304
  | andSrr (a b : Reg) -- AND_SRR, 42 R441
  | caddnSrr (a b : Reg) -- CADDN_SRR, 40 R332
  | caddSrr (a b : Reg) -- CADD_SRR, 40 R331
  | cmovnSrr (a b : Reg) -- CMOVN_SRR, 40 R336
  | cmovSrr (a b : Reg) -- CMOV_SRR, 40 R335
  | dvadjSrr (a b : Reg) -- DVADJ_SRR, 41 R427
  | dvstepUSrr (a b : Reg) -- DVSTEP.U_SRR, 41 R426
  | dvstepSrr (a b : Reg) -- DVSTEP_SRR, 41 R425
  | eqSrr (a b : Reg) -- EQ_SRR, 45 R622
  | ltUSrr (a b : Reg) -- LT.U_SRR, 45 R625
  | ltSrr (a b : Reg) -- LT_SRR, 45 R624
  | movAaSrr (a b : Reg) -- MOV.AA_SRR, 46 R709
  | movASrr (a b : Reg) -- MOV.A_SRR, 46 R708
  | movDSrr (a b : Reg) -- MOV.D_SRR, 46 R710
  | movSrr (a b : Reg) -- MOV_SRR, 40 R301
  | mulSrr (a b : Reg) -- MUL_SRR, 41 R382
  | orSrr (a b : Reg) -- OR_SRR, 42 R446
  | subsSrr (a b : Reg) -- SUBS_SRR, 40 R314
  | subSrr (a b : Reg) -- SUB_SRR, 40 R311
  | subSrrD15 (a b : Reg) -- SUB_SRR_D15, 40 R311
  -- format SSR, 16 bits
  | stASsr (a b : Reg) -- ST.A_SSR, 48 R846
  | stASsrPostinc (a b : Reg) -- ST.A_SSR_POSTINC, 48 R846
  | stBSsr (a b : Reg) -- ST.B_SSR, 48 R847
  | stBSsrPostinc (a b : Reg) -- ST.B_SSR_POSTINC, 48 R847
  | stHSsr (a b : Reg) -- ST.H_SSR, 48 R848
  | stHSsrPostinc (a b : Reg) -- ST.H_SSR_POSTINC, 48 R848
  | stWSsr (a b : Reg) -- ST.W_SSR, 48 R849
  | stWSsrPostinc (a b : Reg) -- ST.W_SSR_POSTINC, 48 R849
  -- format SSRO, 16 bits
  | stASsro (a : Reg) (off4 : BitVec 4) -- ST.A_SSRO, 48 R846
  | stBSsro (a : Reg) (off4 : BitVec 4) -- ST.B_SSRO, 48 R847
  | stHSsro (a : Reg) (off4 : BitVec 4) -- ST.H_SSRO, 48 R848
  | stWSsro (a : Reg) (off4 : BitVec 4) -- ST.W_SSRO, 48 R849
deriving DecidableEq, Repr

end Sys2Proof
end

