-- ==== Sys2Proof/WellFormed.lean ====
section
/-! DEFINITION. WellFormed.lean: the operand values an instruction may hold: pair operands even (30 R226), the Q-format shift 0 or 1 (43 R500). An ill-formed instruction still decodes and its meaning says what happens: OPD for an odd pair, a refusal for a shift of 2 or 3. -/

namespace Sys2Proof

/-- A register number that can name a pair: even (10 R43, 30 R225). -/
def Reg.isPair (r : Reg) : Bool := r.val % 2 == 0

/-- A shift operand the Q-format multiplies define: 0 or 1 (43 R500). -/
def isQShift (n : BitVec 2) : Bool := n == 0 || n == 1

/-- Every pair operand is even and every Q-format shift is defined. -/
def Instr.wellFormed : Instr → Bool
  | .jnzTBrn _ _ _ => true
  | .jzTBrn _ _ _ => true
  | .ldAAbs _ _ => true
  | .ldBuAbs _ _ => true
  | .ldBAbs _ _ => true
  | .ldDaAbs a _ => Reg.isPair a
  | .ldDAbs a _ => Reg.isPair a
  | .ldHuAbs _ _ => true
  | .ldHAbs _ _ => true
  | .ldQAbs _ _ => true
  | .ldWAbs _ _ => true
  | .ldlcxAbs _ => true
  | .ldmstAbs a _ => Reg.isPair a
  | .lducxAbs _ => true
  | .leaAbs _ _ => true
  | .stAAbs _ _ => true
  | .stBAbs _ _ => true
  | .stDaAbs a _ => Reg.isPair a
  | .stDAbs a _ => Reg.isPair a
  | .stHAbs _ _ => true
  | .stQAbs _ _ => true
  | .stWAbs _ _ => true
  | .stlcxAbs _ => true
  | .stucxAbs _ => true
  | .swapAAbs _ _ => true
  | .swapWAbs _ _ => true
  | .stTAbsb _ _ _ => true
  | .callaB _ => true
  | .callB _ => true
  | .jaB _ => true
  | .jlaB _ => true
  | .jlB _ => true
  | .jB _ => true
  | .andAndTBit _ _ _ _ _ => true
  | .andAndnTBit _ _ _ _ _ => true
  | .andNorTBit _ _ _ _ _ => true
  | .andOrTBit _ _ _ _ _ => true
  | .andTBit _ _ _ _ _ => true
  | .andnTBit _ _ _ _ _ => true
  | .insTBit _ _ _ _ _ => true
  | .insnTBit _ _ _ _ _ => true
  | .nandTBit _ _ _ _ _ => true
  | .norTBit _ _ _ _ _ => true
  | .orAndTBit _ _ _ _ _ => true
  | .orAndnTBit _ _ _ _ _ => true
  | .orNorTBit _ _ _ _ _ => true
  | .orOrTBit _ _ _ _ _ => true
  | .orTBit _ _ _ _ _ => true
  | .ornTBit _ _ _ _ _ => true
  | .shAndTBit _ _ _ _ _ => true
  | .shAndnTBit _ _ _ _ _ => true
  | .shNandTBit _ _ _ _ _ => true
  | .shNorTBit _ _ _ _ _ => true
  | .shOrTBit _ _ _ _ _ => true
  | .shOrnTBit _ _ _ _ _ => true
  | .shXnorTBit _ _ _ _ _ => true
  | .shXorTBit _ _ _ _ _ => true
  | .xnorTBit _ _ _ _ _ => true
  | .xorTBit _ _ _ _ _ => true
  | .ldABoShort _ _ _ => true
  | .ldABoPreinc _ _ _ => true
  | .ldABoPostinc _ _ _ => true
  | .ldABoCirc _ b _ => Reg.isPair b
  | .ldABoBrev _ b => Reg.isPair b
  | .ldBBoShort _ _ _ => true
  | .ldBBoPreinc _ _ _ => true
  | .ldBBoPostinc _ _ _ => true
  | .ldBBoCirc _ b _ => Reg.isPair b
  | .ldBBoBrev _ b => Reg.isPair b
  | .ldBuBoShort _ _ _ => true
  | .ldBuBoPreinc _ _ _ => true
  | .ldBuBoPostinc _ _ _ => true
  | .ldBuBoCirc _ b _ => Reg.isPair b
  | .ldBuBoBrev _ b => Reg.isPair b
  | .ldDBoShort a _ _ => Reg.isPair a
  | .ldDBoPreinc a _ _ => Reg.isPair a
  | .ldDBoPostinc a _ _ => Reg.isPair a
  | .ldDBoCirc a b _ => Reg.isPair a && Reg.isPair b
  | .ldDBoBrev a b => Reg.isPair a && Reg.isPair b
  | .ldDaBoShort a _ _ => Reg.isPair a
  | .ldDaBoPreinc a _ _ => Reg.isPair a
  | .ldDaBoPostinc a _ _ => Reg.isPair a
  | .ldDaBoCirc a b _ => Reg.isPair a && Reg.isPair b
  | .ldDaBoBrev a b => Reg.isPair a && Reg.isPair b
  | .ldHBoShort _ _ _ => true
  | .ldHBoPreinc _ _ _ => true
  | .ldHBoPostinc _ _ _ => true
  | .ldHBoCirc _ b _ => Reg.isPair b
  | .ldHBoBrev _ b => Reg.isPair b
  | .ldHuBoShort _ _ _ => true
  | .ldHuBoPreinc _ _ _ => true
  | .ldHuBoPostinc _ _ _ => true
  | .ldHuBoCirc _ b _ => Reg.isPair b
  | .ldHuBoBrev _ b => Reg.isPair b
  | .ldQBoShort _ _ _ => true
  | .ldQBoPreinc _ _ _ => true
  | .ldQBoPostinc _ _ _ => true
  | .ldQBoCirc _ b _ => Reg.isPair b
  | .ldQBoBrev _ b => Reg.isPair b
  | .ldWBoShort _ _ _ => true
  | .ldWBoPreinc _ _ _ => true
  | .ldWBoPostinc _ _ _ => true
  | .ldWBoCirc _ b _ => Reg.isPair b
  | .ldWBoBrev _ b => Reg.isPair b
  | .ldlcxBoShort _ _ => true
  | .ldmstBoShort a _ _ => Reg.isPair a
  | .ldmstBoPreinc a _ _ => Reg.isPair a
  | .ldmstBoPostinc a _ _ => Reg.isPair a
  | .ldmstBoCirc a b _ => Reg.isPair a && Reg.isPair b
  | .ldmstBoBrev a b => Reg.isPair a && Reg.isPair b
  | .lducxBoShort _ _ => true
  | .leaBoShort _ _ _ => true
  | .leaBoPreinc _ _ _ => true
  | .leaBoPostinc _ _ _ => true
  | .leaBoCirc _ b _ => Reg.isPair b
  | .leaBoBrev _ b => Reg.isPair b
  | .stABoShort _ _ _ => true
  | .stABoPreinc _ _ _ => true
  | .stABoPostinc _ _ _ => true
  | .stABoCirc _ b _ => Reg.isPair b
  | .stABoBrev _ b => Reg.isPair b
  | .stBBoShort _ _ _ => true
  | .stBBoPreinc _ _ _ => true
  | .stBBoPostinc _ _ _ => true
  | .stBBoCirc _ b _ => Reg.isPair b
  | .stBBoBrev _ b => Reg.isPair b
  | .stDBoShort a _ _ => Reg.isPair a
  | .stDBoPreinc a _ _ => Reg.isPair a
  | .stDBoPostinc a _ _ => Reg.isPair a
  | .stDBoCirc a b _ => Reg.isPair a && Reg.isPair b
  | .stDBoBrev a b => Reg.isPair a && Reg.isPair b
  | .stDaBoShort a _ _ => Reg.isPair a
  | .stDaBoPreinc a _ _ => Reg.isPair a
  | .stDaBoPostinc a _ _ => Reg.isPair a
  | .stDaBoCirc a b _ => Reg.isPair a && Reg.isPair b
  | .stDaBoBrev a b => Reg.isPair a && Reg.isPair b
  | .stHBoShort _ _ _ => true
  | .stHBoPreinc _ _ _ => true
  | .stHBoPostinc _ _ _ => true
  | .stHBoCirc _ b _ => Reg.isPair b
  | .stHBoBrev _ b => Reg.isPair b
  | .stQBoShort _ _ _ => true
  | .stQBoPreinc _ _ _ => true
  | .stQBoPostinc _ _ _ => true
  | .stQBoCirc _ b _ => Reg.isPair b
  | .stQBoBrev _ b => Reg.isPair b
  | .stWBoShort _ _ _ => true
  | .stWBoPreinc _ _ _ => true
  | .stWBoPostinc _ _ _ => true
  | .stWBoCirc _ b _ => Reg.isPair b
  | .stWBoBrev _ b => Reg.isPair b
  | .stlcxBoShort _ _ => true
  | .stucxBoShort _ _ => true
  | .swapABoShort _ _ _ => true
  | .swapABoPreinc _ _ _ => true
  | .swapABoPostinc _ _ _ => true
  | .swapABoCirc _ b _ => Reg.isPair b
  | .swapABoBrev _ b => Reg.isPair b
  | .swapWBoShort _ _ _ => true
  | .swapWBoPreinc _ _ _ => true
  | .swapWBoPostinc _ _ _ => true
  | .swapWBoCirc _ b _ => Reg.isPair b
  | .swapWBoBrev _ b => Reg.isPair b
  | .ldABol _ _ _ => true
  | .ldWBol _ _ _ => true
  | .leaBol _ _ _ => true
  | .stWBol _ _ _ => true
  | .jeqBrc _ _ _ => true
  | .jgeUBrc _ _ _ => true
  | .jgeBrc _ _ _ => true
  | .jltUBrc _ _ _ => true
  | .jltBrc _ _ _ => true
  | .jnedBrc _ _ _ => true
  | .jneiBrc _ _ _ => true
  | .jneBrc _ _ _ => true
  | .jeqABrr _ _ _ => true
  | .jeqBrr _ _ _ => true
  | .jgeUBrr _ _ _ => true
  | .jgeBrr _ _ _ => true
  | .jltUBrr _ _ _ => true
  | .jltBrr _ _ _ => true
  | .jneABrr _ _ _ => true
  | .jnedBrr _ _ _ => true
  | .jneiBrr _ _ _ => true
  | .jneBrr _ _ _ => true
  | .jnzABrr _ _ => true
  | .jzABrr _ _ => true
  | .loopBrr _ _ => true
  | .absdifsRc _ _ _ => true
  | .absdifRc _ _ _ => true
  | .addcRc _ _ _ => true
  | .addsURc _ _ _ => true
  | .addsRc _ _ _ => true
  | .addxRc _ _ _ => true
  | .addRc _ _ _ => true
  | .andEqRc _ _ _ => true
  | .andGeURc _ _ _ => true
  | .andGeRc _ _ _ => true
  | .andLtURc _ _ _ => true
  | .andLtRc _ _ _ => true
  | .andNeRc _ _ _ => true
  | .andnRc _ _ _ => true
  | .andRc _ _ _ => true
  | .bisrRc _ => true
  | .eqanyBRc _ _ _ => true
  | .eqanyHRc _ _ _ => true
  | .eqRc _ _ _ => true
  | .geURc _ _ _ => true
  | .geRc _ _ _ => true
  | .ltURc _ _ _ => true
  | .ltRc _ _ _ => true
  | .maxURc _ _ _ => true
  | .maxRc _ _ _ => true
  | .minURc _ _ _ => true
  | .minRc _ _ _ => true
  | .mulmURc c _ _ => Reg.isPair c
  | .mulmRc c _ _ => Reg.isPair c
  | .mulsURc _ _ _ => true
  | .mulsRc _ _ _ => true
  | .mulRc _ _ _ => true
  | .nandRc _ _ _ => true
  | .neRc _ _ _ => true
  | .norRc _ _ _ => true
  | .orEqRc _ _ _ => true
  | .orGeURc _ _ _ => true
  | .orGeRc _ _ _ => true
  | .orLtURc _ _ _ => true
  | .orLtRc _ _ _ => true
  | .orNeRc _ _ _ => true
  | .ornRc _ _ _ => true
  | .orRc _ _ _ => true
  | .rsubsURc _ _ _ => true
  | .rsubsRc _ _ _ => true
  | .rsubRc _ _ _ => true
  | .shBRc _ _ _ => true
  | .shEqRc _ _ _ => true
  | .shGeURc _ _ _ => true
  | .shGeRc _ _ _ => true
  | .shHRc _ _ _ => true
  | .shLtURc _ _ _ => true
  | .shLtRc _ _ _ => true
  | .shNeRc _ _ _ => true
  | .shaBRc _ _ _ => true
  | .shaHRc _ _ _ => true
  | .shasRc _ _ _ => true
  | .shaRc _ _ _ => true
  | .shRc _ _ _ => true
  | .syscallRc _ => true
  | .xnorRc _ _ _ => true
  | .xorEqRc _ _ _ => true
  | .xorGeURc _ _ _ => true
  | .xorGeRc _ _ _ => true
  | .xorLtURc _ _ _ => true
  | .xorLtRc _ _ _ => true
  | .xorNeRc _ _ _ => true
  | .xorRc _ _ _ => true
  | .imaskRcpw c _ _ _ => Reg.isPair c
  | .insertRcpw _ _ _ _ _ => true
  | .caddARcr _ _ _ _ => true
  | .caddnARcr _ _ _ _ => true
  | .caddnRcr _ _ _ _ => true
  | .caddRcr _ _ _ _ => true
  | .maddmURcr c d _ _ => Reg.isPair c && Reg.isPair d
  | .maddmsURcr c d _ _ => Reg.isPair c && Reg.isPair d
  | .maddmsRcr c d _ _ => Reg.isPair c && Reg.isPair d
  | .maddmRcr c d _ _ => Reg.isPair c && Reg.isPair d
  | .maddsURcr _ _ _ _ => true
  | .maddsRcr _ _ _ _ => true
  | .maddRcr _ _ _ _ => true
  | .msubmURcr c d _ _ => Reg.isPair c && Reg.isPair d
  | .msubmsURcr c d _ _ => Reg.isPair c && Reg.isPair d
  | .msubmsRcr c d _ _ => Reg.isPair c && Reg.isPair d
  | .msubmRcr c d _ _ => Reg.isPair c && Reg.isPair d
  | .msubsURcr _ _ _ _ => true
  | .msubsRcr _ _ _ _ => true
  | .msubRcr _ _ _ _ => true
  | .selARcr _ _ _ _ => true
  | .selnARcr _ _ _ _ => true
  | .selnRcr _ _ _ _ => true
  | .selRcr _ _ _ _ => true
  | .insertRcrr _ _ _ d => Reg.isPair d
  | .imaskRcrw c _ _ _ => Reg.isPair c
  | .insertRcrw _ _ _ _ _ => true
  | .addihARlc _ _ _ => true
  | .addihRlc _ _ _ => true
  | .addiRlc _ _ _ => true
  | .mfcrRlc _ _ => true
  | .movURlc _ _ => true
  | .movhARlc _ _ => true
  | .movhRlc _ _ => true
  | .movRlc _ _ => true
  | .mtcrRlc _ _ => true
  | .absBRr _ _ => true
  | .absHRr _ _ => true
  | .absdifBRr _ _ _ => true
  | .absdifHRr _ _ _ => true
  | .absdifsBRr _ _ _ => true
  | .absdifsHRr _ _ _ => true
  | .absdifsRr _ _ _ => true
  | .absdifRr _ _ _ => true
  | .abssBRr _ _ => true
  | .abssHRr _ _ => true
  | .abssRr _ _ => true
  | .absRr _ _ => true
  | .addARr _ _ _ => true
  | .addBRr _ _ _ => true
  | .addHRr _ _ _ => true
  | .addcRr _ _ _ => true
  | .addsBuRr _ _ _ => true
  | .addsBRr _ _ _ => true
  | .addsHuRr _ _ _ => true
  | .addsHRr _ _ _ => true
  | .addsURr _ _ _ => true
  | .addscAtRr _ _ _ => true
  | .addscARr _ _ _ _ => true
  | .addsRr _ _ _ => true
  | .addxRr _ _ _ => true
  | .addRr _ _ _ => true
  | .andEqRr _ _ _ => true
  | .andGeURr _ _ _ => true
  | .andGeRr _ _ _ => true
  | .andLtURr _ _ _ => true
  | .andLtRr _ _ _ => true
  | .andNeRr _ _ _ => true
  | .andnRr _ _ _ => true
  | .andRr _ _ _ => true
  | .calliRr _ => true
  | .cloBRr _ _ => true
  | .cloHRr _ _ => true
  | .cloRr _ _ => true
  | .clsBRr _ _ => true
  | .clsHRr _ _ => true
  | .clsRr _ _ => true
  | .clzBRr _ _ => true
  | .clzHRr _ _ => true
  | .clzRr _ _ => true
  | .difscARr _ _ _ _ => true
  | .dvinitBuRr c _ _ => Reg.isPair c
  | .dvinitBRr c _ _ => Reg.isPair c
  | .dvinitHuRr c _ _ => Reg.isPair c
  | .dvinitHRr c _ _ => Reg.isPair c
  | .dvinitURr c _ _ => Reg.isPair c
  | .dvinitRr c _ _ => Reg.isPair c
  | .eqARr _ _ _ => true
  | .eqBRr _ _ _ => true
  | .eqHRr _ _ _ => true
  | .eqWRr _ _ _ => true
  | .eqanyBRr _ _ _ => true
  | .eqanyHRr _ _ _ => true
  | .eqzARr _ _ => true
  | .eqRr _ _ _ => true
  | .geARr _ _ _ => true
  | .geURr _ _ _ => true
  | .geRr _ _ _ => true
  | .jiRr _ => true
  | .jliRr _ => true
  | .ltARr _ _ _ => true
  | .ltBuRr _ _ _ => true
  | .ltBRr _ _ _ => true
  | .ltHuRr _ _ _ => true
  | .ltHRr _ _ _ => true
  | .ltURr _ _ _ => true
  | .ltWuRr _ _ _ => true
  | .ltWRr _ _ _ => true
  | .ltRr _ _ _ => true
  | .maxBuRr _ _ _ => true
  | .maxBRr _ _ _ => true
  | .maxHuRr _ _ _ => true
  | .maxHRr _ _ _ => true
  | .maxURr _ _ _ => true
  | .maxRr _ _ _ => true
  | .minBuRr _ _ _ => true
  | .minBRr _ _ _ => true
  | .minHuRr _ _ _ => true
  | .minHRr _ _ _ => true
  | .minURr _ _ _ => true
  | .minRr _ _ _ => true
  | .movAaRr _ _ => true
  | .movARr _ _ => true
  | .movDRr _ _ => true
  | .movRr _ _ => true
  | .mulHRr c _ _ n => Reg.isPair c && isQShift n
  | .mulQRr _ _ _ n => isQShift n
  | .mulmURr c _ _ => Reg.isPair c
  | .mulmRr c _ _ => Reg.isPair c
  | .mulrHRr _ _ _ n => isQShift n
  | .mulrQRr _ _ _ n => isQShift n
  | .mulsURr _ _ _ => true
  | .mulsRr _ _ _ => true
  | .mulRr _ _ _ => true
  | .nandRr _ _ _ => true
  | .neARr _ _ _ => true
  | .nezARr _ _ => true
  | .neRr _ _ _ => true
  | .norRr _ _ _ => true
  | .orEqRr _ _ _ => true
  | .orGeURr _ _ _ => true
  | .orGeRr _ _ _ => true
  | .orLtURr _ _ _ => true
  | .orLtRr _ _ _ => true
  | .orNeRr _ _ _ => true
  | .ornRr _ _ _ => true
  | .orRr _ _ _ => true
  | .satBuRr _ _ => true
  | .satBRr _ _ => true
  | .satHuRr _ _ => true
  | .satHRr _ _ => true
  | .shBRr _ _ _ => true
  | .shEqRr _ _ _ => true
  | .shGeURr _ _ _ => true
  | .shGeRr _ _ _ => true
  | .shHRr _ _ _ => true
  | .shLtURr _ _ _ => true
  | .shLtRr _ _ _ => true
  | .shNeRr _ _ _ => true
  | .shaBRr _ _ _ => true
  | .shaHRr _ _ _ => true
  | .shasRr _ _ _ => true
  | .shaRr _ _ _ => true
  | .shRr _ _ _ => true
  | .subARr _ _ _ => true
  | .subBRr _ _ _ => true
  | .subHRr _ _ _ => true
  | .subcRr _ _ _ => true
  | .subsBuRr _ _ _ => true
  | .subsBRr _ _ _ => true
  | .subsHuRr _ _ _ => true
  | .subsHRr _ _ _ => true
  | .subsURr _ _ _ => true
  | .subscARr _ _ _ _ => true
  | .subsRr _ _ _ => true
  | .subxRr _ _ _ => true
  | .subRr _ _ _ => true
  | .xnorRr _ _ _ => true
  | .xorEqRr _ _ _ => true
  | .xorGeURr _ _ _ => true
  | .xorGeRr _ _ _ => true
  | .xorLtURr _ _ _ => true
  | .xorLtRr _ _ _ => true
  | .xorNeRr _ _ _ => true
  | .xorRr _ _ _ => true
  | .dextrRrpw _ _ _ _ => true
  | .extrURrpw _ _ _ _ => true
  | .extrRrpw _ _ _ _ => true
  | .imaskRrpw c _ _ _ => Reg.isPair c
  | .insertRrpw _ _ _ _ _ => true
  | .caddARrr _ _ _ _ => true
  | .caddnARrr _ _ _ _ => true
  | .caddnRrr _ _ _ _ => true
  | .caddRrr _ _ _ _ => true
  | .csubARrr _ _ _ _ => true
  | .csubnARrr _ _ _ _ => true
  | .csubnRrr _ _ _ _ => true
  | .csubRrr _ _ _ _ => true
  | .dvadjRrr c d _ => Reg.isPair c && Reg.isPair d
  | .dvstepURrr c d _ => Reg.isPair c && Reg.isPair d
  | .dvstepRrr c d _ => Reg.isPair c && Reg.isPair d
  | .maddHRrr c d _ _ n => Reg.isPair c && Reg.isPair d && isQShift n
  | .maddQRrr _ _ _ _ n => isQShift n
  | .maddmHRrr c d _ _ => Reg.isPair c && Reg.isPair d
  | .maddmQRrr c d _ _ => Reg.isPair c && Reg.isPair d
  | .maddmURrr c d _ _ => Reg.isPair c && Reg.isPair d
  | .maddmsURrr c d _ _ => Reg.isPair c && Reg.isPair d
  | .maddmsRrr c d _ _ => Reg.isPair c && Reg.isPair d
  | .maddmRrr c d _ _ => Reg.isPair c && Reg.isPair d
  | .maddrHRrr _ d _ _ n => Reg.isPair d && isQShift n
  | .maddrQRrr _ _ _ _ n => isQShift n
  | .maddrsHRrr _ d _ _ n => Reg.isPair d && isQShift n
  | .maddrsQRrr _ _ _ _ n => isQShift n
  | .maddsHRrr c d _ _ n => Reg.isPair c && Reg.isPair d && isQShift n
  | .maddsQRrr _ _ _ _ n => isQShift n
  | .maddsURrr _ _ _ _ => true
  | .maddsRrr _ _ _ _ => true
  | .maddRrr _ _ _ _ => true
  | .msubHRrr c d _ _ n => Reg.isPair c && Reg.isPair d && isQShift n
  | .msubQRrr _ _ _ _ n => isQShift n
  | .msubmHRrr c d _ _ => Reg.isPair c && Reg.isPair d
  | .msubmQRrr c d _ _ => Reg.isPair c && Reg.isPair d
  | .msubmURrr c d _ _ => Reg.isPair c && Reg.isPair d
  | .msubmsURrr c d _ _ => Reg.isPair c && Reg.isPair d
  | .msubmsRrr c d _ _ => Reg.isPair c && Reg.isPair d
  | .msubmRrr c d _ _ => Reg.isPair c && Reg.isPair d
  | .msubrHRrr _ d _ _ n => Reg.isPair d && isQShift n
  | .msubrQRrr _ _ _ _ n => isQShift n
  | .msubrsHRrr _ d _ _ n => Reg.isPair d && isQShift n
  | .msubrsQRrr _ _ _ _ n => isQShift n
  | .msubsHRrr c d _ _ n => Reg.isPair c && Reg.isPair d && isQShift n
  | .msubsQRrr _ _ _ _ n => isQShift n
  | .msubsURrr _ _ _ _ => true
  | .msubsRrr _ _ _ _ => true
  | .msubRrr _ _ _ _ => true
  | .selARrr _ _ _ _ => true
  | .selnARrr _ _ _ _ => true
  | .selnRrr _ _ _ _ => true
  | .selRrr _ _ _ _ => true
  | .dextrRrrr _ _ _ _ => true
  | .extrURrrr _ _ d => Reg.isPair d
  | .extrRrrr _ _ d => Reg.isPair d
  | .insertRrrr _ _ _ d => Reg.isPair d
  | .extrURrrw _ _ _ _ => true
  | .extrRrrw _ _ _ _ => true
  | .imaskRrrw c _ _ _ => Reg.isPair c
  | .insertRrrw _ _ _ _ _ => true
  | .debugSys => true
  | .disableSys => true
  | .dsyncSys => true
  | .enableSys => true
  | .isyncSys => true
  | .nopSys => true
  | .retSys => true
  | .rfeSys => true
  | .rslcxSys => true
  | .rstvSys => true
  | .svlcxSys => true
  | .trapsvSys => true
  | .trapvSys => true
  | .addscASrrs _ _ _ => true
  | .jnzTSbrn _ _ => true
  | .jzTSbrn _ _ => true
  | .jnzSb _ => true
  | .jzSb _ => true
  | .jSb _ => true
  | .jeqSbc _ _ => true
  | .jneSbc _ _ => true
  | .jeqSbr _ _ => true
  | .jgezSbr _ _ => true
  | .jgtzSbr _ _ => true
  | .jiSbr _ => true
  | .jlezSbr _ _ => true
  | .jltzSbr _ _ => true
  | .jneSbr _ _ => true
  | .jnzASbr _ _ => true
  | .jnzSbr _ _ => true
  | .jzASbr _ _ => true
  | .jzSbr _ _ => true
  | .loopSbr _ _ => true
  | .andSc _ => true
  | .bisrSc _ => true
  | .movSc _ => true
  | .orSc _ => true
  | .subASc _ => true
  | .ldASlr _ _ => true
  | .ldASlrPostinc _ _ => true
  | .ldBuSlr _ _ => true
  | .ldBuSlrPostinc _ _ => true
  | .ldBSlr _ _ => true
  | .ldBSlrPostinc _ _ => true
  | .ldHSlr _ _ => true
  | .ldHSlrPostinc _ _ => true
  | .ldWSlr _ _ => true
  | .ldWSlrPostinc _ _ => true
  | .ldASlro _ _ => true
  | .ldBuSlro _ _ => true
  | .ldBSlro _ _ => true
  | .ldHSlro _ _ => true
  | .ldWSlro _ _ => true
  | .debugSr => true
  | .movzASr _ => true
  | .nopSr => true
  | .notSr _ => true
  | .retSr => true
  | .rfeSr => true
  | .rsubSr _ => true
  | .satBuSr _ => true
  | .satBSr _ => true
  | .satHuSr _ => true
  | .satHSr _ => true
  | .addSrc _ _ => true
  | .addSrcD15 _ _ => true
  | .caddnSrc _ _ => true
  | .caddSrc _ _ => true
  | .cmovnSrc _ _ => true
  | .cmovSrc _ _ => true
  | .eqSrc _ _ => true
  | .ltUSrc _ _ => true
  | .ltSrc _ _ => true
  | .movSrc _ _ => true
  | .shaSrc _ _ => true
  | .shSrc _ _ => true
  | .ldASro _ _ => true
  | .ldBuSro _ _ => true
  | .ldBSro _ _ => true
  | .ldHSro _ _ => true
  | .ldWSro _ _ => true
  | .stASro _ _ => true
  | .stBSro _ _ => true
  | .stHSro _ _ => true
  | .stWSro _ _ => true
  | .addSrr _ _ => true
  | .addSrrD15 _ _ => true
  | .andSrr _ _ => true
  | .caddnSrr _ _ => true
  | .caddSrr _ _ => true
  | .cmovnSrr _ _ => true
  | .cmovSrr _ _ => true
  | .dvadjSrr a _ => Reg.isPair a
  | .dvstepUSrr a _ => Reg.isPair a
  | .dvstepSrr a _ => Reg.isPair a
  | .eqSrr _ _ => true
  | .ltUSrr _ _ => true
  | .ltSrr _ _ => true
  | .movAaSrr _ _ => true
  | .movASrr _ _ => true
  | .movDSrr _ _ => true
  | .movSrr _ _ => true
  | .mulSrr _ _ => true
  | .orSrr _ _ => true
  | .subsSrr _ _ => true
  | .subSrr _ _ => true
  | .subSrrD15 _ _ => true
  | .stASsr _ _ => true
  | .stASsrPostinc _ _ => true
  | .stBSsr _ _ => true
  | .stBSsrPostinc _ _ => true
  | .stHSsr _ _ => true
  | .stHSsrPostinc _ _ => true
  | .stWSsr _ _ => true
  | .stWSsrPostinc _ _ => true
  | .stASsro _ _ => true
  | .stBSsro _ _ => true
  | .stHSsro _ _ => true
  | .stWSsro _ _ => true

end Sys2Proof
end

