-- ==== Sys2Proof/Machine/Operands.lean ====
section
/-! DEFINITION. Machine/Operands.lean: reading and writing the general registers (spec/10_state.md rule R40 to R45), the constants (30 R220), the displacements (30 R222), the positions and widths of bit fields (42 R480), the shift counts (42 R468, 44 R590), and the addressing modes (20 R160 to R173). -/

namespace Sys2Proof.Machine

open Sys2Proof

/-! ## General registers -/

/-- D[r] (10 R40). -/
def State.getD (s : State) (r : Reg) : Word := s.d[r]
/-- A[r] (10 R40). -/
def State.getA (s : State) (r : Reg) : Word := s.a[r]
/-- D[r] <- v. -/
def State.setD (s : State) (r : Reg) (v : Word) : State := { s with d := s.d.set r.val v r.isLt }
/-- A[r] <- v, without the check of rule R45. -/
def State.setA (s : State) (r : Reg) (v : Word) : State := { s with a := s.a.set r.val v r.isLt }
/-- E[r] = (D[r+1], D[r]), the even register the low word (10 R43). -/
def State.getE (s : State) (r : Reg) : DWord := s.getD (r + 1) ++ s.getD r
/-- E[r] <- v (00 R21). -/
def State.setE (s : State) (r : Reg) (v : DWord) : State :=
  (s.setD r (v.extractLsb' 0 32)).setD (r + 1) (v.extractLsb' 32 32)
/-- The address pair at r gets v, the even register the low word (48 R809). -/
def State.setAPair (s : State) (r : Reg) (v : DWord) : State :=
  (s.setA r (v.extractLsb' 0 32)).setA (r + 1) (v.extractLsb' 32 32)
/-- `s(D[r])` (00 R24). -/
def State.sD (s : State) (r : Reg) : Int := (s.getD r).toInt
/-- `u(D[r])` (00 R24). -/
def State.uD (s : State) (r : Reg) : Int := ((s.getD r).toNat : Int)
/-- `s64(E[r])` (41 R390). -/
def State.sE (s : State) (r : Reg) : Int := (s.getE r).toInt
/-- `u64(E[r])` (41 R391). -/
def State.uE (s : State) (r : Reg) : Int := ((s.getE r).toNat : Int)
/-- pc <- v. -/
def State.setPc (s : State) (v : Word) : State := { s with pc := v }
/-- PSW <- v. -/
def State.setPsw (s : State) (v : Word) : State := { s with psw := v }
/-- pc <- pc + len (10 R54). -/
def State.advance (s : State) (len : Word) : State := s.setPc (s.pc + len)

/-- A0, A1, A8 and A9, the system global registers (10 R45). -/
def isGlobalReg (r : Reg) : Bool := r == 0 || r == 1 || r == 8 || r == 9

/-- A[r] may be written: it is no global register, or PSW.GW = 1 (10 R45, R70). -/
def State.mayWriteA (s : State) (r : Reg) : Bool := !isGlobalReg r || Psw.gw s.psw

/-! ## Constants (30 R220) -/

/-- `sext_4(const4)`. -/
def sext4 (x : BitVec 4) : Word := x.signExtend 32
/-- `zext_4(const4)`. -/
def zext4 (x : BitVec 4) : Word := x.setWidth 32
/-- `zext_8(const8)`. -/
def zext8 (x : BitVec 8) : Word := x.setWidth 32
/-- `sext_9(const9)`. -/
def sext9 (x : BitVec 9) : Word := x.signExtend 32
/-- `zext9(const9)`: bit 8 is ignored (00 R26). -/
def zext9 (x : BitVec 9) : Word := (x.setWidth 8).setWidth 32
/-- `sext_16(const16)`. -/
def sext16 (x : BitVec 16) : Word := x.signExtend 32
/-- `zext_16(const16)`. -/
def zext16 (x : BitVec 16) : Word := x.setWidth 32
/-- `{const16, 16'h0000}`. -/
def high16 (x : BitVec 16) : Word := x ++ (0 : BitVec 16)

/-! ## Shift counts -/

/-- The 6-bit signed count of a word shift (42 R468). -/
def shiftCount6 (x : Word) : Int := (x.setWidth 6).toInt
/-- The 4-bit signed count of the 16-bit word shifts and of the byte shifts (42 R468, 44 R590). -/
def shiftCount4 (x : Word) : Int := (x.setWidth 4).toInt
/-- The 5-bit signed count of the halfword shifts (44 R590). -/
def shiftCount5 (x : Word) : Int := (x.setWidth 5).toInt

/-- A position or width held in the low five bits of a register (42 R480). -/
def field5 (x : Word) : Nat := (x.setWidth 5).toNat

/-! ## Branch targets (30 R222, 47 R744) -/

/-- `pc + sext_25({disp24, 0})`. -/
def relTarget24 (pc : Word) (disp : BitVec 24) : Word := pc + (disp ++ (0 : BitVec 1)).signExtend 32
/-- `pc + sext_16({disp15, 0})`. -/
def relTarget15 (pc : Word) (disp : BitVec 15) : Word := pc + (disp ++ (0 : BitVec 1)).signExtend 32
/-- `pc + sext_9({disp8, 0})`. -/
def relTarget8 (pc : Word) (disp : BitVec 8) : Word := pc + (disp ++ (0 : BitVec 1)).signExtend 32
/-- `pc + zext({disp4, 0})`. -/
def relTarget4 (pc : Word) (disp : BitVec 4) : Word := pc + (disp ++ (0 : BitVec 1)).setWidth 32
/-- `pc + {27'h7FFFFFF, disp4, 1'b0}`, the 16-bit LOOP (47 R768). -/
def loopTarget4 (pc : Word) (disp : BitVec 4) : Word := pc + ((BitVec.allOnes 27 ++ disp) ++ (0 : BitVec 1))
/-- `abs24(disp24)` (47 R744). -/
def absTarget24 (disp : BitVec 24) : Word :=
  ((disp.extractLsb' 20 4 ++ (0 : BitVec 7)) ++ disp.extractLsb' 0 20) ++ (0 : BitVec 1)
/-- `{x[31:1], 1'b0}`: bit 0 of an indirect target is dropped (10 R53). -/
def evenTarget (x : Word) : Word := x &&& 0xFFFFFFFE

/-! ## Addressing modes (20 R160 to R173) -/

/-- The addressing mode of a load, a store or LEA. Offsets are already extended to 32 bits. -/
inductive AddrMode where
  /-- Absolute (20 R161). -/
  | abs (off18 : BitVec 18)
  /-- Base + offset: short, long, register indirect, implicit base (20 R162, R163, R173). -/
  | base (b : Reg) (off : Word)
  /-- Pre-increment (20 R164). -/
  | preInc (b : Reg) (off : Word)
  /-- Post-increment, of the 32-bit and the 16-bit forms (20 R165, R173). -/
  | postInc (b : Reg) (off : Word)
  /-- Circular, the pair A[b], A[b+1] (20 R167). -/
  | circ (b : Reg) (off10 : BitVec 10)
  /-- Bit-reverse, the pair A[b], A[b+1] (20 R170). -/
  | brev (b : Reg)
deriving DecidableEq, Repr

/-- The circular buffer of an access: its base address B, its length L and the index I (20 R167). -/
structure Ring where
  base  : Word
  len   : Nat
  index : Nat
deriving DecidableEq, Repr

/-- What an addressing mode computes before the access. -/
structure Place where
  /-- The effective address. -/
  ea     : Word
  /-- The base whose segment the effective address must share (20 R153); none for the absolute mode. -/
  base   : Option Word
  /-- The buffer of the circular mode. -/
  ring   : Option Ring
  /-- The base or index register and its new value. -/
  update : Option (Reg × Word)
  /-- The address pair of a circular or bit-reverse operand is even (30 R226). -/
  pairOk : Bool
deriving DecidableEq, Repr

/-- `EA = {off18[17:14], 14'b0, off18[13:0]}` (20 R161). -/
def absAddress (off : BitVec 18) : Word := (off.extractLsb' 14 4 ++ (0 : BitVec 14)) ++ off.extractLsb' 0 14

/-- `sext_10(off10)` (20 R162). -/
def sext10 (x : BitVec 10) : Word := x.signExtend 32

/-- The new index of the circular mode, cut to 16 bits (20 R168). -/
def circularIndex (i len off : Int) : BitVec 16 :=
  BitVec.ofInt 16 (if i + off < 0 then i + off + len else if i + off ≥ len then i + off - len else i + off)

/-- The new index of the bit-reverse mode (20 R170). -/
def reverseIndex (i m : BitVec 16) : BitVec 16 := rev16 (rev16 i + rev16 m)

/-- The effective address and the register update of a mode (20 R161 to R170). -/
def AddrMode.place (m : AddrMode) (s : State) : Place :=
  match m with
  | .abs off => ⟨absAddress off, none, none, none, true⟩
  | .base b off => ⟨s.getA b + off, some (s.getA b), none, none, true⟩
  | .preInc b off => ⟨s.getA b + off, some (s.getA b), none, some (b, s.getA b + off), true⟩
  | .postInc b off => ⟨s.getA b, some (s.getA b), none, some (b, s.getA b + off), true⟩
  | .circ b off =>
    ⟨s.getA b + zext16 (loHalf (s.getA (b + 1))), some (s.getA b),
      some ⟨s.getA b, (hiHalf (s.getA (b + 1))).toNat, (loHalf (s.getA (b + 1))).toNat⟩,
      some (b + 1, hiHalf (s.getA (b + 1)) ++
        circularIndex (loHalf (s.getA (b + 1))).toNat (hiHalf (s.getA (b + 1))).toNat off.toInt),
      Reg.isPair b⟩
  | .brev b =>
    ⟨s.getA b + zext16 (loHalf (s.getA (b + 1))), some (s.getA b), none,
      some (b + 1, hiHalf (s.getA (b + 1)) ++
        reverseIndex (loHalf (s.getA (b + 1))) (hiHalf (s.getA (b + 1)))),
      Reg.isPair b⟩

/-- The address of byte `k` of an `n`-byte access: it wraps to the start of a circular buffer whose end the access runs
over, unless L = 0 or I >= L (20 R169, 93 U5). -/
def Place.byteAddr (p : Place) (n k : Nat) : Word :=
  match p.ring with
  | none => p.ea + BitVec.ofNat 32 k
  | some r =>
    if r.index < r.len ∧ r.len < r.index + n then r.base + BitVec.ofNat 32 ((r.index + k) % r.len)
    else p.ea + BitVec.ofNat 32 k

/-- The effective address is a multiple of `align`, and a circular buffer has base and length that are multiples of the
access size `n` (20 R143, R169). -/
def Place.aligned (p : Place) (align n : Nat) : Bool :=
  p.ea.toNat % align == 0 &&
    match p.ring with
    | none => true
    | some r => r.base.toNat % n == 0 && r.len % n == 0

/-- The base or index register update of the mode (48 R802 step 5). -/
def State.applyUpdate (s : State) (p : Place) : State :=
  match p.update with
  | none => s
  | some (r, v) => s.setA r v

/-- The update writes no global register without permission (10 R45). -/
def State.mayUpdate (s : State) (p : Place) : Bool :=
  match p.update with
  | none => true
  | some (r, _) => s.mayWriteA r

end Sys2Proof.Machine
end

