-- ==== Sys2Proof/Machine/Ops.lean ====
section
/-! DEFINITION. Machine/Ops.lean: the operations the meanings share: protection and the checks of an access (spec/20_memory.md rule R150 to R186), loads and stores, context save and restore (60 R965 to R971), taking a trap or an interrupt (60 R975, R976) and the return from one (60 R968, R969), and the core special function registers (10 R75, 49 R902). -/

namespace Sys2Proof.Machine

open Sys2Proof

/-- What a meaning answers. -/
abbrev Out := Host.Outcome State Fault Refusal

/-! ## Traps (60 R935 to R942) -/

/-- The traps of Table 7, reset apart. -/
inductive Trap where
  | priv | mpr | mpw | mpx | mpp | mpn | grwp
  | iopc | uopc | opd | aln | mem
  | fcd | cdo | cdu | fcu | csu | ctyp | nest
  | bus (cause : BusCause)
  | ovf | sovf
  | sys (tin : BitVec 8)
  | nmi
deriving DecidableEq, Repr

/-- The trap class number. -/
def Trap.cls : Trap → Nat
  | .priv | .mpr | .mpw | .mpx | .mpp | .mpn | .grwp => 1
  | .iopc | .uopc | .opd | .aln | .mem => 2
  | .fcd | .cdo | .cdu | .fcu | .csu | .ctyp | .nest => 3
  | .bus _ => 4
  | .ovf | .sovf => 5
  | .sys _ => 6
  | .nmi => 7

/-- The TIN of a class 4 trap (60 R939). -/
def BusCause.tin : BusCause → BitVec 8
  | .prvp => 1
  | .bus => 2
  | .pari => 3
  | .blto => 4
  | .pkey => 5

/-- The trap identification number (TIN). -/
def Trap.tin : Trap → BitVec 8
  | .priv => 1
  | .mpr => 2
  | .mpw => 3
  | .mpx => 4
  | .mpp => 5
  | .mpn => 6
  | .grwp => 7
  | .iopc => 1
  | .uopc => 2
  | .opd => 3
  | .aln => 4
  | .mem => 5
  | .fcd => 1
  | .cdo => 2
  | .cdu => 3
  | .fcu => 4
  | .csu => 5
  | .ctyp => 6
  | .nest => 7
  | .bus c => c.tin
  | .ovf => 1
  | .sovf => 2
  | .sys tin => tin
  | .nmi => 0

/-! ## The address space and its protection -/

/-- `seg(addr)` (20 R145). -/
def seg (x : Word) : BitVec 4 := x.extractLsb' 28 4

/-- The peripheral segments 14 and 15 (20 R148). -/
def isPeripheral (x : Word) : Bool := decide (14 ≤ (seg x).toNat)

/-- The CSFR area 0x2FFFC000 to 0x2FFFFFFF (20 R147). -/
def inCsfrArea (x : Word) : Bool := decide (0x2FFFC000 ≤ x.toNat ∧ x.toNat ≤ 0x2FFFFFFF)

/-- What stands at an address; none: unimplemented (20 R154, log 5). -/
def memKind (c : Config) (x : Word) : Option MemKind :=
  (c.memMap.find? fun r => decide (r.base ≤ x.toNat ∧ x.toNat < r.base + r.size)).map fun r => r.kind

/-- SYSCON.PROTEN (10 R106). -/
def State.proten (s : State) : Bool := s.csfr.syscon.getLsbD 1

/-- SYSCON.ENDINIT (10 R107). -/
def State.endinit (s : State) : Bool := s.csfr.syscon.getLsbD 0

/-- Supervisor, the supervisor line of an access (60 R991). -/
def State.supervisor (s : State) : Bool := Psw.io s.psw == 2

/-- An entry matches an address (20 R181). -/
def RangeEntry.contains (e : RangeEntry) (x : Word) : Bool :=
  decide (e.lower.toNat ≤ x.toNat ∧ x.toNat < e.upper.toNat)

/-- The protection set PSW.PRS; a set the implementation lacks has no entries (10 R67). -/
def currentSet (sets : List (List RangeEntry)) (psw : Word) : List RangeEntry := sets.getD (Psw.prs psw).toNat []

/-- Some entry of the set that matches has the mode bit (20 R180). -/
def setPermits (set : List RangeEntry) (bit : Nat) (x : Word) : Bool :=
  set.any fun e => e.contains x && e.mode.getLsbD bit

/-- A data read is permitted (20 R180, R182, R184): DPM.RE is bit 6. -/
def State.readPermitted (s : State) (x : Word) : Bool :=
  isPeripheral x || !s.proten || setPermits (currentSet s.dataSets s.psw) 6 x

/-- A data write is permitted (20 R180, R182, R184): DPM.WE is bit 7. -/
def State.writePermitted (s : State) (x : Word) : Bool :=
  isPeripheral x || !s.proten || setPermits (currentSet s.dataSets s.psw) 7 x

/-- A fetch is permitted by the ranges (20 R183): CPM.XE is bit 7. -/
def State.fetchPermitted (s : State) (x : Word) : Bool :=
  !s.proten || setPermits (currentSet s.codeSets s.psw) 7 x

/-- Unimplemented local memory: segment 0, 1 or 2 (20 R154). -/
def localUnimplemented (c : Config) (x : Word) : Bool := decide ((seg x).toNat ≤ 2) && (memKind c x).isNone

/-- Read, write, or read and then write (48 R802, R803). -/
inductive Access where
  | read
  | write
  | modify
deriving DecidableEq, Repr

/-- The access reads. -/
def Access.reads (k : Access) : Bool := k != .write
/-- The access writes. -/
def Access.writes (k : Access) : Bool := k != .read

/-- The protection checks of an access at `x`: MPP, MPR, MPW (20 R185 steps 5 and 6; the read before the write, R182). -/
def State.protectionTrap (s : State) (k : Access) (x : Word) : Option Trap :=
  if isPeripheral x && Psw.io s.psw == 0 then some .mpp
  else if k.reads && !s.readPermitted x then some .mpr
  else if k.writes && !s.writePermitted x then some .mpw
  else none

/-- The base lies in another segment than the effective address (20 R153). -/
def Place.leavesSegment (p : Place) : Bool :=
  match p.base with
  | none => false
  | some b => seg b != seg p.ea

/-- The checks of an access, steps 2 to 7 of 20 R185. -/
def State.accessTrap (s : State) (k : Access) (p : Place) (align n : Nat) : Option Trap :=
  if !p.aligned align n then some .aln
  else if p.leavesSegment || inCsfrArea p.ea then some .mem
  else if s.cfg.mpnCheck && p.ea == 0 then some .mpn
  else match s.protectionTrap k p.ea with
    | some t => some t
    | none => if localUnimplemented s.cfg p.ea then some (.bus .bus) else none

/-- All checks of a load or store: OPD (60 R980 step 2), then 20 R185. `pairOk`: the register pair moved is even; `mayWrite`:
the address register loaded may be written. -/
def State.operandTrap (s : State) (k : Access) (p : Place) (pairOk mayWrite : Bool) (align n : Nat) : Option Trap :=
  if !(pairOk && p.pairOk) then some .opd
  else if !(mayWrite && s.mayUpdate p) then some .grwp
  else s.accessTrap k p align n

/-! ## Debug signals (10 R123, R124; 60 R1005; log 14) -/

/-- The signals of one entry for an access at `x`: `r`, `l`, `u` are its mode bits for the range and the two bounds. -/
def entrySignals (e : RangeEntry) (x : Word) (r l u : Nat) (kr kl ku : DebugKind) : List HostOutput :=
  (if e.contains x && e.mode.getLsbD r then [.debugSignal kr x] else []) ++
  (if e.lower == x && e.mode.getLsbD l then [.debugSignal kl x] else []) ++
  (if e.upper == x && e.mode.getLsbD u then [.debugSignal ku x] else [])

/-- The signals of a data read at `x`: RS, RBL, RBU. -/
def State.readSignals (s : State) (x : Word) : List HostOutput :=
  (currentSet s.dataSets s.psw).flatMap fun e => entrySignals e x 4 2 0 .readRange .readLower .readUpper

/-- The signals of a data write at `x`: WS, WBL, WBU. -/
def State.writeSignals (s : State) (x : Word) : List HostOutput :=
  (currentSet s.dataSets s.psw).flatMap fun e => entrySignals e x 5 3 1 .writeRange .writeLower .writeUpper

/-- The signals of a fetch at `x`: XS, BL, BU. -/
def State.fetchSignals (s : State) (x : Word) : List HostOutput :=
  (currentSet s.codeSets s.psw).flatMap fun e => entrySignals e x 5 3 0 .fetchRange .fetchLower .fetchUpper

/-- The state with events added to its output, newest first. -/
def State.emit (s : State) (l : List HostOutput) : State :=
  { s with env := { s.env with outputs := l.reverse ++ s.env.outputs } }

/-- The signals of an access of the kind `k`. -/
def State.signal (s : State) (k : Access) (x : Word) : State :=
  s.emit ((if k.reads then s.readSignals x else []) ++ (if k.writes then s.writeSignals x else []))

/-! ## Loads and stores -/

/-- `n` free bytes have been drawn (log 6). -/
def State.drawFree (s : State) (n : Nat) : State :=
  { s with env := { s.env with freeCount := s.env.freeCount + n } }

/-- The state with memory `m`. -/
def State.setMem (s : State) (m : List Host.Cell) : State := { s with mem := m }

/-- The value of an `n`-byte read at `addr 0` to `addr (n-1)`: memory, or free bytes of a device or of unimplemented
memory (60 R1000, 93 U4, log 6). -/
def State.readValue (s : State) (kind : Option MemKind) (addr : Nat → Word) (n : Nat) : Nat :=
  match kind with
  | some .storage => Memory.readBytes s.mem addr n
  | some .device => freeBytes s.env.freeCount n
  | none => freeBytes s.env.freeCount n

/-- The state after an `n`-byte read. -/
def State.afterRead (s : State) (kind : Option MemKind) (addr : Nat → Word) (n : Nat) : State :=
  match kind with
  | some .storage => s
  | some .device => (s.drawFree n).emit [.deviceLoad (addr 0) n s.supervisor]
  | none => s.drawFree n

/-- The state after the `n` low bytes of `v` are written at `addr 0` to `addr (n-1)`: a device gets an event, unimplemented
memory ignores it (93 U4, log 7). -/
def State.writeValue (s : State) (kind : Option MemKind) (addr : Nat → Word) (n v : Nat) : State :=
  match kind with
  | some .storage => s.setMem (Memory.writeBytes s.mem addr v n)
  | some .device => s.emit [.deviceStore (addr 0) n (v % 256 ^ n) s.supervisor]
  | none => s

/-- The value an `n`-byte load at a place reads. -/
def State.loadValue (s : State) (p : Place) (n : Nat) : Nat :=
  s.readValue (memKind s.cfg p.ea) (p.byteAddr n) n

/-- The state after an `n`-byte load at a place, before any register is written. -/
def State.afterLoad (s : State) (p : Place) (n : Nat) : State :=
  (s.signal .read p.ea).afterRead (memKind s.cfg p.ea) (p.byteAddr n) n

/-- The state after an `n`-byte store of `v` at a place, before the base update. -/
def State.afterStore (s : State) (p : Place) (n v : Nat) : State :=
  (s.signal .write p.ea).writeValue (memKind s.cfg p.ea) (p.byteAddr n) n v

/-- The state after an `n`-byte read-modify-write that writes `v`, before the base update. -/
def State.afterModify (s : State) (p : Place) (n v : Nat) : State :=
  ((s.signal .modify p.ea).afterRead (memKind s.cfg p.ea) (p.byteAddr n) n).writeValue
    (memKind s.cfg p.ea) (p.byteAddr n) n v

/-! ## Context save areas (60 R965 to R971) -/

/-- The 20-bit pointer of FCX, LCX or PCXI (10 R80). -/
def pointer (x : Word) : BitVec 20 := x.extractLsb' 0 20

/-- The address of the CSA a pointer register names: `(S << 28) | (O << 6)` (10 R80). -/
def csaAddress (x : Word) : Word :=
  ((x.extractLsb' 16 4 ++ (0 : BitVec 6)) ++ x.extractLsb' 0 16) ++ (0 : BitVec 6)

/-- What stands at a CSA: in the CSFR area and in segments 14 and 15 it is not implemented (60 R971). DEDUCED (log 8): in a
device region of segments 0 to 13, which only a map other than the default has, an instruction's own save or restore is a
device access (20 R154 counts a device as implemented): device events, a free value read and no BUS. -/
def csaKind (c : Config) (x : Word) : Option MemKind :=
  if isPeripheral x || inCsfrArea x then none else memKind c x

/-- Byte `k` of the CSA at `e`. -/
def csaByte (e : Word) (k : Nat) : Word := e + BitVec.ofNat 32 k

/-- Sixteen words as one little-endian value, word 0 the lowest. -/
def blockValue : List Word → Nat
  | [] => 0
  | w :: rest => w.toNat + 2 ^ 32 * blockValue rest

/-- Word `i` of a block. -/
def blockWord (v i : Nat) : Word := BitVec.ofNat 32 (v / 2 ^ (32 * i))

/-- The word offset in a CSA of the `i`-th saved register (60 R965). -/
def wordPlace (places : Vector (Fin 16) 15) (i : Nat) : Nat := if h : i < 15 then places[i].val else 0

/-- The sixteen words of a CSA: the link word is word 0, each register stands at its place (60 R965). -/
def contextWords (places : Vector (Fin 16) 15) (link : Word) (regs : List Word) : List Word :=
  (places.toList.zip regs).foldl (fun l p => l.set p.1.val p.2) (link :: List.replicate 15 0)

/-- The words of an upper context (60 R965). -/
def State.upperContext (s : State) : List Word :=
  contextWords s.cfg.csaLayout.upper s.pcxi [s.psw, s.getA 10, s.getA 11, s.getA 12, s.getA 13, s.getA 14, s.getA 15,
    s.getD 8, s.getD 9, s.getD 10, s.getD 11, s.getD 12, s.getD 13, s.getD 14, s.getD 15]

/-- The words of a lower context (60 R965, R970). -/
def State.lowerContext (s : State) : List Word :=
  contextWords s.cfg.csaLayout.lower s.pcxi [s.getA 11, s.getA 2, s.getA 3, s.getA 4, s.getA 5, s.getA 6, s.getA 7,
    s.getD 0, s.getD 1, s.getD 2, s.getD 3, s.getD 4, s.getD 5, s.getD 6, s.getD 7]

/-- A10 to A15 and D8 to D15 loaded from a block (60 R968, 49 R877). -/
def State.loadUpper (s : State) (v : Nat) : State :=
  let w := fun i => blockWord v (wordPlace s.cfg.csaLayout.upper i)
  (((((((((((((s.setA 10 (w 1)).setA 11 (w 2)).setA 12 (w 3)).setA 13 (w 4)).setA 14 (w 5)).setA 15 (w 6)).setD
    8 (w 7)).setD 9 (w 8)).setD 10 (w 9)).setD 11 (w 10)).setD 12 (w 11)).setD 13 (w 12)).setD 14 (w 13)).setD
    15 (w 14)

/-- A2 to A7 and D0 to D7 loaded from a block (60 R968, 49 R879). -/
def State.loadLower (s : State) (v : Nat) : State :=
  let w := fun i => blockWord v (wordPlace s.cfg.csaLayout.lower i)
  (((((((((((((s.setA 2 (w 1)).setA 3 (w 2)).setA 4 (w 3)).setA 5 (w 4)).setA 6 (w 5)).setA 7 (w 6)).setD 0 (w
    7)).setD 1 (w 8)).setD 2 (w 9)).setD 3 (w 10)).setD 4 (w 11)).setD 5 (w 12)).setD 6 (w 13)).setD 7 (w 14)

/-- The checks of an instruction's own save or restore at the CSA address `x`: MPP, MPR, MPW, BUS (60 R971 a). A save reads
the link word and writes; a restore reads and writes the link word. -/
def State.csaTrap (s : State) (x : Word) : Option Trap :=
  match s.protectionTrap .modify x with
  | some t => some t
  | none => if decide ((seg x).toNat ≤ 2) && (csaKind s.cfg x).isNone then some (.bus .bus) else none

/-- ICR.IE (10 R95). -/
def Icr.ie (x : Word) : Bool := x.getLsbD 8
/-- ICR.CCPN (10 R95). -/
def Icr.ccpn (x : Word) : BitVec 8 := x.extractLsb' 0 8
/-- ICR.PIPN (10 R95). -/
def Icr.pipn (x : Word) : BitVec 8 := x.extractLsb' 16 8
/-- ICR with IE and CCPN replaced. -/
def Icr.setEnable (x : Word) (ie : Bool) (ccpn : BitVec 8) : Word := setBit (setField x 0 8 ccpn) 8 ie

/-- PCXI.PCPN (10 R74). -/
def Pcxi.pcpn (x : Word) : BitVec 8 := x.extractLsb' 24 8
/-- PCXI.PIE (10 R74). -/
def Pcxi.pie (x : Word) : Bool := x.getLsbD 23
/-- PCXI.UL (10 R74). -/
def Pcxi.ul (x : Word) : Bool := x.getLsbD 22
/-- The bits of PCXI that exist: all but 21:20 (10 R74). -/
def Pcxi.defined (x : Word) : Word := x &&& 0xFFCFFFFF

/-- The PCXI a save leaves: PCPN and PIE from the ICR, UL the kind of the context, PCX the CSA used (60 R966). -/
def pcxiAfterSave (icr fcx : Word) (upper : Bool) : Word :=
  ((((Icr.ccpn icr ++ BitVec.ofBool (Icr.ie icr)) ++ BitVec.ofBool upper) ++ (0 : BitVec 2)) ++ pointer fcx)

/-- The registers PCXI and FCX replaced. -/
def State.setLists (s : State) (pcxi fcx : Word) : State := { s with pcxi := pcxi, fcx := fcx }

/-- The state with ICR replaced. -/
def State.setIcr (s : State) (v : Word) : State := { s with icr := v }

/-- `save(kind)` (60 R966); that FCX is not null has been checked. -/
def State.saveContext (s : State) (upper : Bool) : State :=
  let e := csaAddress s.fcx
  let kind := csaKind s.cfg e
  let link := s.readValue kind (csaByte e) 4
  let t := (s.afterRead kind (csaByte e) 4).writeValue kind (csaByte e) 64
    (blockValue (if upper then s.upperContext else s.lowerContext))
  t.setLists (pcxiAfterSave s.icr s.fcx upper) (setField s.fcx 0 20 (BitVec.ofNat 20 link))

/-- `restore(kind)` (60 R968); that PCX is not null and UL matches has been checked. -/
def State.restoreContext (s : State) (upper : Bool) : State :=
  let e := csaAddress s.pcxi
  let kind := csaKind s.cfg e
  let v := s.readValue kind (csaByte e) 64
  let t := (s.afterRead kind (csaByte e) 64).writeValue kind (csaByte e) 4 s.fcx.toNat
  let u := t.setLists (Pcxi.defined (blockWord v 0)) (setField s.fcx 0 20 (pointer s.pcxi))
  if upper then (u.setPsw (Psw.defined (blockWord v (wordPlace s.cfg.csaLayout.upper 0)))).loadUpper v
  else (u.setA 11 (blockWord v (wordPlace s.cfg.csaLayout.lower 0))).loadLower v

/-! ## Taking a trap or an interrupt, and the return -/

/-- The context of an entry can be saved: FCX is not null and its CSA is memory (60 R971 b, 93 U7). -/
def State.canEnter (s : State) : Bool :=
  pointer s.fcx != 0 && csaKind s.cfg (csaAddress s.fcx) == some .storage

/-- The FCX used by a save equals the limit LCX (60 R967). -/
def State.atLimit (s : State) : Bool := pointer s.fcx == pointer s.csfr.lcx

/-- What trap and interrupt entries share, steps 2 to 6 of 60 R975 and R976: the upper context saved, A11 the return
address, A10 the interrupt stack if the task had its own, the default PSW, IE cleared and CCPN := `ccpn`. -/
def State.enter (s : State) (ret : Word) (ccpn : BitVec 8) : State :=
  let t := (s.saveContext true).setA 11 ret
  let u := if Psw.is s.psw then t else t.setA 10 s.csfr.isp
  (u.setPsw (Psw.entry s.psw)).setIcr (Icr.setEnable s.icr false ccpn)

/-- The entry address of trap class `cls` (60 R975 step 8). -/
def trapVector (btv : Word) (cls : Nat) : Word := evenTarget (btv ||| BitVec.ofNat 32 (cls * 32))

/-- The entry address of interrupt priority `p` (60 R964). -/
def interruptVector (biv : Word) (p : BitVec 8) : Word := evenTarget (biv ||| BitVec.ofNat 32 (p.toNat * 32))

/-- `trap(cls, tin, ret)`, steps 2 to 8 of 60 R975. -/
def State.enterTrap (s : State) (t : Trap) (ret : Word) : State :=
  ((s.enter ret (Icr.ccpn s.icr)).setD 15 (zext8 t.tin)).setPc (trapVector s.csfr.btv t.cls)

/-- Trap entries one after another: an entry whose save used the limit CSA is followed by that of FCD (60 R967, R975 step
9). Three entries in a row at the limit CSA never end (log 9). -/
def takeTraps : Nat → State → Trap → Word → Out
  | 0, _, _, _ => .fault .endlessDepletion
  | n + 1, s, t, ret =>
    if s.canEnter then
      if s.atLimit then takeTraps n (s.enterTrap t ret) .fcd (s.enterTrap t ret).pc
      else .next (s.enterTrap t ret)
    else .fault .stuckContextEntry

/-- Takes a trap with return address `ret` (60 R975). -/
def takeTrap (s : State) (t : Trap) (ret : Word) : Out := takeTraps 3 s t ret

/-- The trap of the instruction at pc (60 R977, first row). -/
def raise (s : State) (t : Trap) : Out := takeTrap s t s.pc

/-- Interrupt entry, steps 2 to 8 of 60 R976. -/
def State.enterInterrupt (s : State) : State :=
  ((s.enter s.pc (Icr.pipn s.icr)).setPc (interruptVector s.csfr.biv (Icr.pipn s.icr))).emit [.intAck (Icr.pipn s.icr)]

/-- Takes the pending interrupt (60 R976), then FCD if the save used the limit CSA (step 9). -/
def takeInterrupt (s : State) : Out :=
  if s.canEnter then
    if s.atLimit then takeTrap s.enterInterrupt .fcd s.enterInterrupt.pc else .next s.enterInterrupt
  else .fault .stuckContextEntry

/-- An instruction that saved a context in state `s` has completed in state `t`: FCD if the save used the limit CSA (60
R967), with the address where execution goes on as its return address. -/
def completeSave (s t : State) : Out := if s.atLimit then takeTrap t .fcd t.pc else .next t

/-- RET and RFE after their call depth check (47 R774, 49 R880 steps 2 to 7): CSU, CTYP, the checks of 60 R971, then ICR
from PCXI (60 R969), the upper context restored and the jump to the A11 of before. -/
def returnFrom (s : State) : Out :=
  if pointer s.pcxi == 0 then raise s .csu
  else if !Pcxi.ul s.pcxi then raise s .ctyp
  else match s.csaTrap (csaAddress s.pcxi) with
    | some t => raise s t
    | none =>
      .next ((((s.signal .modify (csaAddress s.pcxi)).setIcr
        (Icr.setEnable s.icr (Pcxi.pie s.pcxi) (Pcxi.pcpn s.pcxi))).restoreContext true).setPc (evenTarget (s.getA 11)))

/-! ## Core special function registers (10 R75, 49 R902) -/

/-- The range register at a CSFR offset from 0x1000 on, if it is one by the default map (10 R75). -/
def rangeAddr (off : Nat) : Option RangeAddr :=
  let x := off / 0x100 % 16
  let r := off % 0x100
  match off / 0x1000 with
  | 1 => some ⟨false, x, r / 8, if r / 4 % 2 = 0 then .lower else .upper⟩
  | 2 => some ⟨true, x, r / 8, if r / 4 % 2 = 0 then .lower else .upper⟩
  | 3 => some ⟨false, x, r / 4, .mode⟩
  | 4 => some ⟨true, x, r / 4, .mode⟩
  | _ => none

/-- The tables of the data or of the code ranges. -/
def State.rangeSets (s : State) (code : Bool) : List (List RangeEntry) := if code then s.codeSets else s.dataSets

/-- The value of a range register; 0 where the set or the entry does not exist (10 R76, R121 to R124). -/
def State.readRange (s : State) (q : RangeAddr) : Word :=
  match (((s.rangeSets q.code).getD q.set [])[q.num]?) with
  | none => 0
  | some e =>
    match q.part with
    | .lower => e.lower
    | .upper => e.upper
    | .mode => e.mode.setWidth 32

/-- An entry with one part written; CPM keeps bits 7, 5, 3 and 0 (10 R123, R124). -/
def RangeEntry.update (e : RangeEntry) (code : Bool) (part : RangePart) (v : Word) : RangeEntry :=
  match part with
  | .lower => { e with lower := v }
  | .upper => { e with upper := v }
  | .mode => { e with mode := if code then v.setWidth 8 &&& 0xA9 else v.setWidth 8 }

/-- The tables with one range register written; nothing where it does not exist. -/
def updateSets (sets : List (List RangeEntry)) (q : RangeAddr) (v : Word) : List (List RangeEntry) :=
  sets.modify q.set fun set => set.modify q.num fun e => e.update q.code q.part v

/-- The state with a range register written (49 R902). -/
def State.writeRange (s : State) (q : RangeAddr) (v : Word) : State :=
  if q.code then { s with codeSets := updateSets s.codeSets q v } else { s with dataSets := updateSets s.dataSets q v }

/-- The register at an offset by the default map (10 R75). -/
def defaultCsfr (off : Nat) : Option CsfrName :=
  match off with
  | 0x00 => some .pcxi
  | 0x04 => some .psw
  | 0x08 => some .pc
  | 0x0C => some .fcx
  | 0x10 => some .lcx
  | 0x14 => some .isp
  | 0x18 => some .icr
  | 0x1C => some .biv
  | 0x20 => some .btv
  | 0x24 => some .syscon
  | 0x28 => some .pmucon
  | 0x2C => some .dmucon
  | 0x30 => some .dbgsr
  | 0x34 => some .gprwb
  | 0x38 => some .exevt
  | 0x3C => some .swevt
  | 0x40 => some .crevt
  | 0x44 => some .tr0evt
  | 0x48 => some .tr1evt
  | n => (rangeAddr n).map .range

/-- The register at an offset by the map in force (10 R75). -/
def csfrAt (m : Option CsfrMap) (off : BitVec 16) : Option CsfrName :=
  match m with
  | none => defaultCsfr off.toNat
  | some rows => (rows.find? fun r => r.offset == off).map fun r => r.reg

/-- The value of a core special function register (10 R75, 49 R900). -/
def State.csfrValue (s : State) (r : CsfrName) : Word :=
  match r with
  | .pcxi => s.pcxi
  | .psw => s.psw
  | .pc => s.pc
  | .fcx => s.fcx
  | .lcx => s.csfr.lcx
  | .isp => s.csfr.isp
  | .icr => s.icr
  | .biv => s.csfr.biv
  | .btv => s.csfr.btv
  | .syscon => s.csfr.syscon
  | .pmucon => s.csfr.pmucon
  | .dmucon => s.csfr.dmucon
  | .dbgsr => s.csfr.dbgsr
  | .gprwb => s.csfr.gprwb
  | .exevt => s.csfr.exevt
  | .swevt => s.csfr.swevt
  | .crevt => s.csfr.crevt
  | .tr0evt => s.csfr.tr0evt
  | .tr1evt => s.csfr.tr1evt
  | .range q => s.readRange q

/-- `CR[off]` for a word-aligned offset (10 R75); 0 where no register stands (10 R76). -/
def State.readCsfr (s : State) (off : BitVec 16) : Word :=
  match csfrAt s.cfg.csfrMap off with
  | some r => s.csfrValue r
  | none => 0

/-- The state with the registers of `Csfrs` replaced. -/
def State.setCsfrs (s : State) (c : Csfrs) : State := { s with csfr := c }

/-- The bits a write to a register leaves alone because ENDINIT locks them (10 R107). -/
def State.lockedBits (s : State) (off : BitVec 16) : Word :=
  if s.endinit then
    s.cfg.endinitLocked.foldl (fun m l => if l.offset == off then m ||| l.bits else m) 0
  else 0

/-- `x` offered to a register, by its field rules (49 R902): reserved and read-only bits keep out, the PC takes nothing (10
R55). -/
def State.putCsfr (s : State) (r : CsfrName) (x : Word) : State :=
  match r with
  | .pcxi => s.setLists (Pcxi.defined x) s.fcx
  | .psw => s.setPsw (Psw.defined x)
  | .pc => s
  | .fcx => s.setLists s.pcxi (x &&& 0x000FFFFF)
  | .lcx => s.setCsfrs { s.csfr with lcx := x &&& 0x000FFFFF }
  | .isp => s.setCsfrs { s.csfr with isp := x }
  | .icr => s.setIcr ((s.icr &&& 0x00FF0000) ||| (x &&& 0x030001FF))
  | .biv => s.setCsfrs { s.csfr with biv := x }
  | .btv => s.setCsfrs { s.csfr with btv := x }
  | .syscon => s.setCsfrs { s.csfr with syscon := (x &&& 3) ||| (s.csfr.syscon &&& 1) }
  | .pmucon => s.setCsfrs { s.csfr with pmucon := x }
  | .dmucon => s.setCsfrs { s.csfr with dmucon := x }
  | .dbgsr => s.setCsfrs { s.csfr with dbgsr := x }
  | .gprwb => s.setCsfrs { s.csfr with gprwb := x }
  | .exevt => s.setCsfrs { s.csfr with exevt := x }
  | .swevt => s.setCsfrs { s.csfr with swevt := x }
  | .crevt => s.setCsfrs { s.csfr with crevt := x }
  | .tr0evt => s.setCsfrs { s.csfr with tr0evt := x }
  | .tr1evt => s.setCsfrs { s.csfr with tr1evt := x }
  | .range q => s.writeRange q x

/-- `CR[off] <- v` (49 R902): a locked bit stays (10 R107), an offset without a register changes nothing (10 R76). -/
def State.writeCsfr (s : State) (off : BitVec 16) (v : Word) : State :=
  match csfrAt s.cfg.csfrMap off with
  | some r => s.putCsfr r ((s.csfrValue r &&& s.lockedBits off) ||| (v &&& ~~~s.lockedBits off))
  | none => s

/-! ## What the meanings of the register instructions share -/

/-- D[c] <- v and the next instruction: an instruction that writes no flag. -/
def State.putD (s : State) (c : Reg) (v : Word) (len : Word) : State := (s.setD c v).advance len

/-- E[c] <- v and the next instruction: an instruction that writes no flag. -/
def State.putE (s : State) (c : Reg) (v : DWord) (len : Word) : State := (s.setE c v).advance len

/-- D[c] <- the result, V SV AV SAV by its conditions (10 R60, R61), and the next instruction. -/
def State.putResult (s : State) (c : Reg) (r : Result 32) (len : Word) : State :=
  ((s.setD c r.value).setPsw (Psw.setOverflow s.psw r.v r.av)).advance len

/-- E[c] <- the result, V SV AV SAV by its conditions (10 R62, R63), and the next instruction. -/
def State.putResultE (s : State) (c : Reg) (r : Result 64) (len : Word) : State :=
  ((s.setE c r.value).setPsw (Psw.setOverflow s.psw r.v r.av)).advance len

/-- As `putResult`, and C <- `carry` (10 R59, R64). -/
def State.putResultC (s : State) (c : Reg) (r : Result 32) (carry : Bool) (len : Word) : State :=
  ((s.setD c r.value).setPsw (Psw.setC (Psw.setOverflow s.psw r.v r.av) carry)).advance len

/-- A[c] <- v and the next instruction. -/
def State.putA (s : State) (c : Reg) (v : Word) (len : Word) : State := (s.setA c v).advance len

/-- An instruction with pair operands: OPD if one of them is odd (30 R226). -/
def onPairs (s : State) (ok : Bool) (t : State) : Out := if ok then .next t else raise s .opd

/-- An instruction that writes A[c]: GRWP if that is not permitted (10 R45, 46 R700). -/
def onAddress (s : State) (c : Reg) (t : State) : Out := if s.mayWriteA c then .next t else raise s .grwp

/-- A DSP multiply: a shift operand of 2 or 3 is refused (43 R500, 93 U6; log 10). -/
def onQShift (n : BitVec 2) (o : Out) : Out := if isQShift n then o else .refused .undefinedShiftField

/-! ## What the meanings of the loads and stores share (48 R802, R803) -/

/-- A load of `n` bytes: the checks, the read, the base update, then `put` writes the destination (48 R802). -/
def loadOp (s : State) (m : AddrMode) (pairOk mayWrite : Bool) (align n : Nat) (len : Word)
    (put : State → Nat → State) : Out :=
  match s.operandTrap .read (m.place s) pairOk mayWrite align n with
  | some t => raise s t
  | none =>
    .next ((put ((s.afterLoad (m.place s) n).applyUpdate (m.place s)) (s.loadValue (m.place s) n)).advance len)

/-- A store of the `n` low bytes of `v`, which the caller reads before any update (48 R803). -/
def storeOp (s : State) (m : AddrMode) (pairOk : Bool) (align n : Nat) (len : Word) (v : Nat) : Out :=
  match s.operandTrap .write (m.place s) pairOk true align n with
  | some t => raise s t
  | none => .next (((s.afterStore (m.place s) n v).applyUpdate (m.place s)).advance len)

/-- A read-modify-write of `n` bytes: `f` of the value read is written back, `put` gets the value read (48 R803). -/
def modifyOp (s : State) (m : AddrMode) (pairOk mayWrite : Bool) (align n : Nat) (len : Word) (f : Nat → Nat)
    (put : State → Nat → State) : Out :=
  match s.operandTrap .modify (m.place s) pairOk mayWrite align n with
  | some t => raise s t
  | none =>
    .next ((put ((s.afterModify (m.place s) n (f (s.loadValue (m.place s) n))).applyUpdate (m.place s))
      (s.loadValue (m.place s) n)).advance len)

/-- LEA: A[a] <- EA after the update of the mode; no access (48 R830). -/
def leaOp (s : State) (m : AddrMode) (a : Reg) (len : Word) : Out :=
  if !(m.place s).pairOk then raise s .opd
  else if !(s.mayWriteA a && s.mayUpdate (m.place s)) then raise s .grwp
  else .next (((s.applyUpdate (m.place s)).setA a (m.place s).ea).advance len)

end Sys2Proof.Machine
end

