-- ==== Sys2Proof/Machine/Address.lean ====
section
/-! DEFINITION. Machine/Address.lean: the meanings of the address arithmetic, moves and compares (spec/46_address_arithmetic.md), one definition per form. -/

namespace Sys2Proof.Machine

open Sys2Proof

/-- ADD.A_RR (46 R701). -/
def execAddARr (c a b : Reg) (s : State) : Out := onAddress s c (s.putA c (s.getA a + s.getA b) 4)

/-- ADDIH.A_RLC (46 R702). -/
def execAddihARlc (c a : Reg) (const16 : BitVec 16) (s : State) : Out :=
  onAddress s c (s.putA c (s.getA a + high16 const16) 4)

/-- ADDSC.A_RR (46 R703). -/
def execAddscARr (c a b : Reg) (n : BitVec 2) (s : State) : Out :=
  onAddress s c (s.putA c (s.getA a + (s.getD b <<< n.toNat)) 4)

/-- ADDSC.A_SRRS (46 R703). -/
def execAddscASrrs (a b : Reg) (n : BitVec 2) (s : State) : Out :=
  onAddress s a (s.putA a (s.getA a + (s.getD b <<< n.toNat)) 2)

/-- ADDSC.AT_RR (46 R704). -/
def execAddscAtRr (c a b : Reg) (s : State) : Out :=
  onAddress s c (s.putA c ((s.getA a + (s.getD b).sshiftRight 3) &&& 0xFFFFFFFC) 4)

/-- SUB.A_RR (46 R705). -/
def execSubARr (c a b : Reg) (s : State) : Out := onAddress s c (s.putA c (s.getA a - s.getA b) 4)

/-- SUB.A_SC (46 R705). -/
def execSubASc (const8 : BitVec 8) (s : State) : Out := .next (s.putA 10 (s.getA 10 - zext8 const8) 2)

/-- SUBSC.A_RR (46 R706). -/
def execSubscARr (c a b : Reg) (n : BitVec 2) (s : State) : Out :=
  onAddress s c (s.putA c (s.getA a - (s.getD b <<< n.toNat)) 4)

/-- DIFSC.A_RR (46 R707). -/
def execDifscARr (c a b : Reg) (n : BitVec 2) (s : State) : Out :=
  .next (s.putD c ((s.getA a - s.getA b).sshiftRight n.toNat) 4)

/-- MOV.A_RR (46 R708). -/
def execMovARr (c b : Reg) (s : State) : Out := onAddress s c (s.putA c (s.getD b) 4)

/-- MOV.A_SRR (46 R708). -/
def execMovASrr (a b : Reg) (s : State) : Out := onAddress s a (s.putA a (s.getD b) 2)

/-- MOV.AA_RR (46 R709). -/
def execMovAaRr (c b : Reg) (s : State) : Out := onAddress s c (s.putA c (s.getA b) 4)

/-- MOV.AA_SRR (46 R709). -/
def execMovAaSrr (a b : Reg) (s : State) : Out := onAddress s a (s.putA a (s.getA b) 2)

/-- MOV.D_RR (46 R710). -/
def execMovDRr (c b : Reg) (s : State) : Out := .next (s.putD c (s.getA b) 4)

/-- MOV.D_SRR (46 R710). -/
def execMovDSrr (a b : Reg) (s : State) : Out := .next (s.putD a (s.getA b) 2)

/-- MOVH.A_RLC (46 R711). -/
def execMovhARlc (c : Reg) (const16 : BitVec 16) (s : State) : Out := onAddress s c (s.putA c (high16 const16) 4)

/-- MOVZ.A_SR (46 R713). -/
def execMovzASr (a : Reg) (s : State) : Out := onAddress s a (s.putA a (0) 2)

/-- CADD.A_RCR (46 R714). -/
def execCaddARcr (c d a : Reg) (const9 : BitVec 9) (s : State) : Out :=
  onAddress s c (s.putA c (if s.getD d ≠ 0 then s.getA a + sext9 const9 else s.getA a) 4)

/-- CADD.A_RRR (46 R714). -/
def execCaddARrr (c d a b : Reg) (s : State) : Out :=
  onAddress s c (s.putA c (if s.getD d ≠ 0 then s.getA a + s.getA b else s.getA a) 4)

/-- CADDN.A_RCR (46 R715). -/
def execCaddnARcr (c d a : Reg) (const9 : BitVec 9) (s : State) : Out :=
  onAddress s c (s.putA c (if s.getD d = 0 then s.getA a + sext9 const9 else s.getA a) 4)

/-- CADDN.A_RRR (46 R715). -/
def execCaddnARrr (c d a b : Reg) (s : State) : Out :=
  onAddress s c (s.putA c (if s.getD d = 0 then s.getA a + s.getA b else s.getA a) 4)

/-- CSUB.A_RRR (46 R716). -/
def execCsubARrr (c d a b : Reg) (s : State) : Out :=
  onAddress s c (s.putA c (if s.getD d ≠ 0 then s.getA a - s.getA b else s.getA a) 4)

/-- CSUBN.A_RRR (46 R717). -/
def execCsubnARrr (c d a b : Reg) (s : State) : Out :=
  onAddress s c (s.putA c (if s.getD d = 0 then s.getA a - s.getA b else s.getA a) 4)

/-- SEL.A_RCR (46 R718). -/
def execSelARcr (c d a : Reg) (const9 : BitVec 9) (s : State) : Out :=
  onAddress s c (s.putA c (if s.getD d ≠ 0 then s.getA a else sext9 const9) 4)

/-- SEL.A_RRR (46 R718). -/
def execSelARrr (c d a b : Reg) (s : State) : Out :=
  onAddress s c (s.putA c (if s.getD d ≠ 0 then s.getA a else s.getA b) 4)

/-- SELN.A_RCR (46 R719). -/
def execSelnARcr (c d a : Reg) (const9 : BitVec 9) (s : State) : Out :=
  onAddress s c (s.putA c (if s.getD d = 0 then s.getA a else sext9 const9) 4)

/-- SELN.A_RRR (46 R719). -/
def execSelnARrr (c d a b : Reg) (s : State) : Out :=
  onAddress s c (s.putA c (if s.getD d = 0 then s.getA a else s.getA b) 4)

/-- EQ.A_RR (46 R721). -/
def execEqARr (c a b : Reg) (s : State) : Out := .next (s.putD c (boolWord (s.getA a == s.getA b)) 4)

/-- NE.A_RR (46 R722). -/
def execNeARr (c a b : Reg) (s : State) : Out := .next (s.putD c (boolWord (s.getA a != s.getA b)) 4)

/-- LT.A_RR (46 R723). -/
def execLtARr (c a b : Reg) (s : State) : Out :=
  .next (s.putD c (boolWord (decide ((s.getA a).toNat < (s.getA b).toNat))) 4)

/-- GE.A_RR (46 R724). -/
def execGeARr (c a b : Reg) (s : State) : Out :=
  .next (s.putD c (boolWord (decide ((s.getA a).toNat ≥ (s.getA b).toNat))) 4)

/-- EQZ.A_RR (46 R725). -/
def execEqzARr (c a : Reg) (s : State) : Out := .next (s.putD c (boolWord (s.getA a == 0)) 4)

/-- NEZ.A_RR (46 R726). -/
def execNezARr (c a : Reg) (s : State) : Out := .next (s.putD c (boolWord (s.getA a != 0)) 4)

end Sys2Proof.Machine
end

