-- ==== Sys2Proof/Machine/Branch.lean ====
section
/-! DEFINITION. Machine/Branch.lean: the meanings of the jumps, loops, calls and RET (spec/47_branch.md), one definition per form. -/

namespace Sys2Proof.Machine

open Sys2Proof

/-- A conditional jump: to the target if the condition holds, else to the next instruction (47 R740). -/
def State.branchIf (s : State) (cond : Bool) (target len : Word) : State :=
  s.setPc (if cond then target else s.pc + len)

/-- LOOP on A[r] (47 R768): the jump and the decrement if A[r] is not 0; GRWP guards the write. -/
def loopOp (s : State) (r : Reg) (target len : Word) : Out :=
  if s.getA r = 0 then .next (s.advance len)
  else onAddress s r ((s.setA r (s.getA r - 1)).setPc target)

/-- A call with target `t` (47 R769): FCU, CDO, the checks of 60 R971, then the upper context saved, the call depth
counted, A11 the return address, the jump, and FCD if the save used the limit CSA. -/
def callOp (s : State) (t : Word) : Out :=
  if pointer s.fcx == 0 then raise s .fcu
  else if callDepthOverflow s.psw then raise s .cdo
  else match s.csaTrap (csaAddress s.fcx) with
    | some x => raise s x
    | none =>
      completeSave s (((((s.signal .modify (csaAddress s.fcx)).saveContext true).setPsw
        (Psw.afterCall s.psw)).setA 11 (s.pc + 4)).setPc t)

/-- RET (47 R774): CDU, then what RFE does too. -/
def retOp (s : State) : Out := if callDepthZero s.psw then raise s .cdu else returnFrom s

/-- J_B (47 R742). -/
def execJB (disp24 : BitVec 24) (s : State) : Out := .next (s.setPc (relTarget24 s.pc disp24))

/-- J_SB (47 R742). -/
def execJSb (disp8 : BitVec 8) (s : State) : Out := .next (s.setPc (relTarget8 s.pc disp8))

/-- JA_B (47 R743). -/
def execJaB (disp24 : BitVec 24) (s : State) : Out := .next (s.setPc (absTarget24 disp24))

/-- JL_B (47 R745). -/
def execJlB (disp24 : BitVec 24) (s : State) : Out := .next ((s.setA 11 (s.pc + 4)).setPc (relTarget24 s.pc disp24))

/-- JLA_B (47 R746). -/
def execJlaB (disp24 : BitVec 24) (s : State) : Out := .next ((s.setA 11 (s.pc + 4)).setPc (absTarget24 disp24))

/-- JLI_RR (47 R747). -/
def execJliRr (b : Reg) (s : State) : Out := .next ((s.setA 11 (s.pc + 4)).setPc (evenTarget (s.getA b)))

/-- JI_RR (47 R748). -/
def execJiRr (b : Reg) (s : State) : Out := .next (s.setPc (evenTarget (s.getA b)))

/-- JI_SBR (47 R748). -/
def execJiSbr (b : Reg) (s : State) : Out := .next (s.setPc (evenTarget (s.getA b)))

/-- JEQ_BRC (47 R750). -/
def execJeqBrc (a : Reg) (const4 : BitVec 4) (disp15 : BitVec 15) (s : State) : Out :=
  .next (s.branchIf (s.getD a == sext4 const4) (relTarget15 s.pc disp15) 4)

/-- JEQ_BRR (47 R750). -/
def execJeqBrr (a b : Reg) (disp15 : BitVec 15) (s : State) : Out :=
  .next (s.branchIf (s.getD a == s.getD b) (relTarget15 s.pc disp15) 4)

/-- JEQ_SBC (47 R750). -/
def execJeqSbc (const4 disp4 : BitVec 4) (s : State) : Out :=
  .next (s.branchIf (s.getD 15 == sext4 const4) (relTarget4 s.pc disp4) 2)

/-- JEQ_SBR (47 R750). -/
def execJeqSbr (b : Reg) (disp4 : BitVec 4) (s : State) : Out :=
  .next (s.branchIf (s.getD 15 == s.getD b) (relTarget4 s.pc disp4) 2)

/-- JNE_BRC (47 R751). -/
def execJneBrc (a : Reg) (const4 : BitVec 4) (disp15 : BitVec 15) (s : State) : Out :=
  .next (s.branchIf (s.getD a != sext4 const4) (relTarget15 s.pc disp15) 4)

/-- JNE_BRR (47 R751). -/
def execJneBrr (a b : Reg) (disp15 : BitVec 15) (s : State) : Out :=
  .next (s.branchIf (s.getD a != s.getD b) (relTarget15 s.pc disp15) 4)

/-- JNE_SBC (47 R751). -/
def execJneSbc (const4 disp4 : BitVec 4) (s : State) : Out :=
  .next (s.branchIf (s.getD 15 != sext4 const4) (relTarget4 s.pc disp4) 2)

/-- JNE_SBR (47 R751). -/
def execJneSbr (b : Reg) (disp4 : BitVec 4) (s : State) : Out :=
  .next (s.branchIf (s.getD 15 != s.getD b) (relTarget4 s.pc disp4) 2)

/-- JGE_BRC (47 R752). -/
def execJgeBrc (a : Reg) (const4 : BitVec 4) (disp15 : BitVec 15) (s : State) : Out :=
  .next (s.branchIf (decide (s.sD a ≥ (sext4 const4).toInt)) (relTarget15 s.pc disp15) 4)

/-- JGE_BRR (47 R752). -/
def execJgeBrr (a b : Reg) (disp15 : BitVec 15) (s : State) : Out :=
  .next (s.branchIf (decide (s.sD a ≥ s.sD b)) (relTarget15 s.pc disp15) 4)

/-- JGE.U_BRC (47 R753). -/
def execJgeUBrc (a : Reg) (const4 : BitVec 4) (disp15 : BitVec 15) (s : State) : Out :=
  .next (s.branchIf (decide (s.uD a ≥ ((zext4 const4).toNat : Int))) (relTarget15 s.pc disp15) 4)

/-- JGE.U_BRR (47 R753). -/
def execJgeUBrr (a b : Reg) (disp15 : BitVec 15) (s : State) : Out :=
  .next (s.branchIf (decide (s.uD a ≥ s.uD b)) (relTarget15 s.pc disp15) 4)

/-- JLT_BRC (47 R754). -/
def execJltBrc (a : Reg) (const4 : BitVec 4) (disp15 : BitVec 15) (s : State) : Out :=
  .next (s.branchIf (decide (s.sD a < (sext4 const4).toInt)) (relTarget15 s.pc disp15) 4)

/-- JLT_BRR (47 R754). -/
def execJltBrr (a b : Reg) (disp15 : BitVec 15) (s : State) : Out :=
  .next (s.branchIf (decide (s.sD a < s.sD b)) (relTarget15 s.pc disp15) 4)

/-- JLT.U_BRC (47 R755). -/
def execJltUBrc (a : Reg) (const4 : BitVec 4) (disp15 : BitVec 15) (s : State) : Out :=
  .next (s.branchIf (decide (s.uD a < ((zext4 const4).toNat : Int))) (relTarget15 s.pc disp15) 4)

/-- JLT.U_BRR (47 R755). -/
def execJltUBrr (a b : Reg) (disp15 : BitVec 15) (s : State) : Out :=
  .next (s.branchIf (decide (s.uD a < s.uD b)) (relTarget15 s.pc disp15) 4)

/-- JGEZ_SBR (47 R756). -/
def execJgezSbr (b : Reg) (disp4 : BitVec 4) (s : State) : Out :=
  .next (s.branchIf (decide (s.sD b ≥ 0)) (relTarget4 s.pc disp4) 2)

/-- JGTZ_SBR (47 R757). -/
def execJgtzSbr (b : Reg) (disp4 : BitVec 4) (s : State) : Out :=
  .next (s.branchIf (decide (s.sD b > 0)) (relTarget4 s.pc disp4) 2)

/-- JLEZ_SBR (47 R758). -/
def execJlezSbr (b : Reg) (disp4 : BitVec 4) (s : State) : Out :=
  .next (s.branchIf (decide (s.sD b ≤ 0)) (relTarget4 s.pc disp4) 2)

/-- JLTZ_SBR (47 R759). -/
def execJltzSbr (b : Reg) (disp4 : BitVec 4) (s : State) : Out :=
  .next (s.branchIf (decide (s.sD b < 0)) (relTarget4 s.pc disp4) 2)

/-- JNZ_SB (47 R760). -/
def execJnzSb (disp8 : BitVec 8) (s : State) : Out := .next (s.branchIf (s.getD 15 != 0) (relTarget8 s.pc disp8) 2)

/-- JNZ_SBR (47 R760). -/
def execJnzSbr (b : Reg) (disp4 : BitVec 4) (s : State) : Out :=
  .next (s.branchIf (s.getD b != 0) (relTarget4 s.pc disp4) 2)

/-- JZ_SB (47 R761). -/
def execJzSb (disp8 : BitVec 8) (s : State) : Out := .next (s.branchIf (s.getD 15 == 0) (relTarget8 s.pc disp8) 2)

/-- JZ_SBR (47 R761). -/
def execJzSbr (b : Reg) (disp4 : BitVec 4) (s : State) : Out :=
  .next (s.branchIf (s.getD b == 0) (relTarget4 s.pc disp4) 2)

/-- JNZ.T_BRN (47 R762). -/
def execJnzTBrn (a : Reg) (n : BitVec 5) (disp15 : BitVec 15) (s : State) : Out :=
  .next (s.branchIf ((s.getD a).getLsbD n.toNat) (relTarget15 s.pc disp15) 4)

/-- JNZ.T_SBRN (47 R762). -/
def execJnzTSbrn (n : BitVec 5) (disp4 : BitVec 4) (s : State) : Out :=
  .next (s.branchIf ((s.getD 15).getLsbD n.toNat) (relTarget4 s.pc disp4) 2)

/-- JZ.T_BRN (47 R763). -/
def execJzTBrn (a : Reg) (n : BitVec 5) (disp15 : BitVec 15) (s : State) : Out :=
  .next (s.branchIf (!(s.getD a).getLsbD n.toNat) (relTarget15 s.pc disp15) 4)

/-- JZ.T_SBRN (47 R763). -/
def execJzTSbrn (n : BitVec 5) (disp4 : BitVec 4) (s : State) : Out :=
  .next (s.branchIf (!(s.getD 15).getLsbD n.toNat) (relTarget4 s.pc disp4) 2)

/-- JNED_BRC (47 R766). -/
def execJnedBrc (a : Reg) (const4 : BitVec 4) (disp15 : BitVec 15) (s : State) : Out :=
  .next ((s.setD a (s.getD a - 1)).branchIf (s.getD a != sext4 const4) (relTarget15 s.pc disp15) 4)

/-- JNED_BRR (47 R766). -/
def execJnedBrr (a b : Reg) (disp15 : BitVec 15) (s : State) : Out :=
  .next ((s.setD a (s.getD a - 1)).branchIf (s.getD a != s.getD b) (relTarget15 s.pc disp15) 4)

/-- JNEI_BRC (47 R767). -/
def execJneiBrc (a : Reg) (const4 : BitVec 4) (disp15 : BitVec 15) (s : State) : Out :=
  .next ((s.setD a (s.getD a + 1)).branchIf (s.getD a != sext4 const4) (relTarget15 s.pc disp15) 4)

/-- JNEI_BRR (47 R767). -/
def execJneiBrr (a b : Reg) (disp15 : BitVec 15) (s : State) : Out :=
  .next ((s.setD a (s.getD a + 1)).branchIf (s.getD a != s.getD b) (relTarget15 s.pc disp15) 4)

/-- LOOP_BRR (47 R768). -/
def execLoopBrr (a : Reg) (disp15 : BitVec 15) (s : State) : Out := loopOp s a (relTarget15 s.pc disp15) 4

/-- LOOP_SBR (47 R768). -/
def execLoopSbr (b : Reg) (disp4 : BitVec 4) (s : State) : Out := loopOp s b (loopTarget4 s.pc disp4) 2

/-- CALL_B (47 R771). -/
def execCallB (disp24 : BitVec 24) (s : State) : Out := callOp s (relTarget24 s.pc disp24)

/-- CALLA_B (47 R772). -/
def execCallaB (disp24 : BitVec 24) (s : State) : Out := callOp s (absTarget24 disp24)

/-- CALLI_RR (47 R773). -/
def execCalliRr (b : Reg) (s : State) : Out := callOp s (evenTarget (s.getA b))

/-- RET_SYS (47 R774). -/
def execRetSys (s : State) : Out := retOp s

/-- RET_SR (47 R774). -/
def execRetSr (s : State) : Out := retOp s

/-- JEQ.A_BRR (47 R776). -/
def execJeqABrr (a b : Reg) (disp15 : BitVec 15) (s : State) : Out :=
  .next (s.branchIf (s.getA a == s.getA b) (relTarget15 s.pc disp15) 4)

/-- JNE.A_BRR (47 R777). -/
def execJneABrr (a b : Reg) (disp15 : BitVec 15) (s : State) : Out :=
  .next (s.branchIf (s.getA a != s.getA b) (relTarget15 s.pc disp15) 4)

/-- JNZ.A_BRR (47 R778). -/
def execJnzABrr (a : Reg) (disp15 : BitVec 15) (s : State) : Out :=
  .next (s.branchIf (s.getA a != 0) (relTarget15 s.pc disp15) 4)

/-- JNZ.A_SBR (47 R778). -/
def execJnzASbr (b : Reg) (disp4 : BitVec 4) (s : State) : Out :=
  .next (s.branchIf (s.getA b != 0) (relTarget4 s.pc disp4) 2)

/-- JZ.A_BRR (47 R779). -/
def execJzABrr (a : Reg) (disp15 : BitVec 15) (s : State) : Out :=
  .next (s.branchIf (s.getA a == 0) (relTarget15 s.pc disp15) 4)

/-- JZ.A_SBR (47 R779). -/
def execJzASbr (b : Reg) (disp4 : BitVec 4) (s : State) : Out :=
  .next (s.branchIf (s.getA b == 0) (relTarget4 s.pc disp4) 2)

end Sys2Proof.Machine
end

