-- ==== Sys2Proof/Machine/Integer.lean ====
section
/-! DEFINITION. Machine/Integer.lean: the meanings of the integer arithmetic, moves, saturation, conditional and select instructions (spec/40_integer_arithmetic.md), one definition per form. -/

namespace Sys2Proof.Machine

open Sys2Proof

/-- `if x > y then x - y else y - x` (40 R321, 44 R557). -/
def absDiff (x y : Int) : Int := if x > y then x - y else y - x

/-- MOV_RLC (40 R301). -/
def execMovRlc (c : Reg) (const16 : BitVec 16) (s : State) : Out := .next (s.putD c (sext16 const16) 4)

/-- MOV_RR (40 R301). -/
def execMovRr (c b : Reg) (s : State) : Out := .next (s.putD c (s.getD b) 4)

/-- MOV_SC (40 R301). -/
def execMovSc (const8 : BitVec 8) (s : State) : Out := .next (s.putD 15 (zext8 const8) 2)

/-- MOV_SRC (40 R301). -/
def execMovSrc (a : Reg) (const4 : BitVec 4) (s : State) : Out := .next (s.putD a (sext4 const4) 2)

/-- MOV_SRR (40 R301). -/
def execMovSrr (a b : Reg) (s : State) : Out := .next (s.putD a (s.getD b) 2)

/-- MOV.U_RLC (40 R302). -/
def execMovURlc (c : Reg) (const16 : BitVec 16) (s : State) : Out := .next (s.putD c (zext16 const16) 4)

/-- MOVH_RLC (40 R303). -/
def execMovhRlc (c : Reg) (const16 : BitVec 16) (s : State) : Out := .next (s.putD c (high16 const16) 4)

/-- ADD_RC (40 R304). -/
def execAddRc (c a : Reg) (const9 : BitVec 9) (s : State) : Out :=
  .next (s.putResult c (signedResult 32 (s.sD a + (sext9 const9).toInt)) 4)

/-- ADD_RR (40 R304). -/
def execAddRr (c a b : Reg) (s : State) : Out := .next (s.putResult c (signedResult 32 (s.sD a + s.sD b)) 4)

/-- ADD_SRC (40 R304). -/
def execAddSrc (a : Reg) (const4 : BitVec 4) (s : State) : Out :=
  .next (s.putResult a (signedResult 32 (s.sD a + (sext4 const4).toInt)) 2)

/-- ADD_SRC_D15 (40 R304). -/
def execAddSrcD15 (a : Reg) (const4 : BitVec 4) (s : State) : Out :=
  .next (s.putResult 15 (signedResult 32 (s.sD a + (sext4 const4).toInt)) 2)

/-- ADD_SRR (40 R304). -/
def execAddSrr (a b : Reg) (s : State) : Out := .next (s.putResult a (signedResult 32 (s.sD a + s.sD b)) 2)

/-- ADD_SRR_D15 (40 R304). -/
def execAddSrrD15 (a b : Reg) (s : State) : Out := .next (s.putResult 15 (signedResult 32 (s.sD a + s.sD b)) 2)

/-- ADDI_RLC (40 R305). -/
def execAddiRlc (c a : Reg) (const16 : BitVec 16) (s : State) : Out :=
  .next (s.putResult c (signedResult 32 (s.sD a + (sext16 const16).toInt)) 4)

/-- ADDIH_RLC (40 R306). -/
def execAddihRlc (c a : Reg) (const16 : BitVec 16) (s : State) : Out :=
  .next (s.putResult c (signedResult 32 (s.sD a + (high16 const16).toInt)) 4)

/-- ADDX_RC (40 R307). -/
def execAddxRc (c a : Reg) (const9 : BitVec 9) (s : State) : Out :=
  .next (s.putResultC c (signedResult 32 (s.sD a + (sext9 const9).toInt)) (carry32 (s.getD a) (sext9 const9) false) 4)

/-- ADDX_RR (40 R307). -/
def execAddxRr (c a b : Reg) (s : State) : Out :=
  .next (s.putResultC c (signedResult 32 (s.sD a + s.sD b)) (carry32 (s.getD a) (s.getD b) false) 4)

/-- ADDC_RC (40 R308). -/
def execAddcRc (c a : Reg) (const9 : BitVec 9) (s : State) : Out :=
  .next (s.putResultC c (signedResult 32 (s.sD a + (sext9 const9).toInt + (Psw.c s.psw).toNat))
    (carry32 (s.getD a) (sext9 const9) (Psw.c s.psw)) 4)

/-- ADDC_RR (40 R308). -/
def execAddcRr (c a b : Reg) (s : State) : Out :=
  .next (s.putResultC c (signedResult 32 (s.sD a + s.sD b + (Psw.c s.psw).toNat))
    (carry32 (s.getD a) (s.getD b) (Psw.c s.psw)) 4)

/-- ADDS_RC (40 R309). -/
def execAddsRc (c a : Reg) (const9 : BitVec 9) (s : State) : Out :=
  .next (s.putResult c (signedSatResult 32 (s.sD a + (sext9 const9).toInt)) 4)

/-- ADDS_RR (40 R309). -/
def execAddsRr (c a b : Reg) (s : State) : Out := .next (s.putResult c (signedSatResult 32 (s.sD a + s.sD b)) 4)

/-- ADDS.U_RC (40 R310). -/
def execAddsURc (c a : Reg) (const9 : BitVec 9) (s : State) : Out :=
  .next (s.putResult c (unsignedSatResult 32 (s.uD a + ((zext9 const9).toNat : Int))) 4)

/-- ADDS.U_RR (40 R310). -/
def execAddsURr (c a b : Reg) (s : State) : Out := .next (s.putResult c (unsignedSatResult 32 (s.uD a + s.uD b)) 4)

/-- SUB_RR (40 R311). -/
def execSubRr (c a b : Reg) (s : State) : Out := .next (s.putResult c (signedResult 32 (s.sD a - s.sD b)) 4)

/-- SUB_SRR (40 R311). -/
def execSubSrr (a b : Reg) (s : State) : Out := .next (s.putResult a (signedResult 32 (s.sD a - s.sD b)) 2)

/-- SUB_SRR_D15 (40 R311). -/
def execSubSrrD15 (a b : Reg) (s : State) : Out := .next (s.putResult 15 (signedResult 32 (s.sD a - s.sD b)) 2)

/-- SUBX_RR (40 R312). -/
def execSubxRr (c a b : Reg) (s : State) : Out :=
  .next (s.putResultC c (signedResult 32 (s.sD a - s.sD b)) (carry32 (s.getD a) (~~~(s.getD b)) true) 4)

/-- SUBC_RR (40 R313). -/
def execSubcRr (c a b : Reg) (s : State) : Out :=
  .next (s.putResultC c (signedResult 32 (s.sD a - s.sD b + (Psw.c s.psw).toNat - 1))
    (carry32 (s.getD a) (~~~(s.getD b)) (Psw.c s.psw)) 4)

/-- SUBS_RR (40 R314). -/
def execSubsRr (c a b : Reg) (s : State) : Out := .next (s.putResult c (signedSatResult 32 (s.sD a - s.sD b)) 4)

/-- SUBS_SRR (40 R314). -/
def execSubsSrr (a b : Reg) (s : State) : Out := .next (s.putResult a (signedSatResult 32 (s.sD a - s.sD b)) 2)

/-- SUBS.U_RR (40 R315). -/
def execSubsURr (c a b : Reg) (s : State) : Out := .next (s.putResult c (unsignedSatResult 32 (s.uD a - s.uD b)) 4)

/-- RSUB_RC (40 R316). -/
def execRsubRc (c a : Reg) (const9 : BitVec 9) (s : State) : Out :=
  .next (s.putResult c (signedResult 32 ((sext9 const9).toInt - s.sD a)) 4)

/-- RSUB_SR (40 R316). -/
def execRsubSr (a : Reg) (s : State) : Out := .next (s.putResult a (signedResult 32 (0 - s.sD a)) 2)

/-- RSUBS_RC (40 R317). -/
def execRsubsRc (c a : Reg) (const9 : BitVec 9) (s : State) : Out :=
  .next (s.putResult c (signedSatResult 32 ((sext9 const9).toInt - s.sD a)) 4)

/-- RSUBS.U_RC (40 R318). -/
def execRsubsURc (c a : Reg) (const9 : BitVec 9) (s : State) : Out :=
  .next (s.putResult c (unsignedSatResult 32 (((zext9 const9).toNat : Int) - s.uD a)) 4)

/-- ABS_RR (40 R319). -/
def execAbsRr (c a : Reg) (s : State) : Out := .next (s.putResult c (signedResult 32 (s.sD a).natAbs) 4)

/-- ABSS_RR (40 R320). -/
def execAbssRr (c a : Reg) (s : State) : Out := .next (s.putResult c (signedSatResult 32 (s.sD a).natAbs) 4)

/-- ABSDIF_RC (40 R321). -/
def execAbsdifRc (c a : Reg) (const9 : BitVec 9) (s : State) : Out :=
  .next (s.putResult c (signedResult 32 (absDiff (s.sD a) ((sext9 const9).toInt))) 4)

/-- ABSDIF_RR (40 R321). -/
def execAbsdifRr (c a b : Reg) (s : State) : Out :=
  .next (s.putResult c (signedResult 32 (absDiff (s.sD a) (s.sD b))) 4)

/-- ABSDIFS_RC (40 R322). -/
def execAbsdifsRc (c a : Reg) (const9 : BitVec 9) (s : State) : Out :=
  .next (s.putResult c (signedSatResult 32 (absDiff (s.sD a) ((sext9 const9).toInt))) 4)

/-- ABSDIFS_RR (40 R322). -/
def execAbsdifsRr (c a b : Reg) (s : State) : Out :=
  .next (s.putResult c (signedSatResult 32 (absDiff (s.sD a) (s.sD b))) 4)

/-- MAX_RC (40 R323). -/
def execMaxRc (c a : Reg) (const9 : BitVec 9) (s : State) : Out :=
  .next (s.putD c (if s.sD a > (sext9 const9).toInt then s.getD a else sext9 const9) 4)

/-- MAX_RR (40 R323). -/
def execMaxRr (c a b : Reg) (s : State) : Out := .next (s.putD c (if s.sD a > s.sD b then s.getD a else s.getD b) 4)

/-- MAX.U_RC (40 R324). -/
def execMaxURc (c a : Reg) (const9 : BitVec 9) (s : State) : Out :=
  .next (s.putD c (if s.uD a > ((zext9 const9).toNat : Int) then s.getD a else zext9 const9) 4)

/-- MAX.U_RR (40 R324). -/
def execMaxURr (c a b : Reg) (s : State) : Out := .next (s.putD c (if s.uD a > s.uD b then s.getD a else s.getD b) 4)

/-- MIN_RC (40 R325). -/
def execMinRc (c a : Reg) (const9 : BitVec 9) (s : State) : Out :=
  .next (s.putD c (if s.sD a < (sext9 const9).toInt then s.getD a else sext9 const9) 4)

/-- MIN_RR (40 R325). -/
def execMinRr (c a b : Reg) (s : State) : Out := .next (s.putD c (if s.sD a < s.sD b then s.getD a else s.getD b) 4)

/-- MIN.U_RC (40 R326). -/
def execMinURc (c a : Reg) (const9 : BitVec 9) (s : State) : Out :=
  .next (s.putD c (if s.uD a < ((zext9 const9).toNat : Int) then s.getD a else zext9 const9) 4)

/-- MIN.U_RR (40 R326). -/
def execMinURr (c a b : Reg) (s : State) : Out := .next (s.putD c (if s.uD a < s.uD b then s.getD a else s.getD b) 4)

/-- SAT.B_RR (40 R327). -/
def execSatBRr (c a : Reg) (s : State) : Out := .next (s.putD c (BitVec.ofInt 32 (ssov 8 (s.sD a))) 4)

/-- SAT.B_SR (40 R327). -/
def execSatBSr (a : Reg) (s : State) : Out := .next (s.putD a (BitVec.ofInt 32 (ssov 8 (s.sD a))) 2)

/-- SAT.BU_RR (40 R328). -/
def execSatBuRr (c a : Reg) (s : State) : Out := .next (s.putD c (if s.uD a > 255 then 255 else s.getD a) 4)

/-- SAT.BU_SR (40 R328). -/
def execSatBuSr (a : Reg) (s : State) : Out := .next (s.putD a (if s.uD a > 255 then 255 else s.getD a) 2)

/-- SAT.H_RR (40 R329). -/
def execSatHRr (c a : Reg) (s : State) : Out := .next (s.putD c (BitVec.ofInt 32 (ssov 16 (s.sD a))) 4)

/-- SAT.H_SR (40 R329). -/
def execSatHSr (a : Reg) (s : State) : Out := .next (s.putD a (BitVec.ofInt 32 (ssov 16 (s.sD a))) 2)

/-- SAT.HU_RR (40 R330). -/
def execSatHuRr (c a : Reg) (s : State) : Out := .next (s.putD c (if s.uD a > 65535 then 65535 else s.getD a) 4)

/-- SAT.HU_SR (40 R330). -/
def execSatHuSr (a : Reg) (s : State) : Out := .next (s.putD a (if s.uD a > 65535 then 65535 else s.getD a) 2)

/-- CADD_RCR (40 R331). -/
def execCaddRcr (c d a : Reg) (const9 : BitVec 9) (s : State) : Out :=
  .next (s.putResult c (signedResult 32 (if s.getD d ≠ 0 then s.sD a + (sext9 const9).toInt else s.sD a)) 4)

/-- CADD_RRR (40 R331). -/
def execCaddRrr (c d a b : Reg) (s : State) : Out :=
  .next (s.putResult c (signedResult 32 (if s.getD d ≠ 0 then s.sD a + s.sD b else s.sD a)) 4)

/-- CADD_SRC (40 R331). -/
def execCaddSrc (a : Reg) (const4 : BitVec 4) (s : State) : Out :=
  .next (s.putResult a (signedResult 32 (if s.getD 15 ≠ 0 then s.sD a + (sext4 const4).toInt else s.sD a)) 2)

/-- CADD_SRR (40 R331). -/
def execCaddSrr (a b : Reg) (s : State) : Out :=
  .next (s.putResult a (signedResult 32 (if s.getD 15 ≠ 0 then s.sD a + s.sD b else s.sD a)) 2)

/-- CADDN_RCR (40 R332). -/
def execCaddnRcr (c d a : Reg) (const9 : BitVec 9) (s : State) : Out :=
  .next (s.putResult c (signedResult 32 (if s.getD d = 0 then s.sD a + (sext9 const9).toInt else s.sD a)) 4)

/-- CADDN_RRR (40 R332). -/
def execCaddnRrr (c d a b : Reg) (s : State) : Out :=
  .next (s.putResult c (signedResult 32 (if s.getD d = 0 then s.sD a + s.sD b else s.sD a)) 4)

/-- CADDN_SRC (40 R332). -/
def execCaddnSrc (a : Reg) (const4 : BitVec 4) (s : State) : Out :=
  .next (s.putResult a (signedResult 32 (if s.getD 15 = 0 then s.sD a + (sext4 const4).toInt else s.sD a)) 2)

/-- CADDN_SRR (40 R332). -/
def execCaddnSrr (a b : Reg) (s : State) : Out :=
  .next (s.putResult a (signedResult 32 (if s.getD 15 = 0 then s.sD a + s.sD b else s.sD a)) 2)

/-- CSUB_RRR (40 R333). -/
def execCsubRrr (c d a b : Reg) (s : State) : Out :=
  .next (s.putResult c (signedResult 32 (if s.getD d ≠ 0 then s.sD a - s.sD b else s.sD a)) 4)

/-- CSUBN_RRR (40 R334). -/
def execCsubnRrr (c d a b : Reg) (s : State) : Out :=
  .next (s.putResult c (signedResult 32 (if s.getD d = 0 then s.sD a - s.sD b else s.sD a)) 4)

/-- CMOV_SRC (40 R335). -/
def execCmovSrc (a : Reg) (const4 : BitVec 4) (s : State) : Out :=
  .next (if s.getD 15 ≠ 0 then s.putD a (sext4 const4) 2 else s.advance 2)

/-- CMOV_SRR (40 R335). -/
def execCmovSrr (a b : Reg) (s : State) : Out := .next (if s.getD 15 ≠ 0 then s.putD a (s.getD b) 2 else s.advance 2)

/-- CMOVN_SRC (40 R336). -/
def execCmovnSrc (a : Reg) (const4 : BitVec 4) (s : State) : Out :=
  .next (if s.getD 15 = 0 then s.putD a (sext4 const4) 2 else s.advance 2)

/-- CMOVN_SRR (40 R336). -/
def execCmovnSrr (a b : Reg) (s : State) : Out := .next (if s.getD 15 = 0 then s.putD a (s.getD b) 2 else s.advance 2)

/-- SEL_RCR (40 R337). -/
def execSelRcr (c d a : Reg) (const9 : BitVec 9) (s : State) : Out :=
  .next (s.putD c (if s.getD d ≠ 0 then s.getD a else sext9 const9) 4)

/-- SEL_RRR (40 R337). -/
def execSelRrr (c d a b : Reg) (s : State) : Out := .next (s.putD c (if s.getD d ≠ 0 then s.getD a else s.getD b) 4)

/-- SELN_RCR (40 R338). -/
def execSelnRcr (c d a : Reg) (const9 : BitVec 9) (s : State) : Out :=
  .next (s.putD c (if s.getD d = 0 then s.getD a else sext9 const9) 4)

/-- SELN_RRR (40 R338). -/
def execSelnRrr (c d a b : Reg) (s : State) : Out := .next (s.putD c (if s.getD d = 0 then s.getD a else s.getD b) 4)

end Sys2Proof.Machine
end

