-- ==== Sys2Proof/Machine/Shift.lean ====
section
/-! DEFINITION. Machine/Shift.lean: the shifts of words and of packed elements (spec/42_logic_shift_bitfield.md rule R468 to R471, 44 R590 to R592). -/

namespace Sys2Proof.Machine

open Sys2Proof

/-- A logical shift: left for a count from 0 up, else right, zeros filled in (42 R469, 44 R591). -/
def shiftLogical {n : Nat} (x : BitVec n) (cnt : Int) : BitVec n :=
  if cnt ≥ 0 then x <<< cnt.toNat else x >>> (-cnt).toNat

/-- The true result of an arithmetic shift: `s(x) * 2^cnt`, or `floor(s(x) / 2^(-cnt))` (42 R470, 44 R592). -/
def shiftArith {n : Nat} (x : BitVec n) (cnt : Int) : Int :=
  if cnt ≥ 0 then x.toInt * 2 ^ cnt.toNat else x.toInt / 2 ^ (-cnt).toNat

/-- A 1 among the bits an arithmetic word shift shifts out (42 R470). -/
def shiftCarry (x : Word) (cnt : Int) : Bool :=
  if cnt ≥ 0 then x.toNat / 2 ^ (32 - cnt.toNat) != 0 else x.toNat % 2 ^ (-cnt).toNat != 0

end Sys2Proof.Machine
end

