-- ==== Sys2Proof/Machine/Packed.lean ====
section
/-! DEFINITION. Machine/Packed.lean: the meanings of the packed byte and halfword instructions (spec/44_packed_arithmetic.md), one definition per form. -/

namespace Sys2Proof.Machine

open Sys2Proof

/-- A byte-wise operation (44 R551). -/
def mapBytes (f : BitVec 8 → BitVec 8 → BitVec 8) (x y : Word) : Word :=
  packBytes fun k => f (byteElem x k) (byteElem y k)

/-- A halfword-wise operation (44 R551). -/
def mapHalves (f : BitVec 16 → BitVec 16 → BitVec 16) (x y : Word) : Word :=
  packHalves fun k => f (halfElem x k) (halfElem y k)

/-- A byte-wise operation with flags (44 R551, 10 R63). -/
def byteResults (f : BitVec 8 → BitVec 8 → Result 8) (x y : Word) : Result 32 :=
  packByteResults fun k => f (byteElem x k) (byteElem y k)

/-- A halfword-wise operation with flags (44 R551, 10 R63). -/
def halfResults (f : BitVec 16 → BitVec 16 → Result 16) (x y : Word) : Result 32 :=
  packHalfResults fun k => f (halfElem x k) (halfElem y k)

/-- `sN(x)` (44 R551). -/
def sOf {n : Nat} (x : BitVec n) : Int := x.toInt

/-- `uN(x)` (44 R551). -/
def uOf {n : Nat} (x : BitVec n) : Int := (x.toNat : Int)

/-- `|sN(x)|` (44 R555). -/
def absOf {n : Nat} (x : BitVec n) : Int := (x.toInt.natAbs : Int)

/-- ABS.B_RR (44 R555). -/
def execAbsBRr (c a : Reg) (s : State) : Out :=
  .next (s.putResult c (byteResults (fun x _ => signedResult 8 (absOf x)) (s.getD a) (s.getD a)) 4)

/-- ABS.H_RR (44 R555). -/
def execAbsHRr (c a : Reg) (s : State) : Out :=
  .next (s.putResult c (halfResults (fun x _ => signedResult 16 (absOf x)) (s.getD a) (s.getD a)) 4)

/-- ABSS.B_RR (44 R556). -/
def execAbssBRr (c a : Reg) (s : State) : Out :=
  .next (s.putResult c (byteResults (fun x _ => signedSatResult 8 (absOf x)) (s.getD a) (s.getD a)) 4)

/-- ABSS.H_RR (44 R556). -/
def execAbssHRr (c a : Reg) (s : State) : Out :=
  .next (s.putResult c (halfResults (fun x _ => signedSatResult 16 (absOf x)) (s.getD a) (s.getD a)) 4)

/-- ABSDIF.B_RR (44 R557). -/
def execAbsdifBRr (c a b : Reg) (s : State) : Out :=
  .next (s.putResult c (byteResults (fun x y => signedResult 8 (absDiff (sOf x) (sOf y))) (s.getD a) (s.getD b)) 4)

/-- ABSDIF.H_RR (44 R557). -/
def execAbsdifHRr (c a b : Reg) (s : State) : Out :=
  .next (s.putResult c (halfResults (fun x y => signedResult 16 (absDiff (sOf x) (sOf y))) (s.getD a) (s.getD b)) 4)

/-- ABSDIFS.B_RR (44 R558). -/
def execAbsdifsBRr (c a b : Reg) (s : State) : Out :=
  .next (s.putResult c (byteResults (fun x y => signedSatResult 8 (absDiff (sOf x) (sOf y))) (s.getD a) (s.getD b)) 4)

/-- ABSDIFS.H_RR (44 R558). -/
def execAbsdifsHRr (c a b : Reg) (s : State) : Out :=
  .next (s.putResult c (halfResults (fun x y => signedSatResult 16 (absDiff (sOf x) (sOf y))) (s.getD a) (s.getD b)) 4)

/-- ADD.B_RR (44 R560). -/
def execAddBRr (c a b : Reg) (s : State) : Out :=
  .next (s.putResult c (byteResults (fun x y => signedResult 8 (sOf x + sOf y)) (s.getD a) (s.getD b)) 4)

/-- ADD.H_RR (44 R560). -/
def execAddHRr (c a b : Reg) (s : State) : Out :=
  .next (s.putResult c (halfResults (fun x y => signedResult 16 (sOf x + sOf y)) (s.getD a) (s.getD b)) 4)

/-- ADDS.B_RR (44 R561). -/
def execAddsBRr (c a b : Reg) (s : State) : Out :=
  .next (s.putResult c (byteResults (fun x y => signedSatResult 8 (sOf x + sOf y)) (s.getD a) (s.getD b)) 4)

/-- ADDS.H_RR (44 R561). -/
def execAddsHRr (c a b : Reg) (s : State) : Out :=
  .next (s.putResult c (halfResults (fun x y => signedSatResult 16 (sOf x + sOf y)) (s.getD a) (s.getD b)) 4)

/-- ADDS.BU_RR (44 R562). -/
def execAddsBuRr (c a b : Reg) (s : State) : Out :=
  .next (s.putResult c (byteResults (fun x y => unsignedSatResult 8 (uOf x + uOf y)) (s.getD a) (s.getD b)) 4)

/-- ADDS.HU_RR (44 R562). -/
def execAddsHuRr (c a b : Reg) (s : State) : Out :=
  .next (s.putResult c (halfResults (fun x y => unsignedSatResult 16 (uOf x + uOf y)) (s.getD a) (s.getD b)) 4)

/-- SUB.B_RR (44 R563). -/
def execSubBRr (c a b : Reg) (s : State) : Out :=
  .next (s.putResult c (byteResults (fun x y => signedResult 8 (sOf x - sOf y)) (s.getD a) (s.getD b)) 4)

/-- SUB.H_RR (44 R563). -/
def execSubHRr (c a b : Reg) (s : State) : Out :=
  .next (s.putResult c (halfResults (fun x y => signedResult 16 (sOf x - sOf y)) (s.getD a) (s.getD b)) 4)

/-- SUBS.B_RR (44 R564). -/
def execSubsBRr (c a b : Reg) (s : State) : Out :=
  .next (s.putResult c (byteResults (fun x y => signedSatResult 8 (sOf x - sOf y)) (s.getD a) (s.getD b)) 4)

/-- SUBS.H_RR (44 R564). -/
def execSubsHRr (c a b : Reg) (s : State) : Out :=
  .next (s.putResult c (halfResults (fun x y => signedSatResult 16 (sOf x - sOf y)) (s.getD a) (s.getD b)) 4)

/-- SUBS.BU_RR (44 R565). -/
def execSubsBuRr (c a b : Reg) (s : State) : Out :=
  .next (s.putResult c (byteResults (fun x y => unsignedSatResult 8 (uOf x - uOf y)) (s.getD a) (s.getD b)) 4)

/-- SUBS.HU_RR (44 R565). -/
def execSubsHuRr (c a b : Reg) (s : State) : Out :=
  .next (s.putResult c (halfResults (fun x y => unsignedSatResult 16 (uOf x - uOf y)) (s.getD a) (s.getD b)) 4)

/-- MAX.B_RR (44 R570). -/
def execMaxBRr (c a b : Reg) (s : State) : Out :=
  .next (s.putD c (mapBytes (fun x y => if sOf x > sOf y then x else y) (s.getD a) (s.getD b)) 4)

/-- MAX.H_RR (44 R570). -/
def execMaxHRr (c a b : Reg) (s : State) : Out :=
  .next (s.putD c (mapHalves (fun x y => if sOf x > sOf y then x else y) (s.getD a) (s.getD b)) 4)

/-- MAX.BU_RR (44 R571). -/
def execMaxBuRr (c a b : Reg) (s : State) : Out :=
  .next (s.putD c (mapBytes (fun x y => if uOf x > uOf y then x else y) (s.getD a) (s.getD b)) 4)

/-- MAX.HU_RR (44 R571). -/
def execMaxHuRr (c a b : Reg) (s : State) : Out :=
  .next (s.putD c (mapHalves (fun x y => if uOf x > uOf y then x else y) (s.getD a) (s.getD b)) 4)

/-- MIN.B_RR (44 R572). -/
def execMinBRr (c a b : Reg) (s : State) : Out :=
  .next (s.putD c (mapBytes (fun x y => if sOf x < sOf y then x else y) (s.getD a) (s.getD b)) 4)

/-- MIN.H_RR (44 R572). -/
def execMinHRr (c a b : Reg) (s : State) : Out :=
  .next (s.putD c (mapHalves (fun x y => if sOf x < sOf y then x else y) (s.getD a) (s.getD b)) 4)

/-- MIN.BU_RR (44 R573). -/
def execMinBuRr (c a b : Reg) (s : State) : Out :=
  .next (s.putD c (mapBytes (fun x y => if uOf x < uOf y then x else y) (s.getD a) (s.getD b)) 4)

/-- MIN.HU_RR (44 R573). -/
def execMinHuRr (c a b : Reg) (s : State) : Out :=
  .next (s.putD c (mapHalves (fun x y => if uOf x < uOf y then x else y) (s.getD a) (s.getD b)) 4)

/-- CLZ.B_RR (44 R580). -/
def execClzBRr (c a : Reg) (s : State) : Out :=
  .next (s.putD c (mapBytes (fun x _ => BitVec.ofNat 8 (leadingZeros x)) (s.getD a) (s.getD a)) 4)

/-- CLZ.H_RR (44 R580). -/
def execClzHRr (c a : Reg) (s : State) : Out :=
  .next (s.putD c (mapHalves (fun x _ => BitVec.ofNat 16 (leadingZeros x)) (s.getD a) (s.getD a)) 4)

/-- CLO.B_RR (44 R581). -/
def execCloBRr (c a : Reg) (s : State) : Out :=
  .next (s.putD c (mapBytes (fun x _ => BitVec.ofNat 8 (leadingOnes x)) (s.getD a) (s.getD a)) 4)

/-- CLO.H_RR (44 R581). -/
def execCloHRr (c a : Reg) (s : State) : Out :=
  .next (s.putD c (mapHalves (fun x _ => BitVec.ofNat 16 (leadingOnes x)) (s.getD a) (s.getD a)) 4)

/-- CLS.B_RR (44 R582). -/
def execClsBRr (c a : Reg) (s : State) : Out :=
  .next (s.putD c (mapBytes (fun x _ => BitVec.ofNat 8 (leadingSigns x)) (s.getD a) (s.getD a)) 4)

/-- CLS.H_RR (44 R582). -/
def execClsHRr (c a : Reg) (s : State) : Out :=
  .next (s.putD c (mapHalves (fun x _ => BitVec.ofNat 16 (leadingSigns x)) (s.getD a) (s.getD a)) 4)

/-- SH.B_RC (44 R591). -/
def execShBRc (c a : Reg) (const9 : BitVec 9) (s : State) : Out :=
  .next (s.putD c (mapBytes (fun x _ => shiftLogical x (shiftCount4 (const9.setWidth 32))) (s.getD a) (s.getD a)) 4)

/-- SH.H_RC (44 R591). -/
def execShHRc (c a : Reg) (const9 : BitVec 9) (s : State) : Out :=
  .next (s.putD c (mapHalves (fun x _ => shiftLogical x (shiftCount5 (const9.setWidth 32))) (s.getD a) (s.getD a)) 4)

/-- SH.B_RR (44 R591). -/
def execShBRr (c a b : Reg) (s : State) : Out :=
  .next (s.putD c (mapBytes (fun x _ => shiftLogical x (shiftCount4 (s.getD b))) (s.getD a) (s.getD a)) 4)

/-- SH.H_RR (44 R591). -/
def execShHRr (c a b : Reg) (s : State) : Out :=
  .next (s.putD c (mapHalves (fun x _ => shiftLogical x (shiftCount5 (s.getD b))) (s.getD a) (s.getD a)) 4)

/-- SHA.B_RC (44 R592). -/
def execShaBRc (c a : Reg) (const9 : BitVec 9) (s : State) : Out :=
  .next (s.putResult c (byteResults (fun x _ => signedResult 8 (shiftArith x (shiftCount4 (const9.setWidth 32))))
    (s.getD a) (s.getD a)) 4)

/-- SHA.H_RC (44 R592). -/
def execShaHRc (c a : Reg) (const9 : BitVec 9) (s : State) : Out :=
  .next (s.putResult c (halfResults (fun x _ => signedResult 16 (shiftArith x (shiftCount5 (const9.setWidth 32))))
    (s.getD a) (s.getD a)) 4)

/-- SHA.B_RR (44 R592). -/
def execShaBRr (c a b : Reg) (s : State) : Out :=
  .next (s.putResult c (byteResults (fun x _ => signedResult 8 (shiftArith x (shiftCount4 (s.getD b)))) (s.getD a)
    (s.getD a)) 4)

/-- SHA.H_RR (44 R592). -/
def execShaHRr (c a b : Reg) (s : State) : Out :=
  .next (s.putResult c (halfResults (fun x _ => signedResult 16 (shiftArith x (shiftCount5 (s.getD b)))) (s.getD a)
    (s.getD a)) 4)

end Sys2Proof.Machine
end

