-- ==== Sys2Proof/Machine/Compare.lean ====
section
/-! DEFINITION. Machine/Compare.lean: the meanings of the compare and single-bit instructions (spec/45_compare_and_bit.md), one definition per form. -/

namespace Sys2Proof.Machine

open Sys2Proof

/-- D[c] with bit 0 replaced: what an accumulating compare or bit operation writes (45 R628, R676). -/
def accumulate (x : Word) (b : Bool) : Word := setBit x 0 b

/-- `{x[30:0], b}`: what a compare or bit operation with shift writes (45 R647, R685). -/
def shiftIn (x : Word) (b : Bool) : Word := x.setWidth 31 ++ BitVec.ofBool b

/-- Bit 0 of D[r]. -/
def State.bit0 (s : State) (r : Reg) : Bool := (s.getD r).getLsbD 0

/-- Bit `p` of D[r] (45 R666). -/
def State.bitD (s : State) (r : Reg) (p : BitVec 5) : Bool := (s.getD r).getLsbD p.toNat

/-- The extended boolean of an `n`-bit element (45 R654). -/
def extBool (n : Nat) (b : Bool) : BitVec n := if b then BitVec.allOnes n else 0

/-- Some byte of `x` equals the byte of `y` at the same place (45 R658). -/
def anyByteEqual (x y : Word) : Bool :=
  byteElem x 3 == byteElem y 3 || byteElem x 2 == byteElem y 2 || byteElem x 1 == byteElem y 1 ||
    byteElem x 0 == byteElem y 0

/-- Some halfword of `x` equals the halfword of `y` at the same place (45 R659). -/
def anyHalfEqual (x y : Word) : Bool := halfElem x 1 == halfElem y 1 || halfElem x 0 == halfElem y 0

/-- EQ_RC (45 R622). -/
def execEqRc (c a : Reg) (const9 : BitVec 9) (s : State) : Out :=
  .next (s.putD c (boolWord (s.getD a == sext9 const9)) 4)

/-- EQ_RR (45 R622). -/
def execEqRr (c a b : Reg) (s : State) : Out := .next (s.putD c (boolWord (s.getD a == s.getD b)) 4)

/-- EQ_SRC (45 R622). -/
def execEqSrc (a : Reg) (const4 : BitVec 4) (s : State) : Out :=
  .next (s.putD 15 (boolWord (s.getD a == sext4 const4)) 2)

/-- EQ_SRR (45 R622). -/
def execEqSrr (a b : Reg) (s : State) : Out := .next (s.putD 15 (boolWord (s.getD a == s.getD b)) 2)

/-- NE_RC (45 R623). -/
def execNeRc (c a : Reg) (const9 : BitVec 9) (s : State) : Out :=
  .next (s.putD c (boolWord (s.getD a != sext9 const9)) 4)

/-- NE_RR (45 R623). -/
def execNeRr (c a b : Reg) (s : State) : Out := .next (s.putD c (boolWord (s.getD a != s.getD b)) 4)

/-- LT_RC (45 R624). -/
def execLtRc (c a : Reg) (const9 : BitVec 9) (s : State) : Out :=
  .next (s.putD c (boolWord (decide (s.sD a < (sext9 const9).toInt))) 4)

/-- LT_RR (45 R624). -/
def execLtRr (c a b : Reg) (s : State) : Out := .next (s.putD c (boolWord (decide (s.sD a < s.sD b))) 4)

/-- LT_SRC (45 R624). -/
def execLtSrc (a : Reg) (const4 : BitVec 4) (s : State) : Out :=
  .next (s.putD 15 (boolWord (decide (s.sD a < (sext4 const4).toInt))) 2)

/-- LT_SRR (45 R624). -/
def execLtSrr (a b : Reg) (s : State) : Out := .next (s.putD 15 (boolWord (decide (s.sD a < s.sD b))) 2)

/-- LT.U_RC (45 R625). -/
def execLtURc (c a : Reg) (const9 : BitVec 9) (s : State) : Out :=
  .next (s.putD c (boolWord (decide (s.uD a < ((zext9 const9).toNat : Int)))) 4)

/-- LT.U_RR (45 R625). -/
def execLtURr (c a b : Reg) (s : State) : Out := .next (s.putD c (boolWord (decide (s.uD a < s.uD b))) 4)

/-- LT.U_SRC (45 R625). -/
def execLtUSrc (a : Reg) (const4 : BitVec 4) (s : State) : Out :=
  .next (s.putD 15 (boolWord (decide (s.uD a < ((zext4 const4).toNat : Int)))) 2)

/-- LT.U_SRR (45 R625). -/
def execLtUSrr (a b : Reg) (s : State) : Out := .next (s.putD 15 (boolWord (decide (s.uD a < s.uD b))) 2)

/-- GE_RC (45 R626). -/
def execGeRc (c a : Reg) (const9 : BitVec 9) (s : State) : Out :=
  .next (s.putD c (boolWord (decide (s.sD a ≥ (sext9 const9).toInt))) 4)

/-- GE_RR (45 R626). -/
def execGeRr (c a b : Reg) (s : State) : Out := .next (s.putD c (boolWord (decide (s.sD a ≥ s.sD b))) 4)

/-- GE.U_RC (45 R627). -/
def execGeURc (c a : Reg) (const9 : BitVec 9) (s : State) : Out :=
  .next (s.putD c (boolWord (decide (s.uD a ≥ ((zext9 const9).toNat : Int)))) 4)

/-- GE.U_RR (45 R627). -/
def execGeURr (c a b : Reg) (s : State) : Out := .next (s.putD c (boolWord (decide (s.uD a ≥ s.uD b))) 4)

/-- AND.EQ_RC (45 R629). -/
def execAndEqRc (c a : Reg) (const9 : BitVec 9) (s : State) : Out :=
  .next (s.putD c (accumulate (s.getD c) (s.bit0 c && (s.getD a == sext9 const9))) 4)

/-- AND.EQ_RR (45 R629). -/
def execAndEqRr (c a b : Reg) (s : State) : Out :=
  .next (s.putD c (accumulate (s.getD c) (s.bit0 c && (s.getD a == s.getD b))) 4)

/-- AND.NE_RC (45 R630). -/
def execAndNeRc (c a : Reg) (const9 : BitVec 9) (s : State) : Out :=
  .next (s.putD c (accumulate (s.getD c) (s.bit0 c && (s.getD a != sext9 const9))) 4)

/-- AND.NE_RR (45 R630). -/
def execAndNeRr (c a b : Reg) (s : State) : Out :=
  .next (s.putD c (accumulate (s.getD c) (s.bit0 c && (s.getD a != s.getD b))) 4)

/-- AND.LT_RC (45 R631). -/
def execAndLtRc (c a : Reg) (const9 : BitVec 9) (s : State) : Out :=
  .next (s.putD c (accumulate (s.getD c) (s.bit0 c && (decide (s.sD a < (sext9 const9).toInt)))) 4)

/-- AND.LT_RR (45 R631). -/
def execAndLtRr (c a b : Reg) (s : State) : Out :=
  .next (s.putD c (accumulate (s.getD c) (s.bit0 c && (decide (s.sD a < s.sD b)))) 4)

/-- AND.LT.U_RC (45 R632). -/
def execAndLtURc (c a : Reg) (const9 : BitVec 9) (s : State) : Out :=
  .next (s.putD c (accumulate (s.getD c) (s.bit0 c && (decide (s.uD a < ((zext9 const9).toNat : Int))))) 4)

/-- AND.LT.U_RR (45 R632). -/
def execAndLtURr (c a b : Reg) (s : State) : Out :=
  .next (s.putD c (accumulate (s.getD c) (s.bit0 c && (decide (s.uD a < s.uD b)))) 4)

/-- AND.GE_RC (45 R633). -/
def execAndGeRc (c a : Reg) (const9 : BitVec 9) (s : State) : Out :=
  .next (s.putD c (accumulate (s.getD c) (s.bit0 c && (decide (s.sD a ≥ (sext9 const9).toInt)))) 4)

/-- AND.GE_RR (45 R633). -/
def execAndGeRr (c a b : Reg) (s : State) : Out :=
  .next (s.putD c (accumulate (s.getD c) (s.bit0 c && (decide (s.sD a ≥ s.sD b)))) 4)

/-- AND.GE.U_RC (45 R634). -/
def execAndGeURc (c a : Reg) (const9 : BitVec 9) (s : State) : Out :=
  .next (s.putD c (accumulate (s.getD c) (s.bit0 c && (decide (s.uD a ≥ ((zext9 const9).toNat : Int))))) 4)

/-- AND.GE.U_RR (45 R634). -/
def execAndGeURr (c a b : Reg) (s : State) : Out :=
  .next (s.putD c (accumulate (s.getD c) (s.bit0 c && (decide (s.uD a ≥ s.uD b)))) 4)

/-- OR.EQ_RC (45 R635). -/
def execOrEqRc (c a : Reg) (const9 : BitVec 9) (s : State) : Out :=
  .next (s.putD c (accumulate (s.getD c) (s.bit0 c || (s.getD a == sext9 const9))) 4)

/-- OR.EQ_RR (45 R635). -/
def execOrEqRr (c a b : Reg) (s : State) : Out :=
  .next (s.putD c (accumulate (s.getD c) (s.bit0 c || (s.getD a == s.getD b))) 4)

/-- OR.NE_RC (45 R636). -/
def execOrNeRc (c a : Reg) (const9 : BitVec 9) (s : State) : Out :=
  .next (s.putD c (accumulate (s.getD c) (s.bit0 c || (s.getD a != sext9 const9))) 4)

/-- OR.NE_RR (45 R636). -/
def execOrNeRr (c a b : Reg) (s : State) : Out :=
  .next (s.putD c (accumulate (s.getD c) (s.bit0 c || (s.getD a != s.getD b))) 4)

/-- OR.LT_RC (45 R637). -/
def execOrLtRc (c a : Reg) (const9 : BitVec 9) (s : State) : Out :=
  .next (s.putD c (accumulate (s.getD c) (s.bit0 c || (decide (s.sD a < (sext9 const9).toInt)))) 4)

/-- OR.LT_RR (45 R637). -/
def execOrLtRr (c a b : Reg) (s : State) : Out :=
  .next (s.putD c (accumulate (s.getD c) (s.bit0 c || (decide (s.sD a < s.sD b)))) 4)

/-- OR.LT.U_RC (45 R638). -/
def execOrLtURc (c a : Reg) (const9 : BitVec 9) (s : State) : Out :=
  .next (s.putD c (accumulate (s.getD c) (s.bit0 c || (decide (s.uD a < ((zext9 const9).toNat : Int))))) 4)

/-- OR.LT.U_RR (45 R638). -/
def execOrLtURr (c a b : Reg) (s : State) : Out :=
  .next (s.putD c (accumulate (s.getD c) (s.bit0 c || (decide (s.uD a < s.uD b)))) 4)

/-- OR.GE_RC (45 R639). -/
def execOrGeRc (c a : Reg) (const9 : BitVec 9) (s : State) : Out :=
  .next (s.putD c (accumulate (s.getD c) (s.bit0 c || (decide (s.sD a ≥ (sext9 const9).toInt)))) 4)

/-- OR.GE_RR (45 R639). -/
def execOrGeRr (c a b : Reg) (s : State) : Out :=
  .next (s.putD c (accumulate (s.getD c) (s.bit0 c || (decide (s.sD a ≥ s.sD b)))) 4)

/-- OR.GE.U_RC (45 R640). -/
def execOrGeURc (c a : Reg) (const9 : BitVec 9) (s : State) : Out :=
  .next (s.putD c (accumulate (s.getD c) (s.bit0 c || (decide (s.uD a ≥ ((zext9 const9).toNat : Int))))) 4)

/-- OR.GE.U_RR (45 R640). -/
def execOrGeURr (c a b : Reg) (s : State) : Out :=
  .next (s.putD c (accumulate (s.getD c) (s.bit0 c || (decide (s.uD a ≥ s.uD b)))) 4)

/-- XOR.EQ_RC (45 R641). -/
def execXorEqRc (c a : Reg) (const9 : BitVec 9) (s : State) : Out :=
  .next (s.putD c (accumulate (s.getD c) (s.bit0 c != (s.getD a == sext9 const9))) 4)

/-- XOR.EQ_RR (45 R641). -/
def execXorEqRr (c a b : Reg) (s : State) : Out :=
  .next (s.putD c (accumulate (s.getD c) (s.bit0 c != (s.getD a == s.getD b))) 4)

/-- XOR.NE_RC (45 R642). -/
def execXorNeRc (c a : Reg) (const9 : BitVec 9) (s : State) : Out :=
  .next (s.putD c (accumulate (s.getD c) (s.bit0 c != (s.getD a != sext9 const9))) 4)

/-- XOR.NE_RR (45 R642). -/
def execXorNeRr (c a b : Reg) (s : State) : Out :=
  .next (s.putD c (accumulate (s.getD c) (s.bit0 c != (s.getD a != s.getD b))) 4)

/-- XOR.LT_RC (45 R643). -/
def execXorLtRc (c a : Reg) (const9 : BitVec 9) (s : State) : Out :=
  .next (s.putD c (accumulate (s.getD c) (s.bit0 c != (decide (s.sD a < (sext9 const9).toInt)))) 4)

/-- XOR.LT_RR (45 R643). -/
def execXorLtRr (c a b : Reg) (s : State) : Out :=
  .next (s.putD c (accumulate (s.getD c) (s.bit0 c != (decide (s.sD a < s.sD b)))) 4)

/-- XOR.LT.U_RC (45 R644). -/
def execXorLtURc (c a : Reg) (const9 : BitVec 9) (s : State) : Out :=
  .next (s.putD c (accumulate (s.getD c) (s.bit0 c != (decide (s.uD a < ((zext9 const9).toNat : Int))))) 4)

/-- XOR.LT.U_RR (45 R644). -/
def execXorLtURr (c a b : Reg) (s : State) : Out :=
  .next (s.putD c (accumulate (s.getD c) (s.bit0 c != (decide (s.uD a < s.uD b)))) 4)

/-- XOR.GE_RC (45 R645). -/
def execXorGeRc (c a : Reg) (const9 : BitVec 9) (s : State) : Out :=
  .next (s.putD c (accumulate (s.getD c) (s.bit0 c != (decide (s.sD a ≥ (sext9 const9).toInt)))) 4)

/-- XOR.GE_RR (45 R645). -/
def execXorGeRr (c a b : Reg) (s : State) : Out :=
  .next (s.putD c (accumulate (s.getD c) (s.bit0 c != (decide (s.sD a ≥ s.sD b)))) 4)

/-- XOR.GE.U_RC (45 R646). -/
def execXorGeURc (c a : Reg) (const9 : BitVec 9) (s : State) : Out :=
  .next (s.putD c (accumulate (s.getD c) (s.bit0 c != (decide (s.uD a ≥ ((zext9 const9).toNat : Int))))) 4)

/-- XOR.GE.U_RR (45 R646). -/
def execXorGeURr (c a b : Reg) (s : State) : Out :=
  .next (s.putD c (accumulate (s.getD c) (s.bit0 c != (decide (s.uD a ≥ s.uD b)))) 4)

/-- SH.EQ_RC (45 R648). -/
def execShEqRc (c a : Reg) (const9 : BitVec 9) (s : State) : Out :=
  .next (s.putD c (shiftIn (s.getD c) (s.getD a == sext9 const9)) 4)

/-- SH.EQ_RR (45 R648). -/
def execShEqRr (c a b : Reg) (s : State) : Out := .next (s.putD c (shiftIn (s.getD c) (s.getD a == s.getD b)) 4)

/-- SH.NE_RC (45 R649). -/
def execShNeRc (c a : Reg) (const9 : BitVec 9) (s : State) : Out :=
  .next (s.putD c (shiftIn (s.getD c) (s.getD a != sext9 const9)) 4)

/-- SH.NE_RR (45 R649). -/
def execShNeRr (c a b : Reg) (s : State) : Out := .next (s.putD c (shiftIn (s.getD c) (s.getD a != s.getD b)) 4)

/-- SH.LT_RC (45 R650). -/
def execShLtRc (c a : Reg) (const9 : BitVec 9) (s : State) : Out :=
  .next (s.putD c (shiftIn (s.getD c) (decide (s.sD a < (sext9 const9).toInt))) 4)

/-- SH.LT_RR (45 R650). -/
def execShLtRr (c a b : Reg) (s : State) : Out := .next (s.putD c (shiftIn (s.getD c) (decide (s.sD a < s.sD b))) 4)

/-- SH.LT.U_RC (45 R651). -/
def execShLtURc (c a : Reg) (const9 : BitVec 9) (s : State) : Out :=
  .next (s.putD c (shiftIn (s.getD c) (decide (s.uD a < ((zext9 const9).toNat : Int)))) 4)

/-- SH.LT.U_RR (45 R651). -/
def execShLtURr (c a b : Reg) (s : State) : Out := .next (s.putD c (shiftIn (s.getD c) (decide (s.uD a < s.uD b))) 4)

/-- SH.GE_RC (45 R652). -/
def execShGeRc (c a : Reg) (const9 : BitVec 9) (s : State) : Out :=
  .next (s.putD c (shiftIn (s.getD c) (decide (s.sD a ≥ (sext9 const9).toInt))) 4)

/-- SH.GE_RR (45 R652). -/
def execShGeRr (c a b : Reg) (s : State) : Out := .next (s.putD c (shiftIn (s.getD c) (decide (s.sD a ≥ s.sD b))) 4)

/-- SH.GE.U_RC (45 R653). -/
def execShGeURc (c a : Reg) (const9 : BitVec 9) (s : State) : Out :=
  .next (s.putD c (shiftIn (s.getD c) (decide (s.uD a ≥ ((zext9 const9).toNat : Int)))) 4)

/-- SH.GE.U_RR (45 R653). -/
def execShGeURr (c a b : Reg) (s : State) : Out := .next (s.putD c (shiftIn (s.getD c) (decide (s.uD a ≥ s.uD b))) 4)

/-- EQ.B_RR (45 R655). -/
def execEqBRr (c a b : Reg) (s : State) : Out :=
  .next (s.putD c (mapBytes (fun x y => extBool 8 (x == y)) (s.getD a) (s.getD b)) 4)

/-- EQ.H_RR (45 R656). -/
def execEqHRr (c a b : Reg) (s : State) : Out :=
  .next (s.putD c (mapHalves (fun x y => extBool 16 (x == y)) (s.getD a) (s.getD b)) 4)

/-- EQ.W_RR (45 R657). -/
def execEqWRr (c a b : Reg) (s : State) : Out := .next (s.putD c (extBool 32 (s.getD a == s.getD b)) 4)

/-- EQANY.B_RC (45 R658). -/
def execEqanyBRc (c a : Reg) (const9 : BitVec 9) (s : State) : Out :=
  .next (s.putD c (boolWord (anyByteEqual (s.getD a) (sext9 const9))) 4)

/-- EQANY.B_RR (45 R658). -/
def execEqanyBRr (c a b : Reg) (s : State) : Out := .next (s.putD c (boolWord (anyByteEqual (s.getD a) (s.getD b))) 4)

/-- EQANY.H_RC (45 R659). -/
def execEqanyHRc (c a : Reg) (const9 : BitVec 9) (s : State) : Out :=
  .next (s.putD c (boolWord (anyHalfEqual (s.getD a) (sext9 const9))) 4)

/-- EQANY.H_RR (45 R659). -/
def execEqanyHRr (c a b : Reg) (s : State) : Out := .next (s.putD c (boolWord (anyHalfEqual (s.getD a) (s.getD b))) 4)

/-- LT.B_RR (45 R660). -/
def execLtBRr (c a b : Reg) (s : State) : Out :=
  .next (s.putD c (mapBytes (fun x y => extBool 8 (decide (sOf x < sOf y))) (s.getD a) (s.getD b)) 4)

/-- LT.BU_RR (45 R661). -/
def execLtBuRr (c a b : Reg) (s : State) : Out :=
  .next (s.putD c (mapBytes (fun x y => extBool 8 (decide (uOf x < uOf y))) (s.getD a) (s.getD b)) 4)

/-- LT.H_RR (45 R662). -/
def execLtHRr (c a b : Reg) (s : State) : Out :=
  .next (s.putD c (mapHalves (fun x y => extBool 16 (decide (sOf x < sOf y))) (s.getD a) (s.getD b)) 4)

/-- LT.HU_RR (45 R663). -/
def execLtHuRr (c a b : Reg) (s : State) : Out :=
  .next (s.putD c (mapHalves (fun x y => extBool 16 (decide (uOf x < uOf y))) (s.getD a) (s.getD b)) 4)

/-- LT.W_RR (45 R664). -/
def execLtWRr (c a b : Reg) (s : State) : Out := .next (s.putD c (extBool 32 (decide (s.sD a < s.sD b))) 4)

/-- LT.WU_RR (45 R665). -/
def execLtWuRr (c a b : Reg) (s : State) : Out := .next (s.putD c (extBool 32 (decide (s.uD a < s.uD b))) 4)

/-- AND.T_BIT (45 R668). -/
def execAndTBit (c a : Reg) (p1 : BitVec 5) (b : Reg) (p2 : BitVec 5) (s : State) : Out :=
  .next (s.putD c (boolWord (s.bitD a p1 && s.bitD b p2)) 4)

/-- ANDN.T_BIT (45 R669). -/
def execAndnTBit (c a : Reg) (p1 : BitVec 5) (b : Reg) (p2 : BitVec 5) (s : State) : Out :=
  .next (s.putD c (boolWord (s.bitD a p1 && !s.bitD b p2)) 4)

/-- NAND.T_BIT (45 R670). -/
def execNandTBit (c a : Reg) (p1 : BitVec 5) (b : Reg) (p2 : BitVec 5) (s : State) : Out :=
  .next (s.putD c (boolWord (!(s.bitD a p1 && s.bitD b p2))) 4)

/-- NOR.T_BIT (45 R671). -/
def execNorTBit (c a : Reg) (p1 : BitVec 5) (b : Reg) (p2 : BitVec 5) (s : State) : Out :=
  .next (s.putD c (boolWord (!(s.bitD a p1 || s.bitD b p2))) 4)

/-- OR.T_BIT (45 R672). -/
def execOrTBit (c a : Reg) (p1 : BitVec 5) (b : Reg) (p2 : BitVec 5) (s : State) : Out :=
  .next (s.putD c (boolWord (s.bitD a p1 || s.bitD b p2)) 4)

/-- ORN.T_BIT (45 R673). -/
def execOrnTBit (c a : Reg) (p1 : BitVec 5) (b : Reg) (p2 : BitVec 5) (s : State) : Out :=
  .next (s.putD c (boolWord (s.bitD a p1 || !s.bitD b p2)) 4)

/-- XNOR.T_BIT (45 R674). -/
def execXnorTBit (c a : Reg) (p1 : BitVec 5) (b : Reg) (p2 : BitVec 5) (s : State) : Out :=
  .next (s.putD c (boolWord (s.bitD a p1 == s.bitD b p2)) 4)

/-- XOR.T_BIT (45 R675). -/
def execXorTBit (c a : Reg) (p1 : BitVec 5) (b : Reg) (p2 : BitVec 5) (s : State) : Out :=
  .next (s.putD c (boolWord (s.bitD a p1 != s.bitD b p2)) 4)

/-- AND.AND.T_BIT (45 R677). -/
def execAndAndTBit (c a : Reg) (p1 : BitVec 5) (b : Reg) (p2 : BitVec 5) (s : State) : Out :=
  .next (s.putD c (accumulate (s.getD c) (s.bit0 c && (s.bitD a p1 && s.bitD b p2))) 4)

/-- AND.ANDN.T_BIT (45 R678). -/
def execAndAndnTBit (c a : Reg) (p1 : BitVec 5) (b : Reg) (p2 : BitVec 5) (s : State) : Out :=
  .next (s.putD c (accumulate (s.getD c) (s.bit0 c && (s.bitD a p1 && !s.bitD b p2))) 4)

/-- AND.NOR.T_BIT (45 R679). -/
def execAndNorTBit (c a : Reg) (p1 : BitVec 5) (b : Reg) (p2 : BitVec 5) (s : State) : Out :=
  .next (s.putD c (accumulate (s.getD c) (s.bit0 c && (!(s.bitD a p1 || s.bitD b p2)))) 4)

/-- AND.OR.T_BIT (45 R680). -/
def execAndOrTBit (c a : Reg) (p1 : BitVec 5) (b : Reg) (p2 : BitVec 5) (s : State) : Out :=
  .next (s.putD c (accumulate (s.getD c) (s.bit0 c && (s.bitD a p1 || s.bitD b p2))) 4)

/-- OR.AND.T_BIT (45 R681). -/
def execOrAndTBit (c a : Reg) (p1 : BitVec 5) (b : Reg) (p2 : BitVec 5) (s : State) : Out :=
  .next (s.putD c (accumulate (s.getD c) (s.bit0 c || (s.bitD a p1 && s.bitD b p2))) 4)

/-- OR.ANDN.T_BIT (45 R682). -/
def execOrAndnTBit (c a : Reg) (p1 : BitVec 5) (b : Reg) (p2 : BitVec 5) (s : State) : Out :=
  .next (s.putD c (accumulate (s.getD c) (s.bit0 c || (s.bitD a p1 && !s.bitD b p2))) 4)

/-- OR.NOR.T_BIT (45 R683). -/
def execOrNorTBit (c a : Reg) (p1 : BitVec 5) (b : Reg) (p2 : BitVec 5) (s : State) : Out :=
  .next (s.putD c (accumulate (s.getD c) (s.bit0 c || (!(s.bitD a p1 || s.bitD b p2)))) 4)

/-- OR.OR.T_BIT (45 R684). -/
def execOrOrTBit (c a : Reg) (p1 : BitVec 5) (b : Reg) (p2 : BitVec 5) (s : State) : Out :=
  .next (s.putD c (accumulate (s.getD c) (s.bit0 c || (s.bitD a p1 || s.bitD b p2))) 4)

/-- SH.AND.T_BIT (45 R686). -/
def execShAndTBit (c a : Reg) (p1 : BitVec 5) (b : Reg) (p2 : BitVec 5) (s : State) : Out :=
  .next (s.putD c (shiftIn (s.getD c) (s.bitD a p1 && s.bitD b p2)) 4)

/-- SH.ANDN.T_BIT (45 R687). -/
def execShAndnTBit (c a : Reg) (p1 : BitVec 5) (b : Reg) (p2 : BitVec 5) (s : State) : Out :=
  .next (s.putD c (shiftIn (s.getD c) (s.bitD a p1 && !s.bitD b p2)) 4)

/-- SH.NAND.T_BIT (45 R688). -/
def execShNandTBit (c a : Reg) (p1 : BitVec 5) (b : Reg) (p2 : BitVec 5) (s : State) : Out :=
  .next (s.putD c (shiftIn (s.getD c) (!(s.bitD a p1 && s.bitD b p2))) 4)

/-- SH.NOR.T_BIT (45 R689). -/
def execShNorTBit (c a : Reg) (p1 : BitVec 5) (b : Reg) (p2 : BitVec 5) (s : State) : Out :=
  .next (s.putD c (shiftIn (s.getD c) (!(s.bitD a p1 || s.bitD b p2))) 4)

/-- SH.OR.T_BIT (45 R690). -/
def execShOrTBit (c a : Reg) (p1 : BitVec 5) (b : Reg) (p2 : BitVec 5) (s : State) : Out :=
  .next (s.putD c (shiftIn (s.getD c) (s.bitD a p1 || s.bitD b p2)) 4)

/-- SH.ORN.T_BIT (45 R691). -/
def execShOrnTBit (c a : Reg) (p1 : BitVec 5) (b : Reg) (p2 : BitVec 5) (s : State) : Out :=
  .next (s.putD c (shiftIn (s.getD c) (s.bitD a p1 || !s.bitD b p2)) 4)

/-- SH.XNOR.T_BIT (45 R692). -/
def execShXnorTBit (c a : Reg) (p1 : BitVec 5) (b : Reg) (p2 : BitVec 5) (s : State) : Out :=
  .next (s.putD c (shiftIn (s.getD c) (s.bitD a p1 == s.bitD b p2)) 4)

/-- SH.XOR.T_BIT (45 R693). -/
def execShXorTBit (c a : Reg) (p1 : BitVec 5) (b : Reg) (p2 : BitVec 5) (s : State) : Out :=
  .next (s.putD c (shiftIn (s.getD c) (s.bitD a p1 != s.bitD b p2)) 4)

/-- INS.T_BIT (45 R694). -/
def execInsTBit (c a : Reg) (p1 : BitVec 5) (b : Reg) (p2 : BitVec 5) (s : State) : Out :=
  .next (s.putD c (setBit (s.getD a) p1.toNat (s.bitD b p2)) 4)

/-- INSN.T_BIT (45 R695). -/
def execInsnTBit (c a : Reg) (p1 : BitVec 5) (b : Reg) (p2 : BitVec 5) (s : State) : Out :=
  .next (s.putD c (setBit (s.getD a) p1.toNat (!s.bitD b p2)) 4)

end Sys2Proof.Machine
end

