-- ==== Sys2Proof/Machine/Dsp.lean ====
section
/-! DEFINITION. Machine/Dsp.lean: the meanings of the Q-format multiply and multiply-accumulate instructions (spec/43_dsp_arithmetic.md), one definition per form. -/

namespace Sys2Proof.Machine

open Sys2Proof

/-- `qmul(x, y, n)` for n = 0 or 1 (43 R500). -/
def qmul (x y : BitVec 16) (n : BitVec 2) : Int :=
  if n = 1 ∧ x = 0x8000 ∧ y = 0x8000 then 0x7FFFFFFF else x.toInt * y.toInt * 2 ^ n.toNat

/-- The product of the high halves (43 R501). -/
def State.qHi (s : State) (a b : Reg) (n : BitVec 2) : Int := qmul (hiHalf (s.getD a)) (hiHalf (s.getD b)) n

/-- The product of the low halves (43 R501). -/
def State.qLo (s : State) (a b : Reg) (n : BitVec 2) : Int := qmul (loHalf (s.getD a)) (loHalf (s.getD b)) n

/-- `s(hi(D[a])) * s(hi(D[b]))` (43 R512). -/
def State.pHi (s : State) (a b : Reg) : Int := (hiHalf (s.getD a)).toInt * (hiHalf (s.getD b)).toInt

/-- `s(lo(D[a])) * s(lo(D[b]))` (43 R517). -/
def State.pLo (s : State) (a b : Reg) : Int := (loHalf (s.getD a)).toInt * (loHalf (s.getD b)).toInt

/-- MUL.Q_RR (43 R504). -/
def execMulQRr (c a b : Reg) (n : BitVec 2) (s : State) : Out :=
  onQShift n (.next (s.putResult c (signedResult 32 (s.qHi a b n)) 4))

/-- MULR.Q_RR (43 R505). -/
def execMulrQRr (c a b : Reg) (n : BitVec 2) (s : State) : Out :=
  onQShift n (.next (s.putResult c (highResult (signedResult 32 (round16 (s.qHi a b n)))) 4))

/-- MUL.H_RR (43 R506). -/
def execMulHRr (c a b : Reg) (n : BitVec 2) (s : State) : Out :=
  onQShift n (onPairs s (Reg.isPair c)
    (s.putResultE c (packWordResults (signedResult 32 (s.qHi a b n)) (signedResult 32 (s.qLo a b n))) 4))

/-- MULR.H_RR (43 R507). -/
def execMulrHRr (c a b : Reg) (n : BitVec 2) (s : State) : Out :=
  onQShift n (.next (s.putResult c
    (packHighResults (signedResult 32 (round16 (s.qHi a b n))) (signedResult 32 (round16 (s.qLo a b n)))) 4))

/-- MADD.Q_RRR (43 R508). -/
def execMaddQRrr (c d a b : Reg) (n : BitVec 2) (s : State) : Out :=
  onQShift n (.next (s.putResult c (signedResult 32 (s.sD d + s.qHi a b n)) 4))

/-- MADDS.Q_RRR (43 R509). -/
def execMaddsQRrr (c d a b : Reg) (n : BitVec 2) (s : State) : Out :=
  onQShift n (.next (s.putResult c (signedSatResult 32 (s.sD d + s.qHi a b n)) 4))

/-- MADDR.Q_RRR (43 R510). -/
def execMaddrQRrr (c d a b : Reg) (n : BitVec 2) (s : State) : Out :=
  onQShift n (.next (s.putResult c (highResult (signedResult 32 (round16 (s.sD d + s.qHi a b n)))) 4))

/-- MADDRS.Q_RRR (43 R511). -/
def execMaddrsQRrr (c d a b : Reg) (n : BitVec 2) (s : State) : Out :=
  onQShift n (.next (s.putResult c (highResult (signedSatResult 32 (round16 (s.sD d + s.qHi a b n)))) 4))

/-- MADDM.Q_RRR (43 R512). -/
def execMaddmQRrr (c d a b : Reg) (s : State) : Out :=
  onPairs s (Reg.isPair c && Reg.isPair d) (s.putResultE c (signedResult 64 (s.sE d + (s.pHi a b) * 0x10000)) 4)

/-- MADD.H_RRR (43 R513). -/
def execMaddHRrr (c d a b : Reg) (n : BitVec 2) (s : State) : Out :=
  onQShift n (onPairs s (Reg.isPair c && Reg.isPair d)
    (s.putResultE c (packWordResults (signedResult 32 (s.sD (d + 1) + s.qHi a b n))
      (signedResult 32 (s.sD d + s.qLo a b n))) 4))

/-- MADDS.H_RRR (43 R514). -/
def execMaddsHRrr (c d a b : Reg) (n : BitVec 2) (s : State) : Out :=
  onQShift n (onPairs s (Reg.isPair c && Reg.isPair d)
    (s.putResultE c (packWordResults (signedSatResult 32 (s.sD (d + 1) + s.qHi a b n))
      (signedSatResult 32 (s.sD d + s.qLo a b n))) 4))

/-- MADDR.H_RRR (43 R515). -/
def execMaddrHRrr (c d a b : Reg) (n : BitVec 2) (s : State) : Out :=
  onQShift n (onPairs s (Reg.isPair d)
    (s.putResult c (packHighResults (signedResult 32 (round16 (s.sD (d + 1) + s.qHi a b n)))
      (signedResult 32 (round16 (s.sD d + s.qLo a b n)))) 4))

/-- MADDRS.H_RRR (43 R516). -/
def execMaddrsHRrr (c d a b : Reg) (n : BitVec 2) (s : State) : Out :=
  onQShift n (onPairs s (Reg.isPair d)
    (s.putResult c (packHighResults (signedSatResult 32 (round16 (s.sD (d + 1) + s.qHi a b n)))
      (signedSatResult 32 (round16 (s.sD d + s.qLo a b n)))) 4))

/-- MADDM.H_RRR (43 R517). -/
def execMaddmHRrr (c d a b : Reg) (s : State) : Out :=
  onPairs s (Reg.isPair c && Reg.isPair d)
    (s.putResultE c (signedResult 64 (s.sE d + (s.pHi a b + s.pLo a b) * 0x10000)) 4)

/-- MSUB.Q_RRR (43 R518). -/
def execMsubQRrr (c d a b : Reg) (n : BitVec 2) (s : State) : Out :=
  onQShift n (.next (s.putResult c (signedResult 32 (s.sD d - s.qHi a b n)) 4))

/-- MSUBS.Q_RRR (43 R519). -/
def execMsubsQRrr (c d a b : Reg) (n : BitVec 2) (s : State) : Out :=
  onQShift n (.next (s.putResult c (signedSatResult 32 (s.sD d - s.qHi a b n)) 4))

/-- MSUBR.Q_RRR (43 R520). -/
def execMsubrQRrr (c d a b : Reg) (n : BitVec 2) (s : State) : Out :=
  onQShift n (.next (s.putResult c (highResult (signedResult 32 (round16 (s.sD d - s.qHi a b n)))) 4))

/-- MSUBRS.Q_RRR (43 R521). -/
def execMsubrsQRrr (c d a b : Reg) (n : BitVec 2) (s : State) : Out :=
  onQShift n (.next (s.putResult c (highResult (signedSatResult 32 (round16 (s.sD d - s.qHi a b n)))) 4))

/-- MSUBM.Q_RRR (43 R522). -/
def execMsubmQRrr (c d a b : Reg) (s : State) : Out :=
  onPairs s (Reg.isPair c && Reg.isPair d) (s.putResultE c (signedResult 64 (s.sE d - (s.pHi a b) * 0x10000)) 4)

/-- MSUB.H_RRR (43 R523). -/
def execMsubHRrr (c d a b : Reg) (n : BitVec 2) (s : State) : Out :=
  onQShift n (onPairs s (Reg.isPair c && Reg.isPair d)
    (s.putResultE c (packWordResults (signedResult 32 (s.sD (d + 1) - s.qHi a b n))
      (signedResult 32 (s.sD d - s.qLo a b n))) 4))

/-- MSUBS.H_RRR (43 R524). -/
def execMsubsHRrr (c d a b : Reg) (n : BitVec 2) (s : State) : Out :=
  onQShift n (onPairs s (Reg.isPair c && Reg.isPair d)
    (s.putResultE c (packWordResults (signedSatResult 32 (s.sD (d + 1) - s.qHi a b n))
      (signedSatResult 32 (s.sD d - s.qLo a b n))) 4))

/-- MSUBR.H_RRR (43 R525). -/
def execMsubrHRrr (c d a b : Reg) (n : BitVec 2) (s : State) : Out :=
  onQShift n (onPairs s (Reg.isPair d)
    (s.putResult c (packHighResults (signedResult 32 (round16 (s.sD (d + 1) - s.qHi a b n)))
      (signedResult 32 (round16 (s.sD d - s.qLo a b n)))) 4))

/-- MSUBRS.H_RRR (43 R526). -/
def execMsubrsHRrr (c d a b : Reg) (n : BitVec 2) (s : State) : Out :=
  onQShift n (onPairs s (Reg.isPair d)
    (s.putResult c (packHighResults (signedSatResult 32 (round16 (s.sD (d + 1) - s.qHi a b n)))
      (signedSatResult 32 (round16 (s.sD d - s.qLo a b n)))) 4))

/-- MSUBM.H_RRR (43 R527). -/
def execMsubmHRrr (c d a b : Reg) (s : State) : Out :=
  onPairs s (Reg.isPair c && Reg.isPair d)
    (s.putResultE c (signedResult 64 (s.sE d - (s.pHi a b + s.pLo a b) * 0x10000)) 4)

end Sys2Proof.Machine
end

