-- ==== Sys2Proof/Machine/LoadStore.lean ====
section
/-! DEFINITION. Machine/LoadStore.lean: the meanings of the loads, stores, read-modify-write and LEA (spec/48_load_store.md), one definition per form. -/

namespace Sys2Proof.Machine

open Sys2Proof

/-- The low byte of a value loaded, sign-extended (20 R142). -/
def loadedB (v : Nat) : Word := (BitVec.ofNat 8 v).signExtend 32
/-- The low byte, zero-extended. -/
def loadedBu (v : Nat) : Word := (BitVec.ofNat 8 v).setWidth 32
/-- The low halfword, sign-extended. -/
def loadedH (v : Nat) : Word := (BitVec.ofNat 16 v).signExtend 32
/-- The low halfword, zero-extended. -/
def loadedHu (v : Nat) : Word := (BitVec.ofNat 16 v).setWidth 32
/-- The low halfword in bits 31:16, zeros below. -/
def loadedQ (v : Nat) : Word := BitVec.ofNat 16 v ++ (0 : BitVec 16)

/-- The word LDMST writes: the bits of the mask from the value, the others from memory (48 R822). -/
def maskedWord (t value mask : Word) : Word := (t &&& ~~~mask) ||| (value &&& mask)

/-- The byte ST.T writes: bit `pos` replaced by `b` (48 R821). -/
def bitStored (t : Nat) (pos : BitVec 3) (b : BitVec 1) : Nat :=
  (setBit (BitVec.ofNat 32 t) pos.toNat (b == 1)).toNat

/-- LD.A_ABS (48 R805). -/
def execLdAAbs (a : Reg) (off18 : BitVec 18) (s : State) : Out :=
  loadOp s (.abs off18) true (s.mayWriteA a) s.cfg.align.ldA 4 4 (fun u v => u.setA a (BitVec.ofNat 32 v))

/-- LD.A_BO_SHORT (48 R805). -/
def execLdABoShort (a b : Reg) (off10 : BitVec 10) (s : State) : Out :=
  loadOp s (.base b (sext10 off10)) true (s.mayWriteA a) s.cfg.align.ldA 4 4 (fun u v => u.setA a (BitVec.ofNat 32 v))

/-- LD.A_BO_PREINC (48 R805). -/
def execLdABoPreinc (a b : Reg) (off10 : BitVec 10) (s : State) : Out :=
  loadOp s (.preInc b (sext10 off10)) true (s.mayWriteA a) s.cfg.align.ldA 4 4 (fun u v => u.setA a (BitVec.ofNat 32 v))

/-- LD.A_BO_POSTINC (48 R805). -/
def execLdABoPostinc (a b : Reg) (off10 : BitVec 10) (s : State) : Out :=
  loadOp s (.postInc b (sext10 off10)) true (s.mayWriteA a) s.cfg.align.ldA 4 4
    (fun u v => u.setA a (BitVec.ofNat 32 v))

/-- LD.A_BO_CIRC (48 R805). -/
def execLdABoCirc (a b : Reg) (off10 : BitVec 10) (s : State) : Out :=
  loadOp s (.circ b off10) true (s.mayWriteA a) s.cfg.align.ldA 4 4 (fun u v => u.setA a (BitVec.ofNat 32 v))

/-- LD.A_BO_BREV (48 R805). -/
def execLdABoBrev (a b : Reg) (s : State) : Out :=
  loadOp s (.brev b) true (s.mayWriteA a) s.cfg.align.ldA 4 4 (fun u v => u.setA a (BitVec.ofNat 32 v))

/-- LD.A_BOL (48 R805). -/
def execLdABol (a b : Reg) (off16 : BitVec 16) (s : State) : Out :=
  loadOp s (.base b (sext16 off16)) true (s.mayWriteA a) s.cfg.align.ldA 4 4 (fun u v => u.setA a (BitVec.ofNat 32 v))

/-- LD.B_ABS (48 R806). -/
def execLdBAbs (a : Reg) (off18 : BitVec 18) (s : State) : Out :=
  loadOp s (.abs off18) true true s.cfg.align.ldB 1 4 (fun u v => u.setD a (loadedB v))

/-- LD.B_BO_SHORT (48 R806). -/
def execLdBBoShort (a b : Reg) (off10 : BitVec 10) (s : State) : Out :=
  loadOp s (.base b (sext10 off10)) true true s.cfg.align.ldB 1 4 (fun u v => u.setD a (loadedB v))

/-- LD.B_BO_PREINC (48 R806). -/
def execLdBBoPreinc (a b : Reg) (off10 : BitVec 10) (s : State) : Out :=
  loadOp s (.preInc b (sext10 off10)) true true s.cfg.align.ldB 1 4 (fun u v => u.setD a (loadedB v))

/-- LD.B_BO_POSTINC (48 R806). -/
def execLdBBoPostinc (a b : Reg) (off10 : BitVec 10) (s : State) : Out :=
  loadOp s (.postInc b (sext10 off10)) true true s.cfg.align.ldB 1 4 (fun u v => u.setD a (loadedB v))

/-- LD.B_BO_CIRC (48 R806). -/
def execLdBBoCirc (a b : Reg) (off10 : BitVec 10) (s : State) : Out :=
  loadOp s (.circ b off10) true true s.cfg.align.ldB 1 4 (fun u v => u.setD a (loadedB v))

/-- LD.B_BO_BREV (48 R806). -/
def execLdBBoBrev (a b : Reg) (s : State) : Out :=
  loadOp s (.brev b) true true s.cfg.align.ldB 1 4 (fun u v => u.setD a (loadedB v))

/-- LD.BU_ABS (48 R807). -/
def execLdBuAbs (a : Reg) (off18 : BitVec 18) (s : State) : Out :=
  loadOp s (.abs off18) true true s.cfg.align.ldBu 1 4 (fun u v => u.setD a (loadedBu v))

/-- LD.BU_BO_SHORT (48 R807). -/
def execLdBuBoShort (a b : Reg) (off10 : BitVec 10) (s : State) : Out :=
  loadOp s (.base b (sext10 off10)) true true s.cfg.align.ldBu 1 4 (fun u v => u.setD a (loadedBu v))

/-- LD.BU_BO_PREINC (48 R807). -/
def execLdBuBoPreinc (a b : Reg) (off10 : BitVec 10) (s : State) : Out :=
  loadOp s (.preInc b (sext10 off10)) true true s.cfg.align.ldBu 1 4 (fun u v => u.setD a (loadedBu v))

/-- LD.BU_BO_POSTINC (48 R807). -/
def execLdBuBoPostinc (a b : Reg) (off10 : BitVec 10) (s : State) : Out :=
  loadOp s (.postInc b (sext10 off10)) true true s.cfg.align.ldBu 1 4 (fun u v => u.setD a (loadedBu v))

/-- LD.BU_BO_CIRC (48 R807). -/
def execLdBuBoCirc (a b : Reg) (off10 : BitVec 10) (s : State) : Out :=
  loadOp s (.circ b off10) true true s.cfg.align.ldBu 1 4 (fun u v => u.setD a (loadedBu v))

/-- LD.BU_BO_BREV (48 R807). -/
def execLdBuBoBrev (a b : Reg) (s : State) : Out :=
  loadOp s (.brev b) true true s.cfg.align.ldBu 1 4 (fun u v => u.setD a (loadedBu v))

/-- LD.D_ABS (48 R808). -/
def execLdDAbs (a : Reg) (off18 : BitVec 18) (s : State) : Out :=
  loadOp s (.abs off18) (Reg.isPair a) true s.cfg.align.ldD 8 4 (fun u v => u.setE a (BitVec.ofNat 64 v))

/-- LD.D_BO_SHORT (48 R808). -/
def execLdDBoShort (a b : Reg) (off10 : BitVec 10) (s : State) : Out :=
  loadOp s (.base b (sext10 off10)) (Reg.isPair a) true s.cfg.align.ldD 8 4 (fun u v => u.setE a (BitVec.ofNat 64 v))

/-- LD.D_BO_PREINC (48 R808). -/
def execLdDBoPreinc (a b : Reg) (off10 : BitVec 10) (s : State) : Out :=
  loadOp s (.preInc b (sext10 off10)) (Reg.isPair a) true s.cfg.align.ldD 8 4 (fun u v => u.setE a (BitVec.ofNat 64 v))

/-- LD.D_BO_POSTINC (48 R808). -/
def execLdDBoPostinc (a b : Reg) (off10 : BitVec 10) (s : State) : Out :=
  loadOp s (.postInc b (sext10 off10)) (Reg.isPair a) true s.cfg.align.ldD 8 4 (fun u v => u.setE a (BitVec.ofNat 64 v))

/-- LD.D_BO_CIRC (48 R808). -/
def execLdDBoCirc (a b : Reg) (off10 : BitVec 10) (s : State) : Out :=
  loadOp s (.circ b off10) (Reg.isPair a) true s.cfg.align.ldD 8 4 (fun u v => u.setE a (BitVec.ofNat 64 v))

/-- LD.D_BO_BREV (48 R808). -/
def execLdDBoBrev (a b : Reg) (s : State) : Out :=
  loadOp s (.brev b) (Reg.isPair a) true s.cfg.align.ldD 8 4 (fun u v => u.setE a (BitVec.ofNat 64 v))

/-- LD.DA_ABS (48 R809). -/
def execLdDaAbs (a : Reg) (off18 : BitVec 18) (s : State) : Out :=
  loadOp s (.abs off18) (Reg.isPair a) (s.mayWriteA a && s.mayWriteA (a + 1)) s.cfg.align.ldDa 8 4
    (fun u v => u.setAPair a (BitVec.ofNat 64 v))

/-- LD.DA_BO_SHORT (48 R809). -/
def execLdDaBoShort (a b : Reg) (off10 : BitVec 10) (s : State) : Out :=
  loadOp s (.base b (sext10 off10)) (Reg.isPair a) (s.mayWriteA a && s.mayWriteA (a + 1)) s.cfg.align.ldDa 8 4
    (fun u v => u.setAPair a (BitVec.ofNat 64 v))

/-- LD.DA_BO_PREINC (48 R809). -/
def execLdDaBoPreinc (a b : Reg) (off10 : BitVec 10) (s : State) : Out :=
  loadOp s (.preInc b (sext10 off10)) (Reg.isPair a) (s.mayWriteA a && s.mayWriteA (a + 1)) s.cfg.align.ldDa 8 4
    (fun u v => u.setAPair a (BitVec.ofNat 64 v))

/-- LD.DA_BO_POSTINC (48 R809). -/
def execLdDaBoPostinc (a b : Reg) (off10 : BitVec 10) (s : State) : Out :=
  loadOp s (.postInc b (sext10 off10)) (Reg.isPair a) (s.mayWriteA a && s.mayWriteA (a + 1)) s.cfg.align.ldDa 8 4
    (fun u v => u.setAPair a (BitVec.ofNat 64 v))

/-- LD.DA_BO_CIRC (48 R809). -/
def execLdDaBoCirc (a b : Reg) (off10 : BitVec 10) (s : State) : Out :=
  loadOp s (.circ b off10) (Reg.isPair a) (s.mayWriteA a && s.mayWriteA (a + 1)) s.cfg.align.ldDa 8 4
    (fun u v => u.setAPair a (BitVec.ofNat 64 v))

/-- LD.DA_BO_BREV (48 R809). -/
def execLdDaBoBrev (a b : Reg) (s : State) : Out :=
  loadOp s (.brev b) (Reg.isPair a) (s.mayWriteA a && s.mayWriteA (a + 1)) s.cfg.align.ldDa 8 4
    (fun u v => u.setAPair a (BitVec.ofNat 64 v))

/-- LD.H_ABS (48 R810). -/
def execLdHAbs (a : Reg) (off18 : BitVec 18) (s : State) : Out :=
  loadOp s (.abs off18) true true s.cfg.align.ldH 2 4 (fun u v => u.setD a (loadedH v))

/-- LD.H_BO_SHORT (48 R810). -/
def execLdHBoShort (a b : Reg) (off10 : BitVec 10) (s : State) : Out :=
  loadOp s (.base b (sext10 off10)) true true s.cfg.align.ldH 2 4 (fun u v => u.setD a (loadedH v))

/-- LD.H_BO_PREINC (48 R810). -/
def execLdHBoPreinc (a b : Reg) (off10 : BitVec 10) (s : State) : Out :=
  loadOp s (.preInc b (sext10 off10)) true true s.cfg.align.ldH 2 4 (fun u v => u.setD a (loadedH v))

/-- LD.H_BO_POSTINC (48 R810). -/
def execLdHBoPostinc (a b : Reg) (off10 : BitVec 10) (s : State) : Out :=
  loadOp s (.postInc b (sext10 off10)) true true s.cfg.align.ldH 2 4 (fun u v => u.setD a (loadedH v))

/-- LD.H_BO_CIRC (48 R810). -/
def execLdHBoCirc (a b : Reg) (off10 : BitVec 10) (s : State) : Out :=
  loadOp s (.circ b off10) true true s.cfg.align.ldH 2 4 (fun u v => u.setD a (loadedH v))

/-- LD.H_BO_BREV (48 R810). -/
def execLdHBoBrev (a b : Reg) (s : State) : Out :=
  loadOp s (.brev b) true true s.cfg.align.ldH 2 4 (fun u v => u.setD a (loadedH v))

/-- LD.HU_ABS (48 R811). -/
def execLdHuAbs (a : Reg) (off18 : BitVec 18) (s : State) : Out :=
  loadOp s (.abs off18) true true s.cfg.align.ldHu 2 4 (fun u v => u.setD a (loadedHu v))

/-- LD.HU_BO_SHORT (48 R811). -/
def execLdHuBoShort (a b : Reg) (off10 : BitVec 10) (s : State) : Out :=
  loadOp s (.base b (sext10 off10)) true true s.cfg.align.ldHu 2 4 (fun u v => u.setD a (loadedHu v))

/-- LD.HU_BO_PREINC (48 R811). -/
def execLdHuBoPreinc (a b : Reg) (off10 : BitVec 10) (s : State) : Out :=
  loadOp s (.preInc b (sext10 off10)) true true s.cfg.align.ldHu 2 4 (fun u v => u.setD a (loadedHu v))

/-- LD.HU_BO_POSTINC (48 R811). -/
def execLdHuBoPostinc (a b : Reg) (off10 : BitVec 10) (s : State) : Out :=
  loadOp s (.postInc b (sext10 off10)) true true s.cfg.align.ldHu 2 4 (fun u v => u.setD a (loadedHu v))

/-- LD.HU_BO_CIRC (48 R811). -/
def execLdHuBoCirc (a b : Reg) (off10 : BitVec 10) (s : State) : Out :=
  loadOp s (.circ b off10) true true s.cfg.align.ldHu 2 4 (fun u v => u.setD a (loadedHu v))

/-- LD.HU_BO_BREV (48 R811). -/
def execLdHuBoBrev (a b : Reg) (s : State) : Out :=
  loadOp s (.brev b) true true s.cfg.align.ldHu 2 4 (fun u v => u.setD a (loadedHu v))

/-- LD.Q_ABS (48 R812). -/
def execLdQAbs (a : Reg) (off18 : BitVec 18) (s : State) : Out :=
  loadOp s (.abs off18) true true s.cfg.align.ldQ 2 4 (fun u v => u.setD a (loadedQ v))

/-- LD.Q_BO_SHORT (48 R812). -/
def execLdQBoShort (a b : Reg) (off10 : BitVec 10) (s : State) : Out :=
  loadOp s (.base b (sext10 off10)) true true s.cfg.align.ldQ 2 4 (fun u v => u.setD a (loadedQ v))

/-- LD.Q_BO_PREINC (48 R812). -/
def execLdQBoPreinc (a b : Reg) (off10 : BitVec 10) (s : State) : Out :=
  loadOp s (.preInc b (sext10 off10)) true true s.cfg.align.ldQ 2 4 (fun u v => u.setD a (loadedQ v))

/-- LD.Q_BO_POSTINC (48 R812). -/
def execLdQBoPostinc (a b : Reg) (off10 : BitVec 10) (s : State) : Out :=
  loadOp s (.postInc b (sext10 off10)) true true s.cfg.align.ldQ 2 4 (fun u v => u.setD a (loadedQ v))

/-- LD.Q_BO_CIRC (48 R812). -/
def execLdQBoCirc (a b : Reg) (off10 : BitVec 10) (s : State) : Out :=
  loadOp s (.circ b off10) true true s.cfg.align.ldQ 2 4 (fun u v => u.setD a (loadedQ v))

/-- LD.Q_BO_BREV (48 R812). -/
def execLdQBoBrev (a b : Reg) (s : State) : Out :=
  loadOp s (.brev b) true true s.cfg.align.ldQ 2 4 (fun u v => u.setD a (loadedQ v))

/-- LD.W_ABS (48 R813). -/
def execLdWAbs (a : Reg) (off18 : BitVec 18) (s : State) : Out :=
  loadOp s (.abs off18) true true s.cfg.align.ldW 4 4 (fun u v => u.setD a (BitVec.ofNat 32 v))

/-- LD.W_BO_SHORT (48 R813). -/
def execLdWBoShort (a b : Reg) (off10 : BitVec 10) (s : State) : Out :=
  loadOp s (.base b (sext10 off10)) true true s.cfg.align.ldW 4 4 (fun u v => u.setD a (BitVec.ofNat 32 v))

/-- LD.W_BO_PREINC (48 R813). -/
def execLdWBoPreinc (a b : Reg) (off10 : BitVec 10) (s : State) : Out :=
  loadOp s (.preInc b (sext10 off10)) true true s.cfg.align.ldW 4 4 (fun u v => u.setD a (BitVec.ofNat 32 v))

/-- LD.W_BO_POSTINC (48 R813). -/
def execLdWBoPostinc (a b : Reg) (off10 : BitVec 10) (s : State) : Out :=
  loadOp s (.postInc b (sext10 off10)) true true s.cfg.align.ldW 4 4 (fun u v => u.setD a (BitVec.ofNat 32 v))

/-- LD.W_BO_CIRC (48 R813). -/
def execLdWBoCirc (a b : Reg) (off10 : BitVec 10) (s : State) : Out :=
  loadOp s (.circ b off10) true true s.cfg.align.ldW 4 4 (fun u v => u.setD a (BitVec.ofNat 32 v))

/-- LD.W_BO_BREV (48 R813). -/
def execLdWBoBrev (a b : Reg) (s : State) : Out :=
  loadOp s (.brev b) true true s.cfg.align.ldW 4 4 (fun u v => u.setD a (BitVec.ofNat 32 v))

/-- LD.W_BOL (48 R813). -/
def execLdWBol (a b : Reg) (off16 : BitVec 16) (s : State) : Out :=
  loadOp s (.base b (sext16 off16)) true true s.cfg.align.ldW 4 4 (fun u v => u.setD a (BitVec.ofNat 32 v))

/-- ST.A_ABS (48 R814). -/
def execStAAbs (a : Reg) (off18 : BitVec 18) (s : State) : Out :=
  storeOp s (.abs off18) true s.cfg.align.stA 4 4 ((s.getA a).toNat)

/-- ST.A_BO_SHORT (48 R814). -/
def execStABoShort (a b : Reg) (off10 : BitVec 10) (s : State) : Out :=
  storeOp s (.base b (sext10 off10)) true s.cfg.align.stA 4 4 ((s.getA a).toNat)

/-- ST.A_BO_PREINC (48 R814). -/
def execStABoPreinc (a b : Reg) (off10 : BitVec 10) (s : State) : Out :=
  storeOp s (.preInc b (sext10 off10)) true s.cfg.align.stA 4 4 ((s.getA a).toNat)

/-- ST.A_BO_POSTINC (48 R814). -/
def execStABoPostinc (a b : Reg) (off10 : BitVec 10) (s : State) : Out :=
  storeOp s (.postInc b (sext10 off10)) true s.cfg.align.stA 4 4 ((s.getA a).toNat)

/-- ST.A_BO_CIRC (48 R814). -/
def execStABoCirc (a b : Reg) (off10 : BitVec 10) (s : State) : Out :=
  storeOp s (.circ b off10) true s.cfg.align.stA 4 4 ((s.getA a).toNat)

/-- ST.A_BO_BREV (48 R814). -/
def execStABoBrev (a b : Reg) (s : State) : Out := storeOp s (.brev b) true s.cfg.align.stA 4 4 ((s.getA a).toNat)

/-- ST.B_ABS (48 R815). -/
def execStBAbs (a : Reg) (off18 : BitVec 18) (s : State) : Out :=
  storeOp s (.abs off18) true s.cfg.align.stB 1 4 ((s.getD a).toNat)

/-- ST.B_BO_SHORT (48 R815). -/
def execStBBoShort (a b : Reg) (off10 : BitVec 10) (s : State) : Out :=
  storeOp s (.base b (sext10 off10)) true s.cfg.align.stB 1 4 ((s.getD a).toNat)

/-- ST.B_BO_PREINC (48 R815). -/
def execStBBoPreinc (a b : Reg) (off10 : BitVec 10) (s : State) : Out :=
  storeOp s (.preInc b (sext10 off10)) true s.cfg.align.stB 1 4 ((s.getD a).toNat)

/-- ST.B_BO_POSTINC (48 R815). -/
def execStBBoPostinc (a b : Reg) (off10 : BitVec 10) (s : State) : Out :=
  storeOp s (.postInc b (sext10 off10)) true s.cfg.align.stB 1 4 ((s.getD a).toNat)

/-- ST.B_BO_CIRC (48 R815). -/
def execStBBoCirc (a b : Reg) (off10 : BitVec 10) (s : State) : Out :=
  storeOp s (.circ b off10) true s.cfg.align.stB 1 4 ((s.getD a).toNat)

/-- ST.B_BO_BREV (48 R815). -/
def execStBBoBrev (a b : Reg) (s : State) : Out := storeOp s (.brev b) true s.cfg.align.stB 1 4 ((s.getD a).toNat)

/-- ST.D_ABS (48 R816). -/
def execStDAbs (a : Reg) (off18 : BitVec 18) (s : State) : Out :=
  storeOp s (.abs off18) (Reg.isPair a) s.cfg.align.stD 8 4 ((s.getE a).toNat)

/-- ST.D_BO_SHORT (48 R816). -/
def execStDBoShort (a b : Reg) (off10 : BitVec 10) (s : State) : Out :=
  storeOp s (.base b (sext10 off10)) (Reg.isPair a) s.cfg.align.stD 8 4 ((s.getE a).toNat)

/-- ST.D_BO_PREINC (48 R816). -/
def execStDBoPreinc (a b : Reg) (off10 : BitVec 10) (s : State) : Out :=
  storeOp s (.preInc b (sext10 off10)) (Reg.isPair a) s.cfg.align.stD 8 4 ((s.getE a).toNat)

/-- ST.D_BO_POSTINC (48 R816). -/
def execStDBoPostinc (a b : Reg) (off10 : BitVec 10) (s : State) : Out :=
  storeOp s (.postInc b (sext10 off10)) (Reg.isPair a) s.cfg.align.stD 8 4 ((s.getE a).toNat)

/-- ST.D_BO_CIRC (48 R816). -/
def execStDBoCirc (a b : Reg) (off10 : BitVec 10) (s : State) : Out :=
  storeOp s (.circ b off10) (Reg.isPair a) s.cfg.align.stD 8 4 ((s.getE a).toNat)

/-- ST.D_BO_BREV (48 R816). -/
def execStDBoBrev (a b : Reg) (s : State) : Out :=
  storeOp s (.brev b) (Reg.isPair a) s.cfg.align.stD 8 4 ((s.getE a).toNat)

/-- ST.DA_ABS (48 R817). -/
def execStDaAbs (a : Reg) (off18 : BitVec 18) (s : State) : Out :=
  storeOp s (.abs off18) (Reg.isPair a) s.cfg.align.stDa 8 4 ((s.getA (a + 1) ++ s.getA a).toNat)

/-- ST.DA_BO_SHORT (48 R817). -/
def execStDaBoShort (a b : Reg) (off10 : BitVec 10) (s : State) : Out :=
  storeOp s (.base b (sext10 off10)) (Reg.isPair a) s.cfg.align.stDa 8 4 ((s.getA (a + 1) ++ s.getA a).toNat)

/-- ST.DA_BO_PREINC (48 R817). -/
def execStDaBoPreinc (a b : Reg) (off10 : BitVec 10) (s : State) : Out :=
  storeOp s (.preInc b (sext10 off10)) (Reg.isPair a) s.cfg.align.stDa 8 4 ((s.getA (a + 1) ++ s.getA a).toNat)

/-- ST.DA_BO_POSTINC (48 R817). -/
def execStDaBoPostinc (a b : Reg) (off10 : BitVec 10) (s : State) : Out :=
  storeOp s (.postInc b (sext10 off10)) (Reg.isPair a) s.cfg.align.stDa 8 4 ((s.getA (a + 1) ++ s.getA a).toNat)

/-- ST.DA_BO_CIRC (48 R817). -/
def execStDaBoCirc (a b : Reg) (off10 : BitVec 10) (s : State) : Out :=
  storeOp s (.circ b off10) (Reg.isPair a) s.cfg.align.stDa 8 4 ((s.getA (a + 1) ++ s.getA a).toNat)

/-- ST.DA_BO_BREV (48 R817). -/
def execStDaBoBrev (a b : Reg) (s : State) : Out :=
  storeOp s (.brev b) (Reg.isPair a) s.cfg.align.stDa 8 4 ((s.getA (a + 1) ++ s.getA a).toNat)

/-- ST.H_ABS (48 R818). -/
def execStHAbs (a : Reg) (off18 : BitVec 18) (s : State) : Out :=
  storeOp s (.abs off18) true s.cfg.align.stH 2 4 ((s.getD a).toNat)

/-- ST.H_BO_SHORT (48 R818). -/
def execStHBoShort (a b : Reg) (off10 : BitVec 10) (s : State) : Out :=
  storeOp s (.base b (sext10 off10)) true s.cfg.align.stH 2 4 ((s.getD a).toNat)

/-- ST.H_BO_PREINC (48 R818). -/
def execStHBoPreinc (a b : Reg) (off10 : BitVec 10) (s : State) : Out :=
  storeOp s (.preInc b (sext10 off10)) true s.cfg.align.stH 2 4 ((s.getD a).toNat)

/-- ST.H_BO_POSTINC (48 R818). -/
def execStHBoPostinc (a b : Reg) (off10 : BitVec 10) (s : State) : Out :=
  storeOp s (.postInc b (sext10 off10)) true s.cfg.align.stH 2 4 ((s.getD a).toNat)

/-- ST.H_BO_CIRC (48 R818). -/
def execStHBoCirc (a b : Reg) (off10 : BitVec 10) (s : State) : Out :=
  storeOp s (.circ b off10) true s.cfg.align.stH 2 4 ((s.getD a).toNat)

/-- ST.H_BO_BREV (48 R818). -/
def execStHBoBrev (a b : Reg) (s : State) : Out := storeOp s (.brev b) true s.cfg.align.stH 2 4 ((s.getD a).toNat)

/-- ST.Q_ABS (48 R819). -/
def execStQAbs (a : Reg) (off18 : BitVec 18) (s : State) : Out :=
  storeOp s (.abs off18) true s.cfg.align.stQ 2 4 ((hiHalf (s.getD a)).toNat)

/-- ST.Q_BO_SHORT (48 R819). -/
def execStQBoShort (a b : Reg) (off10 : BitVec 10) (s : State) : Out :=
  storeOp s (.base b (sext10 off10)) true s.cfg.align.stQ 2 4 ((hiHalf (s.getD a)).toNat)

/-- ST.Q_BO_PREINC (48 R819). -/
def execStQBoPreinc (a b : Reg) (off10 : BitVec 10) (s : State) : Out :=
  storeOp s (.preInc b (sext10 off10)) true s.cfg.align.stQ 2 4 ((hiHalf (s.getD a)).toNat)

/-- ST.Q_BO_POSTINC (48 R819). -/
def execStQBoPostinc (a b : Reg) (off10 : BitVec 10) (s : State) : Out :=
  storeOp s (.postInc b (sext10 off10)) true s.cfg.align.stQ 2 4 ((hiHalf (s.getD a)).toNat)

/-- ST.Q_BO_CIRC (48 R819). -/
def execStQBoCirc (a b : Reg) (off10 : BitVec 10) (s : State) : Out :=
  storeOp s (.circ b off10) true s.cfg.align.stQ 2 4 ((hiHalf (s.getD a)).toNat)

/-- ST.Q_BO_BREV (48 R819). -/
def execStQBoBrev (a b : Reg) (s : State) : Out :=
  storeOp s (.brev b) true s.cfg.align.stQ 2 4 ((hiHalf (s.getD a)).toNat)

/-- ST.W_ABS (48 R820). -/
def execStWAbs (a : Reg) (off18 : BitVec 18) (s : State) : Out :=
  storeOp s (.abs off18) true s.cfg.align.stW 4 4 ((s.getD a).toNat)

/-- ST.W_BO_SHORT (48 R820). -/
def execStWBoShort (a b : Reg) (off10 : BitVec 10) (s : State) : Out :=
  storeOp s (.base b (sext10 off10)) true s.cfg.align.stW 4 4 ((s.getD a).toNat)

/-- ST.W_BO_PREINC (48 R820). -/
def execStWBoPreinc (a b : Reg) (off10 : BitVec 10) (s : State) : Out :=
  storeOp s (.preInc b (sext10 off10)) true s.cfg.align.stW 4 4 ((s.getD a).toNat)

/-- ST.W_BO_POSTINC (48 R820). -/
def execStWBoPostinc (a b : Reg) (off10 : BitVec 10) (s : State) : Out :=
  storeOp s (.postInc b (sext10 off10)) true s.cfg.align.stW 4 4 ((s.getD a).toNat)

/-- ST.W_BO_CIRC (48 R820). -/
def execStWBoCirc (a b : Reg) (off10 : BitVec 10) (s : State) : Out :=
  storeOp s (.circ b off10) true s.cfg.align.stW 4 4 ((s.getD a).toNat)

/-- ST.W_BO_BREV (48 R820). -/
def execStWBoBrev (a b : Reg) (s : State) : Out := storeOp s (.brev b) true s.cfg.align.stW 4 4 ((s.getD a).toNat)

/-- ST.W_BOL (48 R820). -/
def execStWBol (a b : Reg) (off16 : BitVec 16) (s : State) : Out :=
  storeOp s (.base b (sext16 off16)) true s.cfg.align.stW 4 4 ((s.getD a).toNat)

/-- ST.T_ABSB (48 R821). -/
def execStTAbsb (off18 : BitVec 18) (bpos3 : BitVec 3) (b : BitVec 1) (s : State) : Out :=
  modifyOp s (.abs off18) true true s.cfg.align.stT 1 4 (fun t => bitStored t bpos3 b) (fun u _ => u)

/-- LDMST_ABS (48 R822). -/
def execLdmstAbs (a : Reg) (off18 : BitVec 18) (s : State) : Out :=
  modifyOp s (.abs off18) (Reg.isPair a) true s.cfg.align.ldmst 4 4
    (fun t => (maskedWord (BitVec.ofNat 32 t) (s.getD a) (s.getD (a + 1))).toNat) (fun u _ => u)

/-- LDMST_BO_SHORT (48 R822). -/
def execLdmstBoShort (a b : Reg) (off10 : BitVec 10) (s : State) : Out :=
  modifyOp s (.base b (sext10 off10)) (Reg.isPair a) true s.cfg.align.ldmst 4 4
    (fun t => (maskedWord (BitVec.ofNat 32 t) (s.getD a) (s.getD (a + 1))).toNat) (fun u _ => u)

/-- LDMST_BO_PREINC (48 R822). -/
def execLdmstBoPreinc (a b : Reg) (off10 : BitVec 10) (s : State) : Out :=
  modifyOp s (.preInc b (sext10 off10)) (Reg.isPair a) true s.cfg.align.ldmst 4 4
    (fun t => (maskedWord (BitVec.ofNat 32 t) (s.getD a) (s.getD (a + 1))).toNat) (fun u _ => u)

/-- LDMST_BO_POSTINC (48 R822). -/
def execLdmstBoPostinc (a b : Reg) (off10 : BitVec 10) (s : State) : Out :=
  modifyOp s (.postInc b (sext10 off10)) (Reg.isPair a) true s.cfg.align.ldmst 4 4
    (fun t => (maskedWord (BitVec.ofNat 32 t) (s.getD a) (s.getD (a + 1))).toNat) (fun u _ => u)

/-- LDMST_BO_CIRC (48 R822). -/
def execLdmstBoCirc (a b : Reg) (off10 : BitVec 10) (s : State) : Out :=
  modifyOp s (.circ b off10) (Reg.isPair a) true s.cfg.align.ldmst 4 4
    (fun t => (maskedWord (BitVec.ofNat 32 t) (s.getD a) (s.getD (a + 1))).toNat) (fun u _ => u)

/-- LDMST_BO_BREV (48 R822). -/
def execLdmstBoBrev (a b : Reg) (s : State) : Out :=
  modifyOp s (.brev b) (Reg.isPair a) true s.cfg.align.ldmst 4 4
    (fun t => (maskedWord (BitVec.ofNat 32 t) (s.getD a) (s.getD (a + 1))).toNat) (fun u _ => u)

/-- SWAP.A_ABS (48 R823). -/
def execSwapAAbs (a : Reg) (off18 : BitVec 18) (s : State) : Out :=
  modifyOp s (.abs off18) true (s.mayWriteA a) s.cfg.align.swapA 4 4 (fun _ => (s.getA a).toNat)
    (fun u v => u.setA a (BitVec.ofNat 32 v))

/-- SWAP.A_BO_SHORT (48 R823). -/
def execSwapABoShort (a b : Reg) (off10 : BitVec 10) (s : State) : Out :=
  modifyOp s (.base b (sext10 off10)) true (s.mayWriteA a) s.cfg.align.swapA 4 4 (fun _ => (s.getA a).toNat)
    (fun u v => u.setA a (BitVec.ofNat 32 v))

/-- SWAP.A_BO_PREINC (48 R823). -/
def execSwapABoPreinc (a b : Reg) (off10 : BitVec 10) (s : State) : Out :=
  modifyOp s (.preInc b (sext10 off10)) true (s.mayWriteA a) s.cfg.align.swapA 4 4 (fun _ => (s.getA a).toNat)
    (fun u v => u.setA a (BitVec.ofNat 32 v))

/-- SWAP.A_BO_POSTINC (48 R823). -/
def execSwapABoPostinc (a b : Reg) (off10 : BitVec 10) (s : State) : Out :=
  modifyOp s (.postInc b (sext10 off10)) true (s.mayWriteA a) s.cfg.align.swapA 4 4 (fun _ => (s.getA a).toNat)
    (fun u v => u.setA a (BitVec.ofNat 32 v))

/-- SWAP.A_BO_CIRC (48 R823). -/
def execSwapABoCirc (a b : Reg) (off10 : BitVec 10) (s : State) : Out :=
  modifyOp s (.circ b off10) true (s.mayWriteA a) s.cfg.align.swapA 4 4 (fun _ => (s.getA a).toNat)
    (fun u v => u.setA a (BitVec.ofNat 32 v))

/-- SWAP.A_BO_BREV (48 R823). -/
def execSwapABoBrev (a b : Reg) (s : State) : Out :=
  modifyOp s (.brev b) true (s.mayWriteA a) s.cfg.align.swapA 4 4 (fun _ => (s.getA a).toNat)
    (fun u v => u.setA a (BitVec.ofNat 32 v))

/-- SWAP.W_ABS (48 R824). -/
def execSwapWAbs (a : Reg) (off18 : BitVec 18) (s : State) : Out :=
  modifyOp s (.abs off18) true true s.cfg.align.swapW 4 4 (fun _ => (s.getD a).toNat)
    (fun u v => u.setD a (BitVec.ofNat 32 v))

/-- SWAP.W_BO_SHORT (48 R824). -/
def execSwapWBoShort (a b : Reg) (off10 : BitVec 10) (s : State) : Out :=
  modifyOp s (.base b (sext10 off10)) true true s.cfg.align.swapW 4 4 (fun _ => (s.getD a).toNat)
    (fun u v => u.setD a (BitVec.ofNat 32 v))

/-- SWAP.W_BO_PREINC (48 R824). -/
def execSwapWBoPreinc (a b : Reg) (off10 : BitVec 10) (s : State) : Out :=
  modifyOp s (.preInc b (sext10 off10)) true true s.cfg.align.swapW 4 4 (fun _ => (s.getD a).toNat)
    (fun u v => u.setD a (BitVec.ofNat 32 v))

/-- SWAP.W_BO_POSTINC (48 R824). -/
def execSwapWBoPostinc (a b : Reg) (off10 : BitVec 10) (s : State) : Out :=
  modifyOp s (.postInc b (sext10 off10)) true true s.cfg.align.swapW 4 4 (fun _ => (s.getD a).toNat)
    (fun u v => u.setD a (BitVec.ofNat 32 v))

/-- SWAP.W_BO_CIRC (48 R824). -/
def execSwapWBoCirc (a b : Reg) (off10 : BitVec 10) (s : State) : Out :=
  modifyOp s (.circ b off10) true true s.cfg.align.swapW 4 4 (fun _ => (s.getD a).toNat)
    (fun u v => u.setD a (BitVec.ofNat 32 v))

/-- SWAP.W_BO_BREV (48 R824). -/
def execSwapWBoBrev (a b : Reg) (s : State) : Out :=
  modifyOp s (.brev b) true true s.cfg.align.swapW 4 4 (fun _ => (s.getD a).toNat)
    (fun u v => u.setD a (BitVec.ofNat 32 v))

/-- LEA_ABS (48 R830). -/
def execLeaAbs (a : Reg) (off18 : BitVec 18) (s : State) : Out := leaOp s (.abs off18) a 4

/-- LEA_BO_SHORT (48 R830). -/
def execLeaBoShort (a b : Reg) (off10 : BitVec 10) (s : State) : Out := leaOp s (.base b (sext10 off10)) a 4

/-- LEA_BO_PREINC (48 R830). -/
def execLeaBoPreinc (a b : Reg) (off10 : BitVec 10) (s : State) : Out := leaOp s (.preInc b (sext10 off10)) a 4

/-- LEA_BO_POSTINC (48 R830). -/
def execLeaBoPostinc (a b : Reg) (off10 : BitVec 10) (s : State) : Out := leaOp s (.postInc b (sext10 off10)) a 4

/-- LEA_BO_CIRC (48 R830). -/
def execLeaBoCirc (a b : Reg) (off10 : BitVec 10) (s : State) : Out := leaOp s (.circ b off10) a 4

/-- LEA_BO_BREV (48 R830). -/
def execLeaBoBrev (a b : Reg) (s : State) : Out := leaOp s (.brev b) a 4

/-- LEA_BOL (48 R830). -/
def execLeaBol (a b : Reg) (off16 : BitVec 16) (s : State) : Out := leaOp s (.base b (sext16 off16)) a 4

/-- LD.A_SLR (48 R841). -/
def execLdASlr (a b : Reg) (s : State) : Out :=
  loadOp s (.base b 0) true (s.mayWriteA a) s.cfg.align.ldA 4 2 (fun u v => u.setA a (BitVec.ofNat 32 v))

/-- LD.A_SLR_POSTINC (48 R841). -/
def execLdASlrPostinc (a b : Reg) (s : State) : Out :=
  loadOp s (.postInc b 4) true (s.mayWriteA a) s.cfg.align.ldA 4 2 (fun u v => u.setA a (BitVec.ofNat 32 v))

/-- LD.A_SLRO (48 R841). -/
def execLdASlro (a : Reg) (off4 : BitVec 4) (s : State) : Out :=
  loadOp s (.base 15 (zext4 off4)) true (s.mayWriteA a) s.cfg.align.ldA 4 2 (fun u v => u.setA a (BitVec.ofNat 32 v))

/-- LD.A_SRO (48 R841). -/
def execLdASro (b : Reg) (off4 : BitVec 4) (s : State) : Out :=
  loadOp s (.base b (zext4 off4)) true (s.mayWriteA 15) s.cfg.align.ldA 4 2 (fun u v => u.setA 15 (BitVec.ofNat 32 v))

/-- LD.B_SLR (48 R842). -/
def execLdBSlr (a b : Reg) (s : State) : Out :=
  loadOp s (.base b 0) true true s.cfg.align.ldB 1 2 (fun u v => u.setD a (loadedB v))

/-- LD.B_SLR_POSTINC (48 R842). -/
def execLdBSlrPostinc (a b : Reg) (s : State) : Out :=
  loadOp s (.postInc b 1) true true s.cfg.align.ldB 1 2 (fun u v => u.setD a (loadedB v))

/-- LD.B_SLRO (48 R842). -/
def execLdBSlro (a : Reg) (off4 : BitVec 4) (s : State) : Out :=
  loadOp s (.base 15 (zext4 off4)) true true s.cfg.align.ldB 1 2 (fun u v => u.setD a (loadedB v))

/-- LD.B_SRO (48 R842). -/
def execLdBSro (b : Reg) (off4 : BitVec 4) (s : State) : Out :=
  loadOp s (.base b (zext4 off4)) true true s.cfg.align.ldB 1 2 (fun u v => u.setD 15 (loadedB v))

/-- LD.BU_SLR (48 R843). -/
def execLdBuSlr (a b : Reg) (s : State) : Out :=
  loadOp s (.base b 0) true true s.cfg.align.ldBu 1 2 (fun u v => u.setD a (loadedBu v))

/-- LD.BU_SLR_POSTINC (48 R843). -/
def execLdBuSlrPostinc (a b : Reg) (s : State) : Out :=
  loadOp s (.postInc b 1) true true s.cfg.align.ldBu 1 2 (fun u v => u.setD a (loadedBu v))

/-- LD.BU_SLRO (48 R843). -/
def execLdBuSlro (a : Reg) (off4 : BitVec 4) (s : State) : Out :=
  loadOp s (.base 15 (zext4 off4)) true true s.cfg.align.ldBu 1 2 (fun u v => u.setD a (loadedBu v))

/-- LD.BU_SRO (48 R843). -/
def execLdBuSro (b : Reg) (off4 : BitVec 4) (s : State) : Out :=
  loadOp s (.base b (zext4 off4)) true true s.cfg.align.ldBu 1 2 (fun u v => u.setD 15 (loadedBu v))

/-- LD.H_SLR (48 R844). -/
def execLdHSlr (a b : Reg) (s : State) : Out :=
  loadOp s (.base b 0) true true s.cfg.align.ldH 2 2 (fun u v => u.setD a (loadedH v))

/-- LD.H_SLR_POSTINC (48 R844). -/
def execLdHSlrPostinc (a b : Reg) (s : State) : Out :=
  loadOp s (.postInc b 2) true true s.cfg.align.ldH 2 2 (fun u v => u.setD a (loadedH v))

/-- LD.H_SLRO (48 R844). -/
def execLdHSlro (a : Reg) (off4 : BitVec 4) (s : State) : Out :=
  loadOp s (.base 15 (zext4 off4)) true true s.cfg.align.ldH 2 2 (fun u v => u.setD a (loadedH v))

/-- LD.H_SRO (48 R844). -/
def execLdHSro (b : Reg) (off4 : BitVec 4) (s : State) : Out :=
  loadOp s (.base b (zext4 off4)) true true s.cfg.align.ldH 2 2 (fun u v => u.setD 15 (loadedH v))

/-- LD.W_SLR (48 R845). -/
def execLdWSlr (a b : Reg) (s : State) : Out :=
  loadOp s (.base b 0) true true s.cfg.align.ldW 4 2 (fun u v => u.setD a (BitVec.ofNat 32 v))

/-- LD.W_SLR_POSTINC (48 R845). -/
def execLdWSlrPostinc (a b : Reg) (s : State) : Out :=
  loadOp s (.postInc b 4) true true s.cfg.align.ldW 4 2 (fun u v => u.setD a (BitVec.ofNat 32 v))

/-- LD.W_SLRO (48 R845). -/
def execLdWSlro (a : Reg) (off4 : BitVec 4) (s : State) : Out :=
  loadOp s (.base 15 (zext4 off4)) true true s.cfg.align.ldW 4 2 (fun u v => u.setD a (BitVec.ofNat 32 v))

/-- LD.W_SRO (48 R845). -/
def execLdWSro (b : Reg) (off4 : BitVec 4) (s : State) : Out :=
  loadOp s (.base b (zext4 off4)) true true s.cfg.align.ldW 4 2 (fun u v => u.setD 15 (BitVec.ofNat 32 v))

/-- ST.A_SRO (48 R846). -/
def execStASro (b : Reg) (off4 : BitVec 4) (s : State) : Out :=
  storeOp s (.base b (zext4 off4)) true s.cfg.align.stA 4 2 ((s.getA 15).toNat)

/-- ST.A_SSR (48 R846). -/
def execStASsr (a b : Reg) (s : State) : Out := storeOp s (.base b 0) true s.cfg.align.stA 4 2 ((s.getA a).toNat)

/-- ST.A_SSR_POSTINC (48 R846). -/
def execStASsrPostinc (a b : Reg) (s : State) : Out :=
  storeOp s (.postInc b 4) true s.cfg.align.stA 4 2 ((s.getA a).toNat)

/-- ST.A_SSRO (48 R846). -/
def execStASsro (a : Reg) (off4 : BitVec 4) (s : State) : Out :=
  storeOp s (.base 15 (zext4 off4)) true s.cfg.align.stA 4 2 ((s.getA a).toNat)

/-- ST.B_SRO (48 R847). -/
def execStBSro (b : Reg) (off4 : BitVec 4) (s : State) : Out :=
  storeOp s (.base b (zext4 off4)) true s.cfg.align.stB 1 2 ((s.getD 15).toNat)

/-- ST.B_SSR (48 R847). -/
def execStBSsr (a b : Reg) (s : State) : Out := storeOp s (.base b 0) true s.cfg.align.stB 1 2 ((s.getD a).toNat)

/-- ST.B_SSR_POSTINC (48 R847). -/
def execStBSsrPostinc (a b : Reg) (s : State) : Out :=
  storeOp s (.postInc b 1) true s.cfg.align.stB 1 2 ((s.getD a).toNat)

/-- ST.B_SSRO (48 R847). -/
def execStBSsro (a : Reg) (off4 : BitVec 4) (s : State) : Out :=
  storeOp s (.base 15 (zext4 off4)) true s.cfg.align.stB 1 2 ((s.getD a).toNat)

/-- ST.H_SRO (48 R848). -/
def execStHSro (b : Reg) (off4 : BitVec 4) (s : State) : Out :=
  storeOp s (.base b (zext4 off4)) true s.cfg.align.stH 2 2 ((s.getD 15).toNat)

/-- ST.H_SSR (48 R848). -/
def execStHSsr (a b : Reg) (s : State) : Out := storeOp s (.base b 0) true s.cfg.align.stH 2 2 ((s.getD a).toNat)

/-- ST.H_SSR_POSTINC (48 R848). -/
def execStHSsrPostinc (a b : Reg) (s : State) : Out :=
  storeOp s (.postInc b 2) true s.cfg.align.stH 2 2 ((s.getD a).toNat)

/-- ST.H_SSRO (48 R848). -/
def execStHSsro (a : Reg) (off4 : BitVec 4) (s : State) : Out :=
  storeOp s (.base 15 (zext4 off4)) true s.cfg.align.stH 2 2 ((s.getD a).toNat)

/-- ST.W_SRO (48 R849). -/
def execStWSro (b : Reg) (off4 : BitVec 4) (s : State) : Out :=
  storeOp s (.base b (zext4 off4)) true s.cfg.align.stW 4 2 ((s.getD 15).toNat)

/-- ST.W_SSR (48 R849). -/
def execStWSsr (a b : Reg) (s : State) : Out := storeOp s (.base b 0) true s.cfg.align.stW 4 2 ((s.getD a).toNat)

/-- ST.W_SSR_POSTINC (48 R849). -/
def execStWSsrPostinc (a b : Reg) (s : State) : Out :=
  storeOp s (.postInc b 4) true s.cfg.align.stW 4 2 ((s.getD a).toNat)

/-- ST.W_SSRO (48 R849). -/
def execStWSsro (a : Reg) (off4 : BitVec 4) (s : State) : Out :=
  storeOp s (.base 15 (zext4 off4)) true s.cfg.align.stW 4 2 ((s.getD a).toNat)

end Sys2Proof.Machine
end

