-- ==== Sys2Proof/Machine/Logic.lean ====
section
/-! DEFINITION. Machine/Logic.lean: the meanings of the logical, count-leading, shift and bit-field instructions (spec/42_logic_shift_bitfield.md), one definition per form. -/

namespace Sys2Proof.Machine

open Sys2Proof

/-- The bit field of EXTR.U: `(u(x) >> pos) & mask(width)` (42 R482). -/
def extractField (x : Word) (pos width : Nat) : Word := (x >>> pos) &&& fieldMask width

/-- The bit field of EXTR, sign-extended; 0 for width 0 (42 R481). -/
def extractFieldSigned (x : Word) (pos width : Nat) : Word :=
  if width = 0 then 0 else ((extractField x pos width).setWidth width).signExtend 32

/-- INSERT: the `width` low bits of `src` put into `x` at `pos` (42 R484). -/
def insertField (x src : Word) (pos width : Nat) : Word :=
  (x &&& ~~~(fieldMask width <<< pos)) ||| ((src <<< pos) &&& (fieldMask width <<< pos))

/-- IMASK: the mask in the high word, the value in the low word (42 R485). -/
def insertMask (src : Word) (pos width : Nat) : DWord := (fieldMask width <<< pos) ++ (src <<< pos)

/-- DEXTR: the high word of `{x, y} << pos` (42 R483). -/
def extractDouble (x y : Word) (pos : Nat) : Word := ((x ++ y) <<< pos).extractLsb' 32 32

/-- AND_RC (42 R441). -/
def execAndRc (c a : Reg) (const9 : BitVec 9) (s : State) : Out := .next (s.putD c (s.getD a &&& zext9 const9) 4)

/-- AND_RR (42 R441). -/
def execAndRr (c a b : Reg) (s : State) : Out := .next (s.putD c (s.getD a &&& s.getD b) 4)

/-- AND_SC (42 R441). -/
def execAndSc (const8 : BitVec 8) (s : State) : Out := .next (s.putD 15 (s.getD 15 &&& zext8 const8) 2)

/-- AND_SRR (42 R441). -/
def execAndSrr (a b : Reg) (s : State) : Out := .next (s.putD a (s.getD a &&& s.getD b) 2)

/-- ANDN_RC (42 R442). -/
def execAndnRc (c a : Reg) (const9 : BitVec 9) (s : State) : Out := .next (s.putD c (s.getD a &&& ~~~(zext9 const9)) 4)

/-- ANDN_RR (42 R442). -/
def execAndnRr (c a b : Reg) (s : State) : Out := .next (s.putD c (s.getD a &&& ~~~(s.getD b)) 4)

/-- NAND_RC (42 R443). -/
def execNandRc (c a : Reg) (const9 : BitVec 9) (s : State) : Out := .next (s.putD c (~~~(s.getD a &&& zext9 const9)) 4)

/-- NAND_RR (42 R443). -/
def execNandRr (c a b : Reg) (s : State) : Out := .next (s.putD c (~~~(s.getD a &&& s.getD b)) 4)

/-- NOR_RC (42 R444). -/
def execNorRc (c a : Reg) (const9 : BitVec 9) (s : State) : Out := .next (s.putD c (~~~(s.getD a ||| zext9 const9)) 4)

/-- NOR_RR (42 R444). -/
def execNorRr (c a b : Reg) (s : State) : Out := .next (s.putD c (~~~(s.getD a ||| s.getD b)) 4)

/-- NOT_SR (42 R445). -/
def execNotSr (a : Reg) (s : State) : Out := .next (s.putD a (~~~(s.getD a)) 2)

/-- OR_RC (42 R446). -/
def execOrRc (c a : Reg) (const9 : BitVec 9) (s : State) : Out := .next (s.putD c (s.getD a ||| zext9 const9) 4)

/-- OR_RR (42 R446). -/
def execOrRr (c a b : Reg) (s : State) : Out := .next (s.putD c (s.getD a ||| s.getD b) 4)

/-- OR_SC (42 R446). -/
def execOrSc (const8 : BitVec 8) (s : State) : Out := .next (s.putD 15 (s.getD 15 ||| zext8 const8) 2)

/-- OR_SRR (42 R446). -/
def execOrSrr (a b : Reg) (s : State) : Out := .next (s.putD a (s.getD a ||| s.getD b) 2)

/-- ORN_RC (42 R447). -/
def execOrnRc (c a : Reg) (const9 : BitVec 9) (s : State) : Out := .next (s.putD c (s.getD a ||| ~~~(zext9 const9)) 4)

/-- ORN_RR (42 R447). -/
def execOrnRr (c a b : Reg) (s : State) : Out := .next (s.putD c (s.getD a ||| ~~~(s.getD b)) 4)

/-- XNOR_RC (42 R448). -/
def execXnorRc (c a : Reg) (const9 : BitVec 9) (s : State) : Out := .next (s.putD c (~~~(s.getD a ^^^ zext9 const9)) 4)

/-- XNOR_RR (42 R448). -/
def execXnorRr (c a b : Reg) (s : State) : Out := .next (s.putD c (~~~(s.getD a ^^^ s.getD b)) 4)

/-- XOR_RC (42 R449). -/
def execXorRc (c a : Reg) (const9 : BitVec 9) (s : State) : Out := .next (s.putD c (s.getD a ^^^ zext9 const9) 4)

/-- XOR_RR (42 R449). -/
def execXorRr (c a b : Reg) (s : State) : Out := .next (s.putD c (s.getD a ^^^ s.getD b) 4)

/-- CLZ_RR (42 R451). -/
def execClzRr (c a : Reg) (s : State) : Out := .next (s.putD c (BitVec.ofNat 32 (leadingZeros (s.getD a))) 4)

/-- CLO_RR (42 R452). -/
def execCloRr (c a : Reg) (s : State) : Out := .next (s.putD c (BitVec.ofNat 32 (leadingOnes (s.getD a))) 4)

/-- CLS_RR (42 R453). -/
def execClsRr (c a : Reg) (s : State) : Out := .next (s.putD c (BitVec.ofNat 32 (leadingSigns (s.getD a))) 4)

/-- SH_RC (42 R469). -/
def execShRc (c a : Reg) (const9 : BitVec 9) (s : State) : Out :=
  .next (s.putD c (shiftLogical (s.getD a) (shiftCount6 (const9.setWidth 32))) 4)

/-- SH_RR (42 R469). -/
def execShRr (c a b : Reg) (s : State) : Out := .next (s.putD c (shiftLogical (s.getD a) (shiftCount6 (s.getD b))) 4)

/-- SH_SRC (42 R469). -/
def execShSrc (a : Reg) (const4 : BitVec 4) (s : State) : Out :=
  .next (s.putD a (shiftLogical (s.getD a) (shiftCount4 (const4.setWidth 32))) 2)

/-- SHA_RC (42 R470). -/
def execShaRc (c a : Reg) (const9 : BitVec 9) (s : State) : Out :=
  .next (s.putResultC c (signedResult 32 (shiftArith (s.getD a) (shiftCount6 (const9.setWidth 32))))
    (shiftCarry (s.getD a) (shiftCount6 (const9.setWidth 32))) 4)

/-- SHA_RR (42 R470). -/
def execShaRr (c a b : Reg) (s : State) : Out :=
  .next (s.putResultC c (signedResult 32 (shiftArith (s.getD a) (shiftCount6 (s.getD b))))
    (shiftCarry (s.getD a) (shiftCount6 (s.getD b))) 4)

/-- SHA_SRC (42 R470). -/
def execShaSrc (a : Reg) (const4 : BitVec 4) (s : State) : Out :=
  .next (s.putResultC a (signedResult 32 (shiftArith (s.getD a) (shiftCount4 (const4.setWidth 32))))
    (shiftCarry (s.getD a) (shiftCount4 (const4.setWidth 32))) 2)

/-- SHAS_RC (42 R471). -/
def execShasRc (c a : Reg) (const9 : BitVec 9) (s : State) : Out :=
  .next (s.putResult c (signedSatResult 32 (shiftArith (s.getD a) (shiftCount6 (const9.setWidth 32)))) 4)

/-- SHAS_RR (42 R471). -/
def execShasRr (c a b : Reg) (s : State) : Out :=
  .next (s.putResult c (signedSatResult 32 (shiftArith (s.getD a) (shiftCount6 (s.getD b)))) 4)

/-- EXTR_RRPW (42 R481). -/
def execExtrRrpw (c a : Reg) (p w : BitVec 5) (s : State) : Out :=
  .next (s.putD c (extractFieldSigned (s.getD a) p.toNat w.toNat) 4)

/-- EXTR_RRRR (42 R481). -/
def execExtrRrrr (c a d : Reg) (s : State) : Out :=
  onPairs s (Reg.isPair d) (s.putD c (extractFieldSigned (s.getD a) (field5 (s.getD d)) (field5 (s.getD (d + 1)))) 4)

/-- EXTR_RRRW (42 R481). -/
def execExtrRrrw (c a d : Reg) (w : BitVec 5) (s : State) : Out :=
  .next (s.putD c (extractFieldSigned (s.getD a) (field5 (s.getD d)) w.toNat) 4)

/-- EXTR.U_RRPW (42 R482). -/
def execExtrURrpw (c a : Reg) (p w : BitVec 5) (s : State) : Out :=
  .next (s.putD c (extractField (s.getD a) p.toNat w.toNat) 4)

/-- EXTR.U_RRRR (42 R482). -/
def execExtrURrrr (c a d : Reg) (s : State) : Out :=
  onPairs s (Reg.isPair d) (s.putD c (extractField (s.getD a) (field5 (s.getD d)) (field5 (s.getD (d + 1)))) 4)

/-- EXTR.U_RRRW (42 R482). -/
def execExtrURrrw (c a d : Reg) (w : BitVec 5) (s : State) : Out :=
  .next (s.putD c (extractField (s.getD a) (field5 (s.getD d)) w.toNat) 4)

/-- DEXTR_RRPW (42 R483). -/
def execDextrRrpw (c a b : Reg) (p : BitVec 5) (s : State) : Out :=
  .next (s.putD c (extractDouble (s.getD a) (s.getD b) p.toNat) 4)

/-- DEXTR_RRRR (42 R483). -/
def execDextrRrrr (c a b d : Reg) (s : State) : Out :=
  .next (s.putD c (extractDouble (s.getD a) (s.getD b) (field5 (s.getD d))) 4)

/-- INSERT_RCPW (42 R484). -/
def execInsertRcpw (c a : Reg) (const4 : BitVec 4) (p w : BitVec 5) (s : State) : Out :=
  .next (s.putD c (insertField (s.getD a) (zext4 const4) p.toNat w.toNat) 4)

/-- INSERT_RCRR (42 R484). -/
def execInsertRcrr (c a : Reg) (const4 : BitVec 4) (d : Reg) (s : State) : Out :=
  onPairs s (Reg.isPair d)
    (s.putD c (insertField (s.getD a) (zext4 const4) (field5 (s.getD d)) (field5 (s.getD (d + 1)))) 4)

/-- INSERT_RCRW (42 R484). -/
def execInsertRcrw (c a : Reg) (const4 : BitVec 4) (d : Reg) (w : BitVec 5) (s : State) : Out :=
  .next (s.putD c (insertField (s.getD a) (zext4 const4) (field5 (s.getD d)) w.toNat) 4)

/-- INSERT_RRPW (42 R484). -/
def execInsertRrpw (c a b : Reg) (p w : BitVec 5) (s : State) : Out :=
  .next (s.putD c (insertField (s.getD a) (s.getD b) p.toNat w.toNat) 4)

/-- INSERT_RRRR (42 R484). -/
def execInsertRrrr (c a b d : Reg) (s : State) : Out :=
  onPairs s (Reg.isPair d)
    (s.putD c (insertField (s.getD a) (s.getD b) (field5 (s.getD d)) (field5 (s.getD (d + 1)))) 4)

/-- INSERT_RRRW (42 R484). -/
def execInsertRrrw (c a b d : Reg) (w : BitVec 5) (s : State) : Out :=
  .next (s.putD c (insertField (s.getD a) (s.getD b) (field5 (s.getD d)) w.toNat) 4)

/-- IMASK_RCPW (42 R485). -/
def execImaskRcpw (c : Reg) (const4 : BitVec 4) (p w : BitVec 5) (s : State) : Out :=
  onPairs s (Reg.isPair c) (s.putE c (insertMask (zext4 const4) p.toNat w.toNat) 4)

/-- IMASK_RCRW (42 R485). -/
def execImaskRcrw (c : Reg) (const4 : BitVec 4) (d : Reg) (w : BitVec 5) (s : State) : Out :=
  onPairs s (Reg.isPair c) (s.putE c (insertMask (zext4 const4) (field5 (s.getD d)) w.toNat) 4)

/-- IMASK_RRPW (42 R485). -/
def execImaskRrpw (c b : Reg) (p w : BitVec 5) (s : State) : Out :=
  onPairs s (Reg.isPair c) (s.putE c (insertMask (s.getD b) p.toNat w.toNat) 4)

/-- IMASK_RRRW (42 R485). -/
def execImaskRrrw (c b d : Reg) (w : BitVec 5) (s : State) : Out :=
  onPairs s (Reg.isPair c) (s.putE c (insertMask (s.getD b) (field5 (s.getD d)) w.toNat) 4)

end Sys2Proof.Machine
end

