-- ==== Sys2Proof/Machine/MulDiv.lean ====
section
/-! DEFINITION. Machine/MulDiv.lean: the meanings of the multiply, multiply-accumulate and divide-step instructions (spec/41_multiply_divide.md), one definition per form. -/

namespace Sys2Proof.Machine

open Sys2Proof

/-! ## The divide steps (41 R422 to R427) -/

/-- The dividend extended, shifted left and filled with the quotient sign (41 R422). -/
def divideInit (x y : Word) (shift : Nat) (signed : Bool) : DWord :=
  ((if signed then x.signExtend 64 else x.setWidth 64) <<< shift) |||
    (if signed && (x.msb != y.msb) then BitVec.ofNat 64 (2 ^ shift - 1) else 0)

/-- The overflow condition of DVINIT on the pair it writes and the divisor (41 R422). -/
def divideInitOverflow (e : DWord) (y : Word) (signed : Bool) : Bool :=
  let hi := e.extractLsb' 32 32
  if signed then decide (y.toInt.natAbs ≤ (if hi.msb then (~~~hi).toNat else hi.toNat))
  else decide (y.toNat ≤ hi.toNat)

/-- The DVINIT instructions (41 R422): the pair, V and SV. -/
def divideInitOp (s : State) (c a b : Reg) (shift : Nat) (signed : Bool) : Out :=
  let e := divideInit (s.getD a) (s.getD b) shift signed
  onPairs s (Reg.isPair c)
    (((s.setE c e).setPsw (Psw.setV s.psw (divideInitOverflow e (s.getD b) signed))).advance 4)

/-- One quotient bit of DVSTEP, on the pair (remainder, quotient) (41 R425): `ds` the sign of the dividend, `qs` that of
the quotient. -/
def divideStepBit (ds qs : Bool) (addend : Int) (e : DWord) : DWord :=
  let rem := ((e <<< 1).extractLsb' 32 32).toInt
  let dq := (e <<< 1).extractLsb' 0 32
  let ok := decide (rem + addend < 0) == ds
  BitVec.ofInt 32 (if ok then rem + addend else rem) ++ (dq ||| boolWord (if ok then !qs else qs))

/-- `divide_step`: eight quotient bits (41 R425). -/
def divideStep (e : DWord) (y : Word) : DWord :=
  let ds := e.msb
  let qs := ds != y.msb
  Nat.repeat (divideStepBit ds qs (if qs then y.toInt else -y.toInt)) 8 e

/-- One quotient bit of DVSTEP.U, on the remainder, which is not cut, and the quotient (41 R426). -/
def divideStepBitU (y : Nat) (x : Nat × Word) : Nat × Word :=
  let rem := 2 * x.1 + x.2.msb.toNat
  if y ≤ rem then (rem - y, (x.2 <<< 1) ||| 1) else (rem, x.2 <<< 1)

/-- `divide_step_unsigned`: eight quotient bits (41 R426). -/
def divideStepU (e : DWord) (y : Word) : DWord :=
  let r := Nat.repeat (divideStepBitU y.toNat) 8 ((e.extractLsb' 32 32).toNat, e.extractLsb' 0 32)
  BitVec.ofNat 32 r.1 ++ r.2

/-- `divide_adjust` (41 R427). -/
def divideAdjust (e : DWord) (y : Word) : DWord :=
  let hi := e.extractLsb' 32 32
  let lo := e.extractLsb' 0 32
  let qs := e.msb != y.msb
  let eqPos := e.msb && hi == y
  let eqNeg := e.msb && hi == -y
  (if eqPos || eqNeg then 0 else hi) ++ (if (qs && !eqNeg) || eqPos then lo + 1 else lo)

/-- The PSW that DVADJ leaves: V cleared, the other flags unchanged (41 R427). -/
def Psw.clearV (p : Word) : Word := setBit p 30 false

/-- MUL_RC (41 R382). -/
def execMulRc (c a : Reg) (const9 : BitVec 9) (s : State) : Out :=
  .next (s.putResult c (signedResult 32 (s.sD a * (sext9 const9).toInt)) 4)

/-- MUL_RR (41 R382). -/
def execMulRr (c a b : Reg) (s : State) : Out := .next (s.putResult c (signedResult 32 (s.sD a * s.sD b)) 4)

/-- MUL_SRR (41 R382). -/
def execMulSrr (a b : Reg) (s : State) : Out := .next (s.putResult a (signedResult 32 (s.sD a * s.sD b)) 2)

/-- MULS_RC (41 R383). -/
def execMulsRc (c a : Reg) (const9 : BitVec 9) (s : State) : Out :=
  .next (s.putResult c (signedSatResult 32 (s.sD a * (sext9 const9).toInt)) 4)

/-- MULS_RR (41 R383). -/
def execMulsRr (c a b : Reg) (s : State) : Out := .next (s.putResult c (signedSatResult 32 (s.sD a * s.sD b)) 4)

/-- MULS.U_RC (41 R384). -/
def execMulsURc (c a : Reg) (const9 : BitVec 9) (s : State) : Out :=
  .next (s.putResult c (unsignedSatResult 32 (s.uD a * ((zext9 const9).toNat : Int))) 4)

/-- MULS.U_RR (41 R384). -/
def execMulsURr (c a b : Reg) (s : State) : Out := .next (s.putResult c (unsignedSatResult 32 (s.uD a * s.uD b)) 4)

/-- MULM_RC (41 R385). -/
def execMulmRc (c a : Reg) (const9 : BitVec 9) (s : State) : Out :=
  onPairs s (Reg.isPair c) (s.putResultE c (signedResult 64 (s.sD a * (sext9 const9).toInt)) 4)

/-- MULM_RR (41 R385). -/
def execMulmRr (c a b : Reg) (s : State) : Out :=
  onPairs s (Reg.isPair c) (s.putResultE c (signedResult 64 (s.sD a * s.sD b)) 4)

/-- MULM.U_RC (41 R386). -/
def execMulmURc (c a : Reg) (const9 : BitVec 9) (s : State) : Out :=
  onPairs s (Reg.isPair c) (s.putResultE c (unsignedResult 64 (s.uD a * ((zext9 const9).toNat : Int))) 4)

/-- MULM.U_RR (41 R386). -/
def execMulmURr (c a b : Reg) (s : State) : Out :=
  onPairs s (Reg.isPair c) (s.putResultE c (unsignedResult 64 (s.uD a * s.uD b)) 4)

/-- MADD_RCR (41 R387). -/
def execMaddRcr (c d a : Reg) (const9 : BitVec 9) (s : State) : Out :=
  .next (s.putResult c (signedResult 32 (s.sD d + s.sD a * (sext9 const9).toInt)) 4)

/-- MADD_RRR (41 R387). -/
def execMaddRrr (c d a b : Reg) (s : State) : Out :=
  .next (s.putResult c (signedResult 32 (s.sD d + s.sD a * s.sD b)) 4)

/-- MADDS_RCR (41 R388). -/
def execMaddsRcr (c d a : Reg) (const9 : BitVec 9) (s : State) : Out :=
  .next (s.putResult c (signedSatResult 32 (s.sD d + s.sD a * (sext9 const9).toInt)) 4)

/-- MADDS_RRR (41 R388). -/
def execMaddsRrr (c d a b : Reg) (s : State) : Out :=
  .next (s.putResult c (signedSatResult 32 (s.sD d + s.sD a * s.sD b)) 4)

/-- MADDS.U_RCR (41 R389). -/
def execMaddsURcr (c d a : Reg) (const9 : BitVec 9) (s : State) : Out :=
  .next (s.putResult c (unsignedSatResult 32 (s.uD d + s.uD a * ((zext9 const9).toNat : Int))) 4)

/-- MADDS.U_RRR (41 R389). -/
def execMaddsURrr (c d a b : Reg) (s : State) : Out :=
  .next (s.putResult c (unsignedSatResult 32 (s.uD d + s.uD a * s.uD b)) 4)

/-- MADDM_RCR (41 R390). -/
def execMaddmRcr (c d a : Reg) (const9 : BitVec 9) (s : State) : Out :=
  onPairs s (Reg.isPair c && Reg.isPair d) (s.putResultE c (signedResult 64 (s.sE d + s.sD a * (sext9 const9).toInt)) 4)

/-- MADDM_RRR (41 R390). -/
def execMaddmRrr (c d a b : Reg) (s : State) : Out :=
  onPairs s (Reg.isPair c && Reg.isPair d) (s.putResultE c (signedResult 64 (s.sE d + s.sD a * s.sD b)) 4)

/-- MADDM.U_RCR (41 R391). -/
def execMaddmURcr (c d a : Reg) (const9 : BitVec 9) (s : State) : Out :=
  onPairs s (Reg.isPair c && Reg.isPair d)
    (s.putResultE c (unsignedResult 64 (s.uE d + s.uD a * ((zext9 const9).toNat : Int))) 4)

/-- MADDM.U_RRR (41 R391). -/
def execMaddmURrr (c d a b : Reg) (s : State) : Out :=
  onPairs s (Reg.isPair c && Reg.isPair d) (s.putResultE c (unsignedResult 64 (s.uE d + s.uD a * s.uD b)) 4)

/-- MADDMS_RCR (41 R392). -/
def execMaddmsRcr (c d a : Reg) (const9 : BitVec 9) (s : State) : Out :=
  onPairs s (Reg.isPair c && Reg.isPair d)
    (s.putResultE c (signedSatResult 64 (s.sE d + s.sD a * (sext9 const9).toInt)) 4)

/-- MADDMS_RRR (41 R392). -/
def execMaddmsRrr (c d a b : Reg) (s : State) : Out :=
  onPairs s (Reg.isPair c && Reg.isPair d) (s.putResultE c (signedSatResult 64 (s.sE d + s.sD a * s.sD b)) 4)

/-- MADDMS.U_RCR (41 R393). -/
def execMaddmsURcr (c d a : Reg) (const9 : BitVec 9) (s : State) : Out :=
  onPairs s (Reg.isPair c && Reg.isPair d)
    (s.putResultE c (unsignedSatResult 64 (s.uE d + s.uD a * ((zext9 const9).toNat : Int))) 4)

/-- MADDMS.U_RRR (41 R393). -/
def execMaddmsURrr (c d a b : Reg) (s : State) : Out :=
  onPairs s (Reg.isPair c && Reg.isPair d) (s.putResultE c (unsignedSatResult 64 (s.uE d + s.uD a * s.uD b)) 4)

/-- MSUB_RCR (41 R394). -/
def execMsubRcr (c d a : Reg) (const9 : BitVec 9) (s : State) : Out :=
  .next (s.putResult c (signedResult 32 (s.sD d - s.sD a * (sext9 const9).toInt)) 4)

/-- MSUB_RRR (41 R394). -/
def execMsubRrr (c d a b : Reg) (s : State) : Out :=
  .next (s.putResult c (signedResult 32 (s.sD d - s.sD a * s.sD b)) 4)

/-- MSUBS_RCR (41 R395). -/
def execMsubsRcr (c d a : Reg) (const9 : BitVec 9) (s : State) : Out :=
  .next (s.putResult c (signedSatResult 32 (s.sD d - s.sD a * (sext9 const9).toInt)) 4)

/-- MSUBS_RRR (41 R395). -/
def execMsubsRrr (c d a b : Reg) (s : State) : Out :=
  .next (s.putResult c (signedSatResult 32 (s.sD d - s.sD a * s.sD b)) 4)

/-- MSUBS.U_RCR (41 R396). -/
def execMsubsURcr (c d a : Reg) (const9 : BitVec 9) (s : State) : Out :=
  .next (s.putResult c (unsignedSatResult 32 (s.uD d - s.uD a * ((zext9 const9).toNat : Int))) 4)

/-- MSUBS.U_RRR (41 R396). -/
def execMsubsURrr (c d a b : Reg) (s : State) : Out :=
  .next (s.putResult c (unsignedSatResult 32 (s.uD d - s.uD a * s.uD b)) 4)

/-- MSUBM_RCR (41 R397). -/
def execMsubmRcr (c d a : Reg) (const9 : BitVec 9) (s : State) : Out :=
  onPairs s (Reg.isPair c && Reg.isPair d) (s.putResultE c (signedResult 64 (s.sE d - s.sD a * (sext9 const9).toInt)) 4)

/-- MSUBM_RRR (41 R397). -/
def execMsubmRrr (c d a b : Reg) (s : State) : Out :=
  onPairs s (Reg.isPair c && Reg.isPair d) (s.putResultE c (signedResult 64 (s.sE d - s.sD a * s.sD b)) 4)

/-- MSUBM.U_RCR (41 R398). -/
def execMsubmURcr (c d a : Reg) (const9 : BitVec 9) (s : State) : Out :=
  onPairs s (Reg.isPair c && Reg.isPair d)
    (s.putResultE c (unsignedResult 64 (s.uE d - s.uD a * ((zext9 const9).toNat : Int))) 4)

/-- MSUBM.U_RRR (41 R398). -/
def execMsubmURrr (c d a b : Reg) (s : State) : Out :=
  onPairs s (Reg.isPair c && Reg.isPair d) (s.putResultE c (unsignedResult 64 (s.uE d - s.uD a * s.uD b)) 4)

/-- MSUBMS_RCR (41 R399). -/
def execMsubmsRcr (c d a : Reg) (const9 : BitVec 9) (s : State) : Out :=
  onPairs s (Reg.isPair c && Reg.isPair d)
    (s.putResultE c (signedSatResult 64 (s.sE d - s.sD a * (sext9 const9).toInt)) 4)

/-- MSUBMS_RRR (41 R399). -/
def execMsubmsRrr (c d a b : Reg) (s : State) : Out :=
  onPairs s (Reg.isPair c && Reg.isPair d) (s.putResultE c (signedSatResult 64 (s.sE d - s.sD a * s.sD b)) 4)

/-- MSUBMS.U_RCR (41 R400). -/
def execMsubmsURcr (c d a : Reg) (const9 : BitVec 9) (s : State) : Out :=
  onPairs s (Reg.isPair c && Reg.isPair d)
    (s.putResultE c (unsignedSatResult 64 (s.uE d - s.uD a * ((zext9 const9).toNat : Int))) 4)

/-- MSUBMS.U_RRR (41 R400). -/
def execMsubmsURrr (c d a b : Reg) (s : State) : Out :=
  onPairs s (Reg.isPair c && Reg.isPair d) (s.putResultE c (unsignedSatResult 64 (s.uE d - s.uD a * s.uD b)) 4)

/-- DVINIT.BU_RR (41 R422). -/
def execDvinitBuRr (c a b : Reg) (s : State) : Out := divideInitOp s c a b 24 false

/-- DVINIT.B_RR (41 R422). -/
def execDvinitBRr (c a b : Reg) (s : State) : Out := divideInitOp s c a b 24 true

/-- DVINIT.HU_RR (41 R422). -/
def execDvinitHuRr (c a b : Reg) (s : State) : Out := divideInitOp s c a b 16 false

/-- DVINIT.H_RR (41 R422). -/
def execDvinitHRr (c a b : Reg) (s : State) : Out := divideInitOp s c a b 16 true

/-- DVINIT.U_RR (41 R422). -/
def execDvinitURr (c a b : Reg) (s : State) : Out := divideInitOp s c a b 0 false

/-- DVINIT_RR (41 R422). -/
def execDvinitRr (c a b : Reg) (s : State) : Out := divideInitOp s c a b 0 true

/-- DVSTEP_RRR (41 R425). -/
def execDvstepRrr (c d b : Reg) (s : State) : Out :=
  onPairs s (Reg.isPair c && Reg.isPair d) (s.putE c (divideStep (s.getE d) (s.getD b)) 4)

/-- DVSTEP_SRR (41 R425). -/
def execDvstepSrr (a b : Reg) (s : State) : Out :=
  onPairs s (Reg.isPair a) (s.putE a (divideStep (s.getE a) (s.getD b)) 2)

/-- DVSTEP.U_RRR (41 R426). -/
def execDvstepURrr (c d b : Reg) (s : State) : Out :=
  onPairs s (Reg.isPair c && Reg.isPair d) (s.putE c (divideStepU (s.getE d) (s.getD b)) 4)

/-- DVSTEP.U_SRR (41 R426). -/
def execDvstepUSrr (a b : Reg) (s : State) : Out :=
  onPairs s (Reg.isPair a) (s.putE a (divideStepU (s.getE a) (s.getD b)) 2)

/-- DVADJ_RRR (41 R427). -/
def execDvadjRrr (c d b : Reg) (s : State) : Out :=
  onPairs s (Reg.isPair c && Reg.isPair d)
    (((s.setE c (divideAdjust (s.getE d) (s.getD b))).setPsw (Psw.clearV s.psw)).advance 4)

/-- DVADJ_SRR (41 R427). -/
def execDvadjSrr (a b : Reg) (s : State) : Out :=
  onPairs s (Reg.isPair a) (((s.setE a (divideAdjust (s.getE a) (s.getD b))).setPsw (Psw.clearV s.psw)).advance 2)

end Sys2Proof.Machine
end

