-- ==== Sys2Proof/Machine/System.lean ====
section
/-! DEFINITION. Machine/System.lean: the meanings of the context and system instructions (spec/49_context_and_system.md), one definition per form. -/

namespace Sys2Proof.Machine

open Sys2Proof

/-- SVLCX and BISR after their privilege check (49 R872, R874): FCU, the checks of 60 R971, then the lower context saved,
ICR := `icr`, the next instruction, and FCD if the save used the limit CSA. -/
def saveLowerOp (s : State) (icr len : Word) : Out :=
  if pointer s.fcx == 0 then raise s .fcu
  else match s.csaTrap (csaAddress s.fcx) with
    | some x => raise s x
    | none =>
      completeSave s ((((s.signal .modify (csaAddress s.fcx)).saveContext false).setIcr icr).advance len)

/-- RSLCX (49 R873): CSU, CTYP, the checks of 60 R971, then the lower context restored. -/
def restoreLowerOp (s : State) : Out :=
  if pointer s.pcxi == 0 then raise s .csu
  else if Pcxi.ul s.pcxi then raise s .ctyp
  else match s.csaTrap (csaAddress s.pcxi) with
    | some x => raise s x
    | none => .next (((s.signal .modify (csaAddress s.pcxi)).restoreContext false).advance 4)

/-- BISR (49 R874): supervisor only; CCPN := `n`, IE := 1. -/
def bisrOp (s : State) (n : BitVec 8) (len : Word) : Out :=
  if Psw.io s.psw == 2 then saveLowerOp s (Icr.setEnable s.icr true n) len else raise s .priv

/-- RFE (49 R880): NEST, then what RET does too. -/
def rfeOp (s : State) : Out := if callDepthNonzero s.psw then raise s .nest else returnFrom s

/-- ENABLE and DISABLE (49 R890, R891): not at User-0; IE := `ie`. -/
def enableOp (s : State) (ie : Bool) : Out :=
  if Psw.io s.psw == 0 then raise s .priv
  else .next ((s.setIcr (Icr.setEnable s.icr ie (Icr.ccpn s.icr))).advance 4)

/-- DEBUG (49 R910): an event to the host if the debug mode is on, then a NOP. -/
def debugOp (s : State) (len : Word) : State :=
  (if s.cfg.debugMode then s.emit [.debugEvent s.pc] else s).advance len

/-- A CSFR offset is a multiple of 4 (10 R76). -/
def csfrAligned (off : BitVec 16) : Bool := off.toNat % 4 == 0

/-- SVLCX_SYS (49 R872). -/
def execSvlcxSys (s : State) : Out := saveLowerOp s s.icr 4

/-- RSLCX_SYS (49 R873). -/
def execRslcxSys (s : State) : Out := restoreLowerOp s

/-- BISR_RC (49 R874). -/
def execBisrRc (const9 : BitVec 9) (s : State) : Out := bisrOp s (const9.setWidth 8) 4

/-- BISR_SC (49 R874). -/
def execBisrSc (const8 : BitVec 8) (s : State) : Out := bisrOp s const8 2

/-- STUCX_ABS (49 R876). -/
def execStucxAbs (off18 : BitVec 18) (s : State) : Out :=
  storeOp s (.abs off18) true 64 64 4 (blockValue s.upperContext)

/-- STUCX_BO_SHORT (49 R876). -/
def execStucxBoShort (b : Reg) (off10 : BitVec 10) (s : State) : Out :=
  storeOp s (.base b (sext10 off10)) true 64 64 4 (blockValue s.upperContext)

/-- LDUCX_ABS (49 R877). -/
def execLducxAbs (off18 : BitVec 18) (s : State) : Out :=
  loadOp s (.abs off18) true true 64 64 4 (fun u v => u.loadUpper v)

/-- LDUCX_BO_SHORT (49 R877). -/
def execLducxBoShort (b : Reg) (off10 : BitVec 10) (s : State) : Out :=
  loadOp s (.base b (sext10 off10)) true true 64 64 4 (fun u v => u.loadUpper v)

/-- STLCX_ABS (49 R878). -/
def execStlcxAbs (off18 : BitVec 18) (s : State) : Out :=
  storeOp s (.abs off18) true 64 64 4 (blockValue s.lowerContext)

/-- STLCX_BO_SHORT (49 R878). -/
def execStlcxBoShort (b : Reg) (off10 : BitVec 10) (s : State) : Out :=
  storeOp s (.base b (sext10 off10)) true 64 64 4 (blockValue s.lowerContext)

/-- LDLCX_ABS (49 R879). -/
def execLdlcxAbs (off18 : BitVec 18) (s : State) : Out :=
  loadOp s (.abs off18) true true 64 64 4 (fun u v => u.loadLower v)

/-- LDLCX_BO_SHORT (49 R879). -/
def execLdlcxBoShort (b : Reg) (off10 : BitVec 10) (s : State) : Out :=
  loadOp s (.base b (sext10 off10)) true true 64 64 4 (fun u v => u.loadLower v)

/-- RFE_SYS (49 R880). -/
def execRfeSys (s : State) : Out := rfeOp s

/-- RFE_SR (49 R880). -/
def execRfeSr (s : State) : Out := rfeOp s

/-- SYSCALL_RC (49 R885). -/
def execSyscallRc (const9 : BitVec 9) (s : State) : Out := takeTrap s (.sys (const9.setWidth 8)) (s.pc + 4)

/-- ENABLE_SYS (49 R890). -/
def execEnableSys (s : State) : Out := enableOp s true

/-- DISABLE_SYS (49 R891). -/
def execDisableSys (s : State) : Out := enableOp s false

/-- DSYNC_SYS (49 R895). -/
def execDsyncSys (s : State) : Out := .next (s.advance 4)

/-- ISYNC_SYS (49 R896). -/
def execIsyncSys (s : State) : Out := .next (s.advance 4)

/-- NOP_SYS (49 R897). -/
def execNopSys (s : State) : Out := .next (s.advance 4)

/-- NOP_SR (49 R897). -/
def execNopSr (s : State) : Out := .next (s.advance 2)

/-- MFCR_RLC (49 R900). -/
def execMfcrRlc (c : Reg) (const16 : BitVec 16) (s : State) : Out :=
  if csfrAligned const16 then .next (s.putD c (s.readCsfr const16) 4) else .refused .unalignedCsfrOffset

/-- MTCR_RLC (49 R901). -/
def execMtcrRlc (const16 : BitVec 16) (a : Reg) (s : State) : Out :=
  if Psw.io s.psw == 2 then
    (if csfrAligned const16 then .next ((s.writeCsfr const16 (s.getD a)).advance 4) else .refused .unalignedCsfrOffset)
      else raise s .priv

/-- RSTV_SYS (49 R903). -/
def execRstvSys (s : State) : Out := .next ((s.setPsw (Psw.clearOverflow s.psw)).advance 4)

/-- TRAPV_SYS (49 R905). -/
def execTrapvSys (s : State) : Out := if Psw.v s.psw then raise s .ovf else .next (s.advance 4)

/-- TRAPSV_SYS (49 R906). -/
def execTrapsvSys (s : State) : Out := if Psw.sv s.psw then raise s .sovf else .next (s.advance 4)

/-- DEBUG_SYS (49 R910). -/
def execDebugSys (s : State) : Out := .next (debugOp s 4)

/-- DEBUG_SR (49 R910). -/
def execDebugSr (s : State) : Out := .next (debugOp s 2)

end Sys2Proof.Machine
end

