-- ==== Sys2Proof/Machine/Dispatch.lean ====
section
/-! DEFINITION. Machine/Dispatch.lean: the meaning of each instruction, one arm per form of spec/opcode_table.json. -/

namespace Sys2Proof.Machine

open Sys2Proof

def exec (i : Instr) (s : State) : Host.Outcome State Fault Refusal :=
  match i with
  | .jnzTBrn a n disp15 => Sys2Proof.Machine.execJnzTBrn a n disp15 s
  | .jzTBrn a n disp15 => Sys2Proof.Machine.execJzTBrn a n disp15 s
  | .ldAAbs a off18 => Sys2Proof.Machine.execLdAAbs a off18 s
  | .ldBuAbs a off18 => Sys2Proof.Machine.execLdBuAbs a off18 s
  | .ldBAbs a off18 => Sys2Proof.Machine.execLdBAbs a off18 s
  | .ldDaAbs a off18 => Sys2Proof.Machine.execLdDaAbs a off18 s
  | .ldDAbs a off18 => Sys2Proof.Machine.execLdDAbs a off18 s
  | .ldHuAbs a off18 => Sys2Proof.Machine.execLdHuAbs a off18 s
  | .ldHAbs a off18 => Sys2Proof.Machine.execLdHAbs a off18 s
  | .ldQAbs a off18 => Sys2Proof.Machine.execLdQAbs a off18 s
  | .ldWAbs a off18 => Sys2Proof.Machine.execLdWAbs a off18 s
  | .ldlcxAbs off18 => Sys2Proof.Machine.execLdlcxAbs off18 s
  | .ldmstAbs a off18 => Sys2Proof.Machine.execLdmstAbs a off18 s
  | .lducxAbs off18 => Sys2Proof.Machine.execLducxAbs off18 s
  | .leaAbs a off18 => Sys2Proof.Machine.execLeaAbs a off18 s
  | .stAAbs a off18 => Sys2Proof.Machine.execStAAbs a off18 s
  | .stBAbs a off18 => Sys2Proof.Machine.execStBAbs a off18 s
  | .stDaAbs a off18 => Sys2Proof.Machine.execStDaAbs a off18 s
  | .stDAbs a off18 => Sys2Proof.Machine.execStDAbs a off18 s
  | .stHAbs a off18 => Sys2Proof.Machine.execStHAbs a off18 s
  | .stQAbs a off18 => Sys2Proof.Machine.execStQAbs a off18 s
  | .stWAbs a off18 => Sys2Proof.Machine.execStWAbs a off18 s
  | .stlcxAbs off18 => Sys2Proof.Machine.execStlcxAbs off18 s
  | .stucxAbs off18 => Sys2Proof.Machine.execStucxAbs off18 s
  | .swapAAbs a off18 => Sys2Proof.Machine.execSwapAAbs a off18 s
  | .swapWAbs a off18 => Sys2Proof.Machine.execSwapWAbs a off18 s
  | .stTAbsb off18 bpos3 b => Sys2Proof.Machine.execStTAbsb off18 bpos3 b s
  | .callaB disp24 => Sys2Proof.Machine.execCallaB disp24 s
  | .callB disp24 => Sys2Proof.Machine.execCallB disp24 s
  | .jaB disp24 => Sys2Proof.Machine.execJaB disp24 s
  | .jlaB disp24 => Sys2Proof.Machine.execJlaB disp24 s
  | .jlB disp24 => Sys2Proof.Machine.execJlB disp24 s
  | .jB disp24 => Sys2Proof.Machine.execJB disp24 s
  | .andAndTBit c a p1 b p2 => Sys2Proof.Machine.execAndAndTBit c a p1 b p2 s
  | .andAndnTBit c a p1 b p2 => Sys2Proof.Machine.execAndAndnTBit c a p1 b p2 s
  | .andNorTBit c a p1 b p2 => Sys2Proof.Machine.execAndNorTBit c a p1 b p2 s
  | .andOrTBit c a p1 b p2 => Sys2Proof.Machine.execAndOrTBit c a p1 b p2 s
  | .andTBit c a p1 b p2 => Sys2Proof.Machine.execAndTBit c a p1 b p2 s
  | .andnTBit c a p1 b p2 => Sys2Proof.Machine.execAndnTBit c a p1 b p2 s
  | .insTBit c a p1 b p2 => Sys2Proof.Machine.execInsTBit c a p1 b p2 s
  | .insnTBit c a p1 b p2 => Sys2Proof.Machine.execInsnTBit c a p1 b p2 s
  | .nandTBit c a p1 b p2 => Sys2Proof.Machine.execNandTBit c a p1 b p2 s
  | .norTBit c a p1 b p2 => Sys2Proof.Machine.execNorTBit c a p1 b p2 s
  | .orAndTBit c a p1 b p2 => Sys2Proof.Machine.execOrAndTBit c a p1 b p2 s
  | .orAndnTBit c a p1 b p2 => Sys2Proof.Machine.execOrAndnTBit c a p1 b p2 s
  | .orNorTBit c a p1 b p2 => Sys2Proof.Machine.execOrNorTBit c a p1 b p2 s
  | .orOrTBit c a p1 b p2 => Sys2Proof.Machine.execOrOrTBit c a p1 b p2 s
  | .orTBit c a p1 b p2 => Sys2Proof.Machine.execOrTBit c a p1 b p2 s
  | .ornTBit c a p1 b p2 => Sys2Proof.Machine.execOrnTBit c a p1 b p2 s
  | .shAndTBit c a p1 b p2 => Sys2Proof.Machine.execShAndTBit c a p1 b p2 s
  | .shAndnTBit c a p1 b p2 => Sys2Proof.Machine.execShAndnTBit c a p1 b p2 s
  | .shNandTBit c a p1 b p2 => Sys2Proof.Machine.execShNandTBit c a p1 b p2 s
  | .shNorTBit c a p1 b p2 => Sys2Proof.Machine.execShNorTBit c a p1 b p2 s
  | .shOrTBit c a p1 b p2 => Sys2Proof.Machine.execShOrTBit c a p1 b p2 s
  | .shOrnTBit c a p1 b p2 => Sys2Proof.Machine.execShOrnTBit c a p1 b p2 s
  | .shXnorTBit c a p1 b p2 => Sys2Proof.Machine.execShXnorTBit c a p1 b p2 s
  | .shXorTBit c a p1 b p2 => Sys2Proof.Machine.execShXorTBit c a p1 b p2 s
  | .xnorTBit c a p1 b p2 => Sys2Proof.Machine.execXnorTBit c a p1 b p2 s
  | .xorTBit c a p1 b p2 => Sys2Proof.Machine.execXorTBit c a p1 b p2 s
  | .ldABoShort a b off10 => Sys2Proof.Machine.execLdABoShort a b off10 s
  | .ldABoPreinc a b off10 => Sys2Proof.Machine.execLdABoPreinc a b off10 s
  | .ldABoPostinc a b off10 => Sys2Proof.Machine.execLdABoPostinc a b off10 s
  | .ldABoCirc a b off10 => Sys2Proof.Machine.execLdABoCirc a b off10 s
  | .ldABoBrev a b => Sys2Proof.Machine.execLdABoBrev a b s
  | .ldBBoShort a b off10 => Sys2Proof.Machine.execLdBBoShort a b off10 s
  | .ldBBoPreinc a b off10 => Sys2Proof.Machine.execLdBBoPreinc a b off10 s
  | .ldBBoPostinc a b off10 => Sys2Proof.Machine.execLdBBoPostinc a b off10 s
  | .ldBBoCirc a b off10 => Sys2Proof.Machine.execLdBBoCirc a b off10 s
  | .ldBBoBrev a b => Sys2Proof.Machine.execLdBBoBrev a b s
  | .ldBuBoShort a b off10 => Sys2Proof.Machine.execLdBuBoShort a b off10 s
  | .ldBuBoPreinc a b off10 => Sys2Proof.Machine.execLdBuBoPreinc a b off10 s
  | .ldBuBoPostinc a b off10 => Sys2Proof.Machine.execLdBuBoPostinc a b off10 s
  | .ldBuBoCirc a b off10 => Sys2Proof.Machine.execLdBuBoCirc a b off10 s
  | .ldBuBoBrev a b => Sys2Proof.Machine.execLdBuBoBrev a b s
  | .ldDBoShort a b off10 => Sys2Proof.Machine.execLdDBoShort a b off10 s
  | .ldDBoPreinc a b off10 => Sys2Proof.Machine.execLdDBoPreinc a b off10 s
  | .ldDBoPostinc a b off10 => Sys2Proof.Machine.execLdDBoPostinc a b off10 s
  | .ldDBoCirc a b off10 => Sys2Proof.Machine.execLdDBoCirc a b off10 s
  | .ldDBoBrev a b => Sys2Proof.Machine.execLdDBoBrev a b s
  | .ldDaBoShort a b off10 => Sys2Proof.Machine.execLdDaBoShort a b off10 s
  | .ldDaBoPreinc a b off10 => Sys2Proof.Machine.execLdDaBoPreinc a b off10 s
  | .ldDaBoPostinc a b off10 => Sys2Proof.Machine.execLdDaBoPostinc a b off10 s
  | .ldDaBoCirc a b off10 => Sys2Proof.Machine.execLdDaBoCirc a b off10 s
  | .ldDaBoBrev a b => Sys2Proof.Machine.execLdDaBoBrev a b s
  | .ldHBoShort a b off10 => Sys2Proof.Machine.execLdHBoShort a b off10 s
  | .ldHBoPreinc a b off10 => Sys2Proof.Machine.execLdHBoPreinc a b off10 s
  | .ldHBoPostinc a b off10 => Sys2Proof.Machine.execLdHBoPostinc a b off10 s
  | .ldHBoCirc a b off10 => Sys2Proof.Machine.execLdHBoCirc a b off10 s
  | .ldHBoBrev a b => Sys2Proof.Machine.execLdHBoBrev a b s
  | .ldHuBoShort a b off10 => Sys2Proof.Machine.execLdHuBoShort a b off10 s
  | .ldHuBoPreinc a b off10 => Sys2Proof.Machine.execLdHuBoPreinc a b off10 s
  | .ldHuBoPostinc a b off10 => Sys2Proof.Machine.execLdHuBoPostinc a b off10 s
  | .ldHuBoCirc a b off10 => Sys2Proof.Machine.execLdHuBoCirc a b off10 s
  | .ldHuBoBrev a b => Sys2Proof.Machine.execLdHuBoBrev a b s
  | .ldQBoShort a b off10 => Sys2Proof.Machine.execLdQBoShort a b off10 s
  | .ldQBoPreinc a b off10 => Sys2Proof.Machine.execLdQBoPreinc a b off10 s
  | .ldQBoPostinc a b off10 => Sys2Proof.Machine.execLdQBoPostinc a b off10 s
  | .ldQBoCirc a b off10 => Sys2Proof.Machine.execLdQBoCirc a b off10 s
  | .ldQBoBrev a b => Sys2Proof.Machine.execLdQBoBrev a b s
  | .ldWBoShort a b off10 => Sys2Proof.Machine.execLdWBoShort a b off10 s
  | .ldWBoPreinc a b off10 => Sys2Proof.Machine.execLdWBoPreinc a b off10 s
  | .ldWBoPostinc a b off10 => Sys2Proof.Machine.execLdWBoPostinc a b off10 s
  | .ldWBoCirc a b off10 => Sys2Proof.Machine.execLdWBoCirc a b off10 s
  | .ldWBoBrev a b => Sys2Proof.Machine.execLdWBoBrev a b s
  | .ldlcxBoShort b off10 => Sys2Proof.Machine.execLdlcxBoShort b off10 s
  | .ldmstBoShort a b off10 => Sys2Proof.Machine.execLdmstBoShort a b off10 s
  | .ldmstBoPreinc a b off10 => Sys2Proof.Machine.execLdmstBoPreinc a b off10 s
  | .ldmstBoPostinc a b off10 => Sys2Proof.Machine.execLdmstBoPostinc a b off10 s
  | .ldmstBoCirc a b off10 => Sys2Proof.Machine.execLdmstBoCirc a b off10 s
  | .ldmstBoBrev a b => Sys2Proof.Machine.execLdmstBoBrev a b s
  | .lducxBoShort b off10 => Sys2Proof.Machine.execLducxBoShort b off10 s
  | .leaBoShort a b off10 => Sys2Proof.Machine.execLeaBoShort a b off10 s
  | .leaBoPreinc a b off10 => Sys2Proof.Machine.execLeaBoPreinc a b off10 s
  | .leaBoPostinc a b off10 => Sys2Proof.Machine.execLeaBoPostinc a b off10 s
  | .leaBoCirc a b off10 => Sys2Proof.Machine.execLeaBoCirc a b off10 s
  | .leaBoBrev a b => Sys2Proof.Machine.execLeaBoBrev a b s
  | .stABoShort a b off10 => Sys2Proof.Machine.execStABoShort a b off10 s
  | .stABoPreinc a b off10 => Sys2Proof.Machine.execStABoPreinc a b off10 s
  | .stABoPostinc a b off10 => Sys2Proof.Machine.execStABoPostinc a b off10 s
  | .stABoCirc a b off10 => Sys2Proof.Machine.execStABoCirc a b off10 s
  | .stABoBrev a b => Sys2Proof.Machine.execStABoBrev a b s
  | .stBBoShort a b off10 => Sys2Proof.Machine.execStBBoShort a b off10 s
  | .stBBoPreinc a b off10 => Sys2Proof.Machine.execStBBoPreinc a b off10 s
  | .stBBoPostinc a b off10 => Sys2Proof.Machine.execStBBoPostinc a b off10 s
  | .stBBoCirc a b off10 => Sys2Proof.Machine.execStBBoCirc a b off10 s
  | .stBBoBrev a b => Sys2Proof.Machine.execStBBoBrev a b s
  | .stDBoShort a b off10 => Sys2Proof.Machine.execStDBoShort a b off10 s
  | .stDBoPreinc a b off10 => Sys2Proof.Machine.execStDBoPreinc a b off10 s
  | .stDBoPostinc a b off10 => Sys2Proof.Machine.execStDBoPostinc a b off10 s
  | .stDBoCirc a b off10 => Sys2Proof.Machine.execStDBoCirc a b off10 s
  | .stDBoBrev a b => Sys2Proof.Machine.execStDBoBrev a b s
  | .stDaBoShort a b off10 => Sys2Proof.Machine.execStDaBoShort a b off10 s
  | .stDaBoPreinc a b off10 => Sys2Proof.Machine.execStDaBoPreinc a b off10 s
  | .stDaBoPostinc a b off10 => Sys2Proof.Machine.execStDaBoPostinc a b off10 s
  | .stDaBoCirc a b off10 => Sys2Proof.Machine.execStDaBoCirc a b off10 s
  | .stDaBoBrev a b => Sys2Proof.Machine.execStDaBoBrev a b s
  | .stHBoShort a b off10 => Sys2Proof.Machine.execStHBoShort a b off10 s
  | .stHBoPreinc a b off10 => Sys2Proof.Machine.execStHBoPreinc a b off10 s
  | .stHBoPostinc a b off10 => Sys2Proof.Machine.execStHBoPostinc a b off10 s
  | .stHBoCirc a b off10 => Sys2Proof.Machine.execStHBoCirc a b off10 s
  | .stHBoBrev a b => Sys2Proof.Machine.execStHBoBrev a b s
  | .stQBoShort a b off10 => Sys2Proof.Machine.execStQBoShort a b off10 s
  | .stQBoPreinc a b off10 => Sys2Proof.Machine.execStQBoPreinc a b off10 s
  | .stQBoPostinc a b off10 => Sys2Proof.Machine.execStQBoPostinc a b off10 s
  | .stQBoCirc a b off10 => Sys2Proof.Machine.execStQBoCirc a b off10 s
  | .stQBoBrev a b => Sys2Proof.Machine.execStQBoBrev a b s
  | .stWBoShort a b off10 => Sys2Proof.Machine.execStWBoShort a b off10 s
  | .stWBoPreinc a b off10 => Sys2Proof.Machine.execStWBoPreinc a b off10 s
  | .stWBoPostinc a b off10 => Sys2Proof.Machine.execStWBoPostinc a b off10 s
  | .stWBoCirc a b off10 => Sys2Proof.Machine.execStWBoCirc a b off10 s
  | .stWBoBrev a b => Sys2Proof.Machine.execStWBoBrev a b s
  | .stlcxBoShort b off10 => Sys2Proof.Machine.execStlcxBoShort b off10 s
  | .stucxBoShort b off10 => Sys2Proof.Machine.execStucxBoShort b off10 s
  | .swapABoShort a b off10 => Sys2Proof.Machine.execSwapABoShort a b off10 s
  | .swapABoPreinc a b off10 => Sys2Proof.Machine.execSwapABoPreinc a b off10 s
  | .swapABoPostinc a b off10 => Sys2Proof.Machine.execSwapABoPostinc a b off10 s
  | .swapABoCirc a b off10 => Sys2Proof.Machine.execSwapABoCirc a b off10 s
  | .swapABoBrev a b => Sys2Proof.Machine.execSwapABoBrev a b s
  | .swapWBoShort a b off10 => Sys2Proof.Machine.execSwapWBoShort a b off10 s
  | .swapWBoPreinc a b off10 => Sys2Proof.Machine.execSwapWBoPreinc a b off10 s
  | .swapWBoPostinc a b off10 => Sys2Proof.Machine.execSwapWBoPostinc a b off10 s
  | .swapWBoCirc a b off10 => Sys2Proof.Machine.execSwapWBoCirc a b off10 s
  | .swapWBoBrev a b => Sys2Proof.Machine.execSwapWBoBrev a b s
  | .ldABol a b off16 => Sys2Proof.Machine.execLdABol a b off16 s
  | .ldWBol a b off16 => Sys2Proof.Machine.execLdWBol a b off16 s
  | .leaBol a b off16 => Sys2Proof.Machine.execLeaBol a b off16 s
  | .stWBol a b off16 => Sys2Proof.Machine.execStWBol a b off16 s
  | .jeqBrc a const4 disp15 => Sys2Proof.Machine.execJeqBrc a const4 disp15 s
  | .jgeUBrc a const4 disp15 => Sys2Proof.Machine.execJgeUBrc a const4 disp15 s
  | .jgeBrc a const4 disp15 => Sys2Proof.Machine.execJgeBrc a const4 disp15 s
  | .jltUBrc a const4 disp15 => Sys2Proof.Machine.execJltUBrc a const4 disp15 s
  | .jltBrc a const4 disp15 => Sys2Proof.Machine.execJltBrc a const4 disp15 s
  | .jnedBrc a const4 disp15 => Sys2Proof.Machine.execJnedBrc a const4 disp15 s
  | .jneiBrc a const4 disp15 => Sys2Proof.Machine.execJneiBrc a const4 disp15 s
  | .jneBrc a const4 disp15 => Sys2Proof.Machine.execJneBrc a const4 disp15 s
  | .jeqABrr a b disp15 => Sys2Proof.Machine.execJeqABrr a b disp15 s
  | .jeqBrr a b disp15 => Sys2Proof.Machine.execJeqBrr a b disp15 s
  | .jgeUBrr a b disp15 => Sys2Proof.Machine.execJgeUBrr a b disp15 s
  | .jgeBrr a b disp15 => Sys2Proof.Machine.execJgeBrr a b disp15 s
  | .jltUBrr a b disp15 => Sys2Proof.Machine.execJltUBrr a b disp15 s
  | .jltBrr a b disp15 => Sys2Proof.Machine.execJltBrr a b disp15 s
  | .jneABrr a b disp15 => Sys2Proof.Machine.execJneABrr a b disp15 s
  | .jnedBrr a b disp15 => Sys2Proof.Machine.execJnedBrr a b disp15 s
  | .jneiBrr a b disp15 => Sys2Proof.Machine.execJneiBrr a b disp15 s
  | .jneBrr a b disp15 => Sys2Proof.Machine.execJneBrr a b disp15 s
  | .jnzABrr a disp15 => Sys2Proof.Machine.execJnzABrr a disp15 s
  | .jzABrr a disp15 => Sys2Proof.Machine.execJzABrr a disp15 s
  | .loopBrr a disp15 => Sys2Proof.Machine.execLoopBrr a disp15 s
  | .absdifsRc c a const9 => Sys2Proof.Machine.execAbsdifsRc c a const9 s
  | .absdifRc c a const9 => Sys2Proof.Machine.execAbsdifRc c a const9 s
  | .addcRc c a const9 => Sys2Proof.Machine.execAddcRc c a const9 s
  | .addsURc c a const9 => Sys2Proof.Machine.execAddsURc c a const9 s
  | .addsRc c a const9 => Sys2Proof.Machine.execAddsRc c a const9 s
  | .addxRc c a const9 => Sys2Proof.Machine.execAddxRc c a const9 s
  | .addRc c a const9 => Sys2Proof.Machine.execAddRc c a const9 s
  | .andEqRc c a const9 => Sys2Proof.Machine.execAndEqRc c a const9 s
  | .andGeURc c a const9 => Sys2Proof.Machine.execAndGeURc c a const9 s
  | .andGeRc c a const9 => Sys2Proof.Machine.execAndGeRc c a const9 s
  | .andLtURc c a const9 => Sys2Proof.Machine.execAndLtURc c a const9 s
  | .andLtRc c a const9 => Sys2Proof.Machine.execAndLtRc c a const9 s
  | .andNeRc c a const9 => Sys2Proof.Machine.execAndNeRc c a const9 s
  | .andnRc c a const9 => Sys2Proof.Machine.execAndnRc c a const9 s
  | .andRc c a const9 => Sys2Proof.Machine.execAndRc c a const9 s
  | .bisrRc const9 => Sys2Proof.Machine.execBisrRc const9 s
  | .eqanyBRc c a const9 => Sys2Proof.Machine.execEqanyBRc c a const9 s
  | .eqanyHRc c a const9 => Sys2Proof.Machine.execEqanyHRc c a const9 s
  | .eqRc c a const9 => Sys2Proof.Machine.execEqRc c a const9 s
  | .geURc c a const9 => Sys2Proof.Machine.execGeURc c a const9 s
  | .geRc c a const9 => Sys2Proof.Machine.execGeRc c a const9 s
  | .ltURc c a const9 => Sys2Proof.Machine.execLtURc c a const9 s
  | .ltRc c a const9 => Sys2Proof.Machine.execLtRc c a const9 s
  | .maxURc c a const9 => Sys2Proof.Machine.execMaxURc c a const9 s
  | .maxRc c a const9 => Sys2Proof.Machine.execMaxRc c a const9 s
  | .minURc c a const9 => Sys2Proof.Machine.execMinURc c a const9 s
  | .minRc c a const9 => Sys2Proof.Machine.execMinRc c a const9 s
  | .mulmURc c a const9 => Sys2Proof.Machine.execMulmURc c a const9 s
  | .mulmRc c a const9 => Sys2Proof.Machine.execMulmRc c a const9 s
  | .mulsURc c a const9 => Sys2Proof.Machine.execMulsURc c a const9 s
  | .mulsRc c a const9 => Sys2Proof.Machine.execMulsRc c a const9 s
  | .mulRc c a const9 => Sys2Proof.Machine.execMulRc c a const9 s
  | .nandRc c a const9 => Sys2Proof.Machine.execNandRc c a const9 s
  | .neRc c a const9 => Sys2Proof.Machine.execNeRc c a const9 s
  | .norRc c a const9 => Sys2Proof.Machine.execNorRc c a const9 s
  | .orEqRc c a const9 => Sys2Proof.Machine.execOrEqRc c a const9 s
  | .orGeURc c a const9 => Sys2Proof.Machine.execOrGeURc c a const9 s
  | .orGeRc c a const9 => Sys2Proof.Machine.execOrGeRc c a const9 s
  | .orLtURc c a const9 => Sys2Proof.Machine.execOrLtURc c a const9 s
  | .orLtRc c a const9 => Sys2Proof.Machine.execOrLtRc c a const9 s
  | .orNeRc c a const9 => Sys2Proof.Machine.execOrNeRc c a const9 s
  | .ornRc c a const9 => Sys2Proof.Machine.execOrnRc c a const9 s
  | .orRc c a const9 => Sys2Proof.Machine.execOrRc c a const9 s
  | .rsubsURc c a const9 => Sys2Proof.Machine.execRsubsURc c a const9 s
  | .rsubsRc c a const9 => Sys2Proof.Machine.execRsubsRc c a const9 s
  | .rsubRc c a const9 => Sys2Proof.Machine.execRsubRc c a const9 s
  | .shBRc c a const9 => Sys2Proof.Machine.execShBRc c a const9 s
  | .shEqRc c a const9 => Sys2Proof.Machine.execShEqRc c a const9 s
  | .shGeURc c a const9 => Sys2Proof.Machine.execShGeURc c a const9 s
  | .shGeRc c a const9 => Sys2Proof.Machine.execShGeRc c a const9 s
  | .shHRc c a const9 => Sys2Proof.Machine.execShHRc c a const9 s
  | .shLtURc c a const9 => Sys2Proof.Machine.execShLtURc c a const9 s
  | .shLtRc c a const9 => Sys2Proof.Machine.execShLtRc c a const9 s
  | .shNeRc c a const9 => Sys2Proof.Machine.execShNeRc c a const9 s
  | .shaBRc c a const9 => Sys2Proof.Machine.execShaBRc c a const9 s
  | .shaHRc c a const9 => Sys2Proof.Machine.execShaHRc c a const9 s
  | .shasRc c a const9 => Sys2Proof.Machine.execShasRc c a const9 s
  | .shaRc c a const9 => Sys2Proof.Machine.execShaRc c a const9 s
  | .shRc c a const9 => Sys2Proof.Machine.execShRc c a const9 s
  | .syscallRc const9 => Sys2Proof.Machine.execSyscallRc const9 s
  | .xnorRc c a const9 => Sys2Proof.Machine.execXnorRc c a const9 s
  | .xorEqRc c a const9 => Sys2Proof.Machine.execXorEqRc c a const9 s
  | .xorGeURc c a const9 => Sys2Proof.Machine.execXorGeURc c a const9 s
  | .xorGeRc c a const9 => Sys2Proof.Machine.execXorGeRc c a const9 s
  | .xorLtURc c a const9 => Sys2Proof.Machine.execXorLtURc c a const9 s
  | .xorLtRc c a const9 => Sys2Proof.Machine.execXorLtRc c a const9 s
  | .xorNeRc c a const9 => Sys2Proof.Machine.execXorNeRc c a const9 s
  | .xorRc c a const9 => Sys2Proof.Machine.execXorRc c a const9 s
  | .imaskRcpw c const4 p w => Sys2Proof.Machine.execImaskRcpw c const4 p w s
  | .insertRcpw c a const4 p w => Sys2Proof.Machine.execInsertRcpw c a const4 p w s
  | .caddARcr c d a const9 => Sys2Proof.Machine.execCaddARcr c d a const9 s
  | .caddnARcr c d a const9 => Sys2Proof.Machine.execCaddnARcr c d a const9 s
  | .caddnRcr c d a const9 => Sys2Proof.Machine.execCaddnRcr c d a const9 s
  | .caddRcr c d a const9 => Sys2Proof.Machine.execCaddRcr c d a const9 s
  | .maddmURcr c d a const9 => Sys2Proof.Machine.execMaddmURcr c d a const9 s
  | .maddmsURcr c d a const9 => Sys2Proof.Machine.execMaddmsURcr c d a const9 s
  | .maddmsRcr c d a const9 => Sys2Proof.Machine.execMaddmsRcr c d a const9 s
  | .maddmRcr c d a const9 => Sys2Proof.Machine.execMaddmRcr c d a const9 s
  | .maddsURcr c d a const9 => Sys2Proof.Machine.execMaddsURcr c d a const9 s
  | .maddsRcr c d a const9 => Sys2Proof.Machine.execMaddsRcr c d a const9 s
  | .maddRcr c d a const9 => Sys2Proof.Machine.execMaddRcr c d a const9 s
  | .msubmURcr c d a const9 => Sys2Proof.Machine.execMsubmURcr c d a const9 s
  | .msubmsURcr c d a const9 => Sys2Proof.Machine.execMsubmsURcr c d a const9 s
  | .msubmsRcr c d a const9 => Sys2Proof.Machine.execMsubmsRcr c d a const9 s
  | .msubmRcr c d a const9 => Sys2Proof.Machine.execMsubmRcr c d a const9 s
  | .msubsURcr c d a const9 => Sys2Proof.Machine.execMsubsURcr c d a const9 s
  | .msubsRcr c d a const9 => Sys2Proof.Machine.execMsubsRcr c d a const9 s
  | .msubRcr c d a const9 => Sys2Proof.Machine.execMsubRcr c d a const9 s
  | .selARcr c d a const9 => Sys2Proof.Machine.execSelARcr c d a const9 s
  | .selnARcr c d a const9 => Sys2Proof.Machine.execSelnARcr c d a const9 s
  | .selnRcr c d a const9 => Sys2Proof.Machine.execSelnRcr c d a const9 s
  | .selRcr c d a const9 => Sys2Proof.Machine.execSelRcr c d a const9 s
  | .insertRcrr c a const4 d => Sys2Proof.Machine.execInsertRcrr c a const4 d s
  | .imaskRcrw c const4 d w => Sys2Proof.Machine.execImaskRcrw c const4 d w s
  | .insertRcrw c a const4 d w => Sys2Proof.Machine.execInsertRcrw c a const4 d w s
  | .addihARlc c a const16 => Sys2Proof.Machine.execAddihARlc c a const16 s
  | .addihRlc c a const16 => Sys2Proof.Machine.execAddihRlc c a const16 s
  | .addiRlc c a const16 => Sys2Proof.Machine.execAddiRlc c a const16 s
  | .mfcrRlc c const16 => Sys2Proof.Machine.execMfcrRlc c const16 s
  | .movURlc c const16 => Sys2Proof.Machine.execMovURlc c const16 s
  | .movhARlc c const16 => Sys2Proof.Machine.execMovhARlc c const16 s
  | .movhRlc c const16 => Sys2Proof.Machine.execMovhRlc c const16 s
  | .movRlc c const16 => Sys2Proof.Machine.execMovRlc c const16 s
  | .mtcrRlc const16 a => Sys2Proof.Machine.execMtcrRlc const16 a s
  | .absBRr c a => Sys2Proof.Machine.execAbsBRr c a s
  | .absHRr c a => Sys2Proof.Machine.execAbsHRr c a s
  | .absdifBRr c a b => Sys2Proof.Machine.execAbsdifBRr c a b s
  | .absdifHRr c a b => Sys2Proof.Machine.execAbsdifHRr c a b s
  | .absdifsBRr c a b => Sys2Proof.Machine.execAbsdifsBRr c a b s
  | .absdifsHRr c a b => Sys2Proof.Machine.execAbsdifsHRr c a b s
  | .absdifsRr c a b => Sys2Proof.Machine.execAbsdifsRr c a b s
  | .absdifRr c a b => Sys2Proof.Machine.execAbsdifRr c a b s
  | .abssBRr c a => Sys2Proof.Machine.execAbssBRr c a s
  | .abssHRr c a => Sys2Proof.Machine.execAbssHRr c a s
  | .abssRr c a => Sys2Proof.Machine.execAbssRr c a s
  | .absRr c a => Sys2Proof.Machine.execAbsRr c a s
  | .addARr c a b => Sys2Proof.Machine.execAddARr c a b s
  | .addBRr c a b => Sys2Proof.Machine.execAddBRr c a b s
  | .addHRr c a b => Sys2Proof.Machine.execAddHRr c a b s
  | .addcRr c a b => Sys2Proof.Machine.execAddcRr c a b s
  | .addsBuRr c a b => Sys2Proof.Machine.execAddsBuRr c a b s
  | .addsBRr c a b => Sys2Proof.Machine.execAddsBRr c a b s
  | .addsHuRr c a b => Sys2Proof.Machine.execAddsHuRr c a b s
  | .addsHRr c a b => Sys2Proof.Machine.execAddsHRr c a b s
  | .addsURr c a b => Sys2Proof.Machine.execAddsURr c a b s
  | .addscAtRr c a b => Sys2Proof.Machine.execAddscAtRr c a b s
  | .addscARr c a b n => Sys2Proof.Machine.execAddscARr c a b n s
  | .addsRr c a b => Sys2Proof.Machine.execAddsRr c a b s
  | .addxRr c a b => Sys2Proof.Machine.execAddxRr c a b s
  | .addRr c a b => Sys2Proof.Machine.execAddRr c a b s
  | .andEqRr c a b => Sys2Proof.Machine.execAndEqRr c a b s
  | .andGeURr c a b => Sys2Proof.Machine.execAndGeURr c a b s
  | .andGeRr c a b => Sys2Proof.Machine.execAndGeRr c a b s
  | .andLtURr c a b => Sys2Proof.Machine.execAndLtURr c a b s
  | .andLtRr c a b => Sys2Proof.Machine.execAndLtRr c a b s
  | .andNeRr c a b => Sys2Proof.Machine.execAndNeRr c a b s
  | .andnRr c a b => Sys2Proof.Machine.execAndnRr c a b s
  | .andRr c a b => Sys2Proof.Machine.execAndRr c a b s
  | .calliRr b => Sys2Proof.Machine.execCalliRr b s
  | .cloBRr c a => Sys2Proof.Machine.execCloBRr c a s
  | .cloHRr c a => Sys2Proof.Machine.execCloHRr c a s
  | .cloRr c a => Sys2Proof.Machine.execCloRr c a s
  | .clsBRr c a => Sys2Proof.Machine.execClsBRr c a s
  | .clsHRr c a => Sys2Proof.Machine.execClsHRr c a s
  | .clsRr c a => Sys2Proof.Machine.execClsRr c a s
  | .clzBRr c a => Sys2Proof.Machine.execClzBRr c a s
  | .clzHRr c a => Sys2Proof.Machine.execClzHRr c a s
  | .clzRr c a => Sys2Proof.Machine.execClzRr c a s
  | .difscARr c a b n => Sys2Proof.Machine.execDifscARr c a b n s
  | .dvinitBuRr c a b => Sys2Proof.Machine.execDvinitBuRr c a b s
  | .dvinitBRr c a b => Sys2Proof.Machine.execDvinitBRr c a b s
  | .dvinitHuRr c a b => Sys2Proof.Machine.execDvinitHuRr c a b s
  | .dvinitHRr c a b => Sys2Proof.Machine.execDvinitHRr c a b s
  | .dvinitURr c a b => Sys2Proof.Machine.execDvinitURr c a b s
  | .dvinitRr c a b => Sys2Proof.Machine.execDvinitRr c a b s
  | .eqARr c a b => Sys2Proof.Machine.execEqARr c a b s
  | .eqBRr c a b => Sys2Proof.Machine.execEqBRr c a b s
  | .eqHRr c a b => Sys2Proof.Machine.execEqHRr c a b s
  | .eqWRr c a b => Sys2Proof.Machine.execEqWRr c a b s
  | .eqanyBRr c a b => Sys2Proof.Machine.execEqanyBRr c a b s
  | .eqanyHRr c a b => Sys2Proof.Machine.execEqanyHRr c a b s
  | .eqzARr c a => Sys2Proof.Machine.execEqzARr c a s
  | .eqRr c a b => Sys2Proof.Machine.execEqRr c a b s
  | .geARr c a b => Sys2Proof.Machine.execGeARr c a b s
  | .geURr c a b => Sys2Proof.Machine.execGeURr c a b s
  | .geRr c a b => Sys2Proof.Machine.execGeRr c a b s
  | .jiRr b => Sys2Proof.Machine.execJiRr b s
  | .jliRr b => Sys2Proof.Machine.execJliRr b s
  | .ltARr c a b => Sys2Proof.Machine.execLtARr c a b s
  | .ltBuRr c a b => Sys2Proof.Machine.execLtBuRr c a b s
  | .ltBRr c a b => Sys2Proof.Machine.execLtBRr c a b s
  | .ltHuRr c a b => Sys2Proof.Machine.execLtHuRr c a b s
  | .ltHRr c a b => Sys2Proof.Machine.execLtHRr c a b s
  | .ltURr c a b => Sys2Proof.Machine.execLtURr c a b s
  | .ltWuRr c a b => Sys2Proof.Machine.execLtWuRr c a b s
  | .ltWRr c a b => Sys2Proof.Machine.execLtWRr c a b s
  | .ltRr c a b => Sys2Proof.Machine.execLtRr c a b s
  | .maxBuRr c a b => Sys2Proof.Machine.execMaxBuRr c a b s
  | .maxBRr c a b => Sys2Proof.Machine.execMaxBRr c a b s
  | .maxHuRr c a b => Sys2Proof.Machine.execMaxHuRr c a b s
  | .maxHRr c a b => Sys2Proof.Machine.execMaxHRr c a b s
  | .maxURr c a b => Sys2Proof.Machine.execMaxURr c a b s
  | .maxRr c a b => Sys2Proof.Machine.execMaxRr c a b s
  | .minBuRr c a b => Sys2Proof.Machine.execMinBuRr c a b s
  | .minBRr c a b => Sys2Proof.Machine.execMinBRr c a b s
  | .minHuRr c a b => Sys2Proof.Machine.execMinHuRr c a b s
  | .minHRr c a b => Sys2Proof.Machine.execMinHRr c a b s
  | .minURr c a b => Sys2Proof.Machine.execMinURr c a b s
  | .minRr c a b => Sys2Proof.Machine.execMinRr c a b s
  | .movAaRr c b => Sys2Proof.Machine.execMovAaRr c b s
  | .movARr c b => Sys2Proof.Machine.execMovARr c b s
  | .movDRr c b => Sys2Proof.Machine.execMovDRr c b s
  | .movRr c b => Sys2Proof.Machine.execMovRr c b s
  | .mulHRr c a b n => Sys2Proof.Machine.execMulHRr c a b n s
  | .mulQRr c a b n => Sys2Proof.Machine.execMulQRr c a b n s
  | .mulmURr c a b => Sys2Proof.Machine.execMulmURr c a b s
  | .mulmRr c a b => Sys2Proof.Machine.execMulmRr c a b s
  | .mulrHRr c a b n => Sys2Proof.Machine.execMulrHRr c a b n s
  | .mulrQRr c a b n => Sys2Proof.Machine.execMulrQRr c a b n s
  | .mulsURr c a b => Sys2Proof.Machine.execMulsURr c a b s
  | .mulsRr c a b => Sys2Proof.Machine.execMulsRr c a b s
  | .mulRr c a b => Sys2Proof.Machine.execMulRr c a b s
  | .nandRr c a b => Sys2Proof.Machine.execNandRr c a b s
  | .neARr c a b => Sys2Proof.Machine.execNeARr c a b s
  | .nezARr c a => Sys2Proof.Machine.execNezARr c a s
  | .neRr c a b => Sys2Proof.Machine.execNeRr c a b s
  | .norRr c a b => Sys2Proof.Machine.execNorRr c a b s
  | .orEqRr c a b => Sys2Proof.Machine.execOrEqRr c a b s
  | .orGeURr c a b => Sys2Proof.Machine.execOrGeURr c a b s
  | .orGeRr c a b => Sys2Proof.Machine.execOrGeRr c a b s
  | .orLtURr c a b => Sys2Proof.Machine.execOrLtURr c a b s
  | .orLtRr c a b => Sys2Proof.Machine.execOrLtRr c a b s
  | .orNeRr c a b => Sys2Proof.Machine.execOrNeRr c a b s
  | .ornRr c a b => Sys2Proof.Machine.execOrnRr c a b s
  | .orRr c a b => Sys2Proof.Machine.execOrRr c a b s
  | .satBuRr c a => Sys2Proof.Machine.execSatBuRr c a s
  | .satBRr c a => Sys2Proof.Machine.execSatBRr c a s
  | .satHuRr c a => Sys2Proof.Machine.execSatHuRr c a s
  | .satHRr c a => Sys2Proof.Machine.execSatHRr c a s
  | .shBRr c a b => Sys2Proof.Machine.execShBRr c a b s
  | .shEqRr c a b => Sys2Proof.Machine.execShEqRr c a b s
  | .shGeURr c a b => Sys2Proof.Machine.execShGeURr c a b s
  | .shGeRr c a b => Sys2Proof.Machine.execShGeRr c a b s
  | .shHRr c a b => Sys2Proof.Machine.execShHRr c a b s
  | .shLtURr c a b => Sys2Proof.Machine.execShLtURr c a b s
  | .shLtRr c a b => Sys2Proof.Machine.execShLtRr c a b s
  | .shNeRr c a b => Sys2Proof.Machine.execShNeRr c a b s
  | .shaBRr c a b => Sys2Proof.Machine.execShaBRr c a b s
  | .shaHRr c a b => Sys2Proof.Machine.execShaHRr c a b s
  | .shasRr c a b => Sys2Proof.Machine.execShasRr c a b s
  | .shaRr c a b => Sys2Proof.Machine.execShaRr c a b s
  | .shRr c a b => Sys2Proof.Machine.execShRr c a b s
  | .subARr c a b => Sys2Proof.Machine.execSubARr c a b s
  | .subBRr c a b => Sys2Proof.Machine.execSubBRr c a b s
  | .subHRr c a b => Sys2Proof.Machine.execSubHRr c a b s
  | .subcRr c a b => Sys2Proof.Machine.execSubcRr c a b s
  | .subsBuRr c a b => Sys2Proof.Machine.execSubsBuRr c a b s
  | .subsBRr c a b => Sys2Proof.Machine.execSubsBRr c a b s
  | .subsHuRr c a b => Sys2Proof.Machine.execSubsHuRr c a b s
  | .subsHRr c a b => Sys2Proof.Machine.execSubsHRr c a b s
  | .subsURr c a b => Sys2Proof.Machine.execSubsURr c a b s
  | .subscARr c a b n => Sys2Proof.Machine.execSubscARr c a b n s
  | .subsRr c a b => Sys2Proof.Machine.execSubsRr c a b s
  | .subxRr c a b => Sys2Proof.Machine.execSubxRr c a b s
  | .subRr c a b => Sys2Proof.Machine.execSubRr c a b s
  | .xnorRr c a b => Sys2Proof.Machine.execXnorRr c a b s
  | .xorEqRr c a b => Sys2Proof.Machine.execXorEqRr c a b s
  | .xorGeURr c a b => Sys2Proof.Machine.execXorGeURr c a b s
  | .xorGeRr c a b => Sys2Proof.Machine.execXorGeRr c a b s
  | .xorLtURr c a b => Sys2Proof.Machine.execXorLtURr c a b s
  | .xorLtRr c a b => Sys2Proof.Machine.execXorLtRr c a b s
  | .xorNeRr c a b => Sys2Proof.Machine.execXorNeRr c a b s
  | .xorRr c a b => Sys2Proof.Machine.execXorRr c a b s
  | .dextrRrpw c a b p => Sys2Proof.Machine.execDextrRrpw c a b p s
  | .extrURrpw c a p w => Sys2Proof.Machine.execExtrURrpw c a p w s
  | .extrRrpw c a p w => Sys2Proof.Machine.execExtrRrpw c a p w s
  | .imaskRrpw c b p w => Sys2Proof.Machine.execImaskRrpw c b p w s
  | .insertRrpw c a b p w => Sys2Proof.Machine.execInsertRrpw c a b p w s
  | .caddARrr c d a b => Sys2Proof.Machine.execCaddARrr c d a b s
  | .caddnARrr c d a b => Sys2Proof.Machine.execCaddnARrr c d a b s
  | .caddnRrr c d a b => Sys2Proof.Machine.execCaddnRrr c d a b s
  | .caddRrr c d a b => Sys2Proof.Machine.execCaddRrr c d a b s
  | .csubARrr c d a b => Sys2Proof.Machine.execCsubARrr c d a b s
  | .csubnARrr c d a b => Sys2Proof.Machine.execCsubnARrr c d a b s
  | .csubnRrr c d a b => Sys2Proof.Machine.execCsubnRrr c d a b s
  | .csubRrr c d a b => Sys2Proof.Machine.execCsubRrr c d a b s
  | .dvadjRrr c d b => Sys2Proof.Machine.execDvadjRrr c d b s
  | .dvstepURrr c d b => Sys2Proof.Machine.execDvstepURrr c d b s
  | .dvstepRrr c d b => Sys2Proof.Machine.execDvstepRrr c d b s
  | .maddHRrr c d a b n => Sys2Proof.Machine.execMaddHRrr c d a b n s
  | .maddQRrr c d a b n => Sys2Proof.Machine.execMaddQRrr c d a b n s
  | .maddmHRrr c d a b => Sys2Proof.Machine.execMaddmHRrr c d a b s
  | .maddmQRrr c d a b => Sys2Proof.Machine.execMaddmQRrr c d a b s
  | .maddmURrr c d a b => Sys2Proof.Machine.execMaddmURrr c d a b s
  | .maddmsURrr c d a b => Sys2Proof.Machine.execMaddmsURrr c d a b s
  | .maddmsRrr c d a b => Sys2Proof.Machine.execMaddmsRrr c d a b s
  | .maddmRrr c d a b => Sys2Proof.Machine.execMaddmRrr c d a b s
  | .maddrHRrr c d a b n => Sys2Proof.Machine.execMaddrHRrr c d a b n s
  | .maddrQRrr c d a b n => Sys2Proof.Machine.execMaddrQRrr c d a b n s
  | .maddrsHRrr c d a b n => Sys2Proof.Machine.execMaddrsHRrr c d a b n s
  | .maddrsQRrr c d a b n => Sys2Proof.Machine.execMaddrsQRrr c d a b n s
  | .maddsHRrr c d a b n => Sys2Proof.Machine.execMaddsHRrr c d a b n s
  | .maddsQRrr c d a b n => Sys2Proof.Machine.execMaddsQRrr c d a b n s
  | .maddsURrr c d a b => Sys2Proof.Machine.execMaddsURrr c d a b s
  | .maddsRrr c d a b => Sys2Proof.Machine.execMaddsRrr c d a b s
  | .maddRrr c d a b => Sys2Proof.Machine.execMaddRrr c d a b s
  | .msubHRrr c d a b n => Sys2Proof.Machine.execMsubHRrr c d a b n s
  | .msubQRrr c d a b n => Sys2Proof.Machine.execMsubQRrr c d a b n s
  | .msubmHRrr c d a b => Sys2Proof.Machine.execMsubmHRrr c d a b s
  | .msubmQRrr c d a b => Sys2Proof.Machine.execMsubmQRrr c d a b s
  | .msubmURrr c d a b => Sys2Proof.Machine.execMsubmURrr c d a b s
  | .msubmsURrr c d a b => Sys2Proof.Machine.execMsubmsURrr c d a b s
  | .msubmsRrr c d a b => Sys2Proof.Machine.execMsubmsRrr c d a b s
  | .msubmRrr c d a b => Sys2Proof.Machine.execMsubmRrr c d a b s
  | .msubrHRrr c d a b n => Sys2Proof.Machine.execMsubrHRrr c d a b n s
  | .msubrQRrr c d a b n => Sys2Proof.Machine.execMsubrQRrr c d a b n s
  | .msubrsHRrr c d a b n => Sys2Proof.Machine.execMsubrsHRrr c d a b n s
  | .msubrsQRrr c d a b n => Sys2Proof.Machine.execMsubrsQRrr c d a b n s
  | .msubsHRrr c d a b n => Sys2Proof.Machine.execMsubsHRrr c d a b n s
  | .msubsQRrr c d a b n => Sys2Proof.Machine.execMsubsQRrr c d a b n s
  | .msubsURrr c d a b => Sys2Proof.Machine.execMsubsURrr c d a b s
  | .msubsRrr c d a b => Sys2Proof.Machine.execMsubsRrr c d a b s
  | .msubRrr c d a b => Sys2Proof.Machine.execMsubRrr c d a b s
  | .selARrr c d a b => Sys2Proof.Machine.execSelARrr c d a b s
  | .selnARrr c d a b => Sys2Proof.Machine.execSelnARrr c d a b s
  | .selnRrr c d a b => Sys2Proof.Machine.execSelnRrr c d a b s
  | .selRrr c d a b => Sys2Proof.Machine.execSelRrr c d a b s
  | .dextrRrrr c a b d => Sys2Proof.Machine.execDextrRrrr c a b d s
  | .extrURrrr c a d => Sys2Proof.Machine.execExtrURrrr c a d s
  | .extrRrrr c a d => Sys2Proof.Machine.execExtrRrrr c a d s
  | .insertRrrr c a b d => Sys2Proof.Machine.execInsertRrrr c a b d s
  | .extrURrrw c a d w => Sys2Proof.Machine.execExtrURrrw c a d w s
  | .extrRrrw c a d w => Sys2Proof.Machine.execExtrRrrw c a d w s
  | .imaskRrrw c b d w => Sys2Proof.Machine.execImaskRrrw c b d w s
  | .insertRrrw c a b d w => Sys2Proof.Machine.execInsertRrrw c a b d w s
  | .debugSys => Sys2Proof.Machine.execDebugSys s
  | .disableSys => Sys2Proof.Machine.execDisableSys s
  | .dsyncSys => Sys2Proof.Machine.execDsyncSys s
  | .enableSys => Sys2Proof.Machine.execEnableSys s
  | .isyncSys => Sys2Proof.Machine.execIsyncSys s
  | .nopSys => Sys2Proof.Machine.execNopSys s
  | .retSys => Sys2Proof.Machine.execRetSys s
  | .rfeSys => Sys2Proof.Machine.execRfeSys s
  | .rslcxSys => Sys2Proof.Machine.execRslcxSys s
  | .rstvSys => Sys2Proof.Machine.execRstvSys s
  | .svlcxSys => Sys2Proof.Machine.execSvlcxSys s
  | .trapsvSys => Sys2Proof.Machine.execTrapsvSys s
  | .trapvSys => Sys2Proof.Machine.execTrapvSys s
  | .addscASrrs a b n => Sys2Proof.Machine.execAddscASrrs a b n s
  | .jnzTSbrn n disp4 => Sys2Proof.Machine.execJnzTSbrn n disp4 s
  | .jzTSbrn n disp4 => Sys2Proof.Machine.execJzTSbrn n disp4 s
  | .jnzSb disp8 => Sys2Proof.Machine.execJnzSb disp8 s
  | .jzSb disp8 => Sys2Proof.Machine.execJzSb disp8 s
  | .jSb disp8 => Sys2Proof.Machine.execJSb disp8 s
  | .jeqSbc const4 disp4 => Sys2Proof.Machine.execJeqSbc const4 disp4 s
  | .jneSbc const4 disp4 => Sys2Proof.Machine.execJneSbc const4 disp4 s
  | .jeqSbr b disp4 => Sys2Proof.Machine.execJeqSbr b disp4 s
  | .jgezSbr b disp4 => Sys2Proof.Machine.execJgezSbr b disp4 s
  | .jgtzSbr b disp4 => Sys2Proof.Machine.execJgtzSbr b disp4 s
  | .jiSbr b => Sys2Proof.Machine.execJiSbr b s
  | .jlezSbr b disp4 => Sys2Proof.Machine.execJlezSbr b disp4 s
  | .jltzSbr b disp4 => Sys2Proof.Machine.execJltzSbr b disp4 s
  | .jneSbr b disp4 => Sys2Proof.Machine.execJneSbr b disp4 s
  | .jnzASbr b disp4 => Sys2Proof.Machine.execJnzASbr b disp4 s
  | .jnzSbr b disp4 => Sys2Proof.Machine.execJnzSbr b disp4 s
  | .jzASbr b disp4 => Sys2Proof.Machine.execJzASbr b disp4 s
  | .jzSbr b disp4 => Sys2Proof.Machine.execJzSbr b disp4 s
  | .loopSbr b disp4 => Sys2Proof.Machine.execLoopSbr b disp4 s
  | .andSc const8 => Sys2Proof.Machine.execAndSc const8 s
  | .bisrSc const8 => Sys2Proof.Machine.execBisrSc const8 s
  | .movSc const8 => Sys2Proof.Machine.execMovSc const8 s
  | .orSc const8 => Sys2Proof.Machine.execOrSc const8 s
  | .subASc const8 => Sys2Proof.Machine.execSubASc const8 s
  | .ldASlr a b => Sys2Proof.Machine.execLdASlr a b s
  | .ldASlrPostinc a b => Sys2Proof.Machine.execLdASlrPostinc a b s
  | .ldBuSlr a b => Sys2Proof.Machine.execLdBuSlr a b s
  | .ldBuSlrPostinc a b => Sys2Proof.Machine.execLdBuSlrPostinc a b s
  | .ldBSlr a b => Sys2Proof.Machine.execLdBSlr a b s
  | .ldBSlrPostinc a b => Sys2Proof.Machine.execLdBSlrPostinc a b s
  | .ldHSlr a b => Sys2Proof.Machine.execLdHSlr a b s
  | .ldHSlrPostinc a b => Sys2Proof.Machine.execLdHSlrPostinc a b s
  | .ldWSlr a b => Sys2Proof.Machine.execLdWSlr a b s
  | .ldWSlrPostinc a b => Sys2Proof.Machine.execLdWSlrPostinc a b s
  | .ldASlro a off4 => Sys2Proof.Machine.execLdASlro a off4 s
  | .ldBuSlro a off4 => Sys2Proof.Machine.execLdBuSlro a off4 s
  | .ldBSlro a off4 => Sys2Proof.Machine.execLdBSlro a off4 s
  | .ldHSlro a off4 => Sys2Proof.Machine.execLdHSlro a off4 s
  | .ldWSlro a off4 => Sys2Proof.Machine.execLdWSlro a off4 s
  | .debugSr => Sys2Proof.Machine.execDebugSr s
  | .movzASr a => Sys2Proof.Machine.execMovzASr a s
  | .nopSr => Sys2Proof.Machine.execNopSr s
  | .notSr a => Sys2Proof.Machine.execNotSr a s
  | .retSr => Sys2Proof.Machine.execRetSr s
  | .rfeSr => Sys2Proof.Machine.execRfeSr s
  | .rsubSr a => Sys2Proof.Machine.execRsubSr a s
  | .satBuSr a => Sys2Proof.Machine.execSatBuSr a s
  | .satBSr a => Sys2Proof.Machine.execSatBSr a s
  | .satHuSr a => Sys2Proof.Machine.execSatHuSr a s
  | .satHSr a => Sys2Proof.Machine.execSatHSr a s
  | .addSrc a const4 => Sys2Proof.Machine.execAddSrc a const4 s
  | .addSrcD15 a const4 => Sys2Proof.Machine.execAddSrcD15 a const4 s
  | .caddnSrc a const4 => Sys2Proof.Machine.execCaddnSrc a const4 s
  | .caddSrc a const4 => Sys2Proof.Machine.execCaddSrc a const4 s
  | .cmovnSrc a const4 => Sys2Proof.Machine.execCmovnSrc a const4 s
  | .cmovSrc a const4 => Sys2Proof.Machine.execCmovSrc a const4 s
  | .eqSrc a const4 => Sys2Proof.Machine.execEqSrc a const4 s
  | .ltUSrc a const4 => Sys2Proof.Machine.execLtUSrc a const4 s
  | .ltSrc a const4 => Sys2Proof.Machine.execLtSrc a const4 s
  | .movSrc a const4 => Sys2Proof.Machine.execMovSrc a const4 s
  | .shaSrc a const4 => Sys2Proof.Machine.execShaSrc a const4 s
  | .shSrc a const4 => Sys2Proof.Machine.execShSrc a const4 s
  | .ldASro b off4 => Sys2Proof.Machine.execLdASro b off4 s
  | .ldBuSro b off4 => Sys2Proof.Machine.execLdBuSro b off4 s
  | .ldBSro b off4 => Sys2Proof.Machine.execLdBSro b off4 s
  | .ldHSro b off4 => Sys2Proof.Machine.execLdHSro b off4 s
  | .ldWSro b off4 => Sys2Proof.Machine.execLdWSro b off4 s
  | .stASro b off4 => Sys2Proof.Machine.execStASro b off4 s
  | .stBSro b off4 => Sys2Proof.Machine.execStBSro b off4 s
  | .stHSro b off4 => Sys2Proof.Machine.execStHSro b off4 s
  | .stWSro b off4 => Sys2Proof.Machine.execStWSro b off4 s
  | .addSrr a b => Sys2Proof.Machine.execAddSrr a b s
  | .addSrrD15 a b => Sys2Proof.Machine.execAddSrrD15 a b s
  | .andSrr a b => Sys2Proof.Machine.execAndSrr a b s
  | .caddnSrr a b => Sys2Proof.Machine.execCaddnSrr a b s
  | .caddSrr a b => Sys2Proof.Machine.execCaddSrr a b s
  | .cmovnSrr a b => Sys2Proof.Machine.execCmovnSrr a b s
  | .cmovSrr a b => Sys2Proof.Machine.execCmovSrr a b s
  | .dvadjSrr a b => Sys2Proof.Machine.execDvadjSrr a b s
  | .dvstepUSrr a b => Sys2Proof.Machine.execDvstepUSrr a b s
  | .dvstepSrr a b => Sys2Proof.Machine.execDvstepSrr a b s
  | .eqSrr a b => Sys2Proof.Machine.execEqSrr a b s
  | .ltUSrr a b => Sys2Proof.Machine.execLtUSrr a b s
  | .ltSrr a b => Sys2Proof.Machine.execLtSrr a b s
  | .movAaSrr a b => Sys2Proof.Machine.execMovAaSrr a b s
  | .movASrr a b => Sys2Proof.Machine.execMovASrr a b s
  | .movDSrr a b => Sys2Proof.Machine.execMovDSrr a b s
  | .movSrr a b => Sys2Proof.Machine.execMovSrr a b s
  | .mulSrr a b => Sys2Proof.Machine.execMulSrr a b s
  | .orSrr a b => Sys2Proof.Machine.execOrSrr a b s
  | .subsSrr a b => Sys2Proof.Machine.execSubsSrr a b s
  | .subSrr a b => Sys2Proof.Machine.execSubSrr a b s
  | .subSrrD15 a b => Sys2Proof.Machine.execSubSrrD15 a b s
  | .stASsr a b => Sys2Proof.Machine.execStASsr a b s
  | .stASsrPostinc a b => Sys2Proof.Machine.execStASsrPostinc a b s
  | .stBSsr a b => Sys2Proof.Machine.execStBSsr a b s
  | .stBSsrPostinc a b => Sys2Proof.Machine.execStBSsrPostinc a b s
  | .stHSsr a b => Sys2Proof.Machine.execStHSsr a b s
  | .stHSsrPostinc a b => Sys2Proof.Machine.execStHSsrPostinc a b s
  | .stWSsr a b => Sys2Proof.Machine.execStWSsr a b s
  | .stWSsrPostinc a b => Sys2Proof.Machine.execStWSsrPostinc a b s
  | .stASsro a off4 => Sys2Proof.Machine.execStASsro a off4 s
  | .stBSsro a off4 => Sys2Proof.Machine.execStBSsro a off4 s
  | .stHSsro a off4 => Sys2Proof.Machine.execStHSsro a off4 s
  | .stWSsro a off4 => Sys2Proof.Machine.execStWSsro a off4 s

end Sys2Proof.Machine
end

