-- ==== Sys2Proof/Decode.lean ====
section
/-! DEFINITION. Decode.lean: instruction words to instructions (decode, total, rejecting by name) and back (encode), by the formats of spec/30_encoding.md rule R207, rule R208 the default opcode map of rule R230 to R233, rule R250, and any other opcode map that the parameters give (rule R230). Sixteen-bit forms stand in the low halfword of the word. Unused bits are ignored by the decoder and written as zero by the encoder (30 R211). The decoders are marked noncomputable because the code generator holds at most 244 constructors with fields and the opcode table has 622 forms; they are plain functions that the kernel evaluates. -/

namespace Sys2Proof

/-- Why bytes are not an instruction. `illegalOpcode` is the machine's IOPC trap (30 R235); `tooShort` says that the bytes end before the instruction does. -/
inductive DecodeError where
  | tooShort
  | illegalOpcode
deriving DecidableEq, Repr

/-! ## The fields of the formats (30 R207, R208) -/

/-- The unsigned value of bits `lo + n - 1` down to `lo` of `x`. -/
def bitsOf (x lo n : Nat) : Nat := x / 2 ^ lo % 2 ^ n

/-- s1, s1/d, and d of SLR and SLRO: bits 11:8. -/
def fieldS1 (w : Word) : Reg := Fin.ofNat 16 (bitsOf w.toNat 8 4)
/-- s2: bits 15:12. -/
def fieldS2 (w : Word) : Reg := Fin.ofNat 16 (bitsOf w.toNat 12 4)
/-- s3: bits 27:24. -/
def fieldS3 (w : Word) : Reg := Fin.ofNat 16 (bitsOf w.toNat 24 4)
/-- d of the 32-bit formats: bits 31:28. -/
def fieldD (w : Word) : Reg := Fin.ofNat 16 (bitsOf w.toNat 28 4)
/-- const4 (BRC, RCPW, RCRR, RCRW, SBC, SRC): bits 15:12. -/
def fieldConst4 (w : Word) : BitVec 4 := BitVec.ofNat 4 (bitsOf w.toNat 12 4)
/-- const8 (SC): bits 15:8. -/
def fieldConst8 (w : Word) : BitVec 8 := BitVec.ofNat 8 (bitsOf w.toNat 8 8)
/-- const9 (RC, RCR): bits 20:12. -/
def fieldConst9 (w : Word) : BitVec 9 := BitVec.ofNat 9 (bitsOf w.toNat 12 9)
/-- const16 (RLC): bits 27:12. -/
def fieldConst16 (w : Word) : BitVec 16 := BitVec.ofNat 16 (bitsOf w.toNat 12 16)
/-- disp4 (SBC, SBR, SBRN): bits 11:8. -/
def fieldDisp4 (w : Word) : BitVec 4 := BitVec.ofNat 4 (bitsOf w.toNat 8 4)
/-- disp8 (SB): bits 15:8. -/
def fieldDisp8 (w : Word) : BitVec 8 := BitVec.ofNat 8 (bitsOf w.toNat 8 8)
/-- disp15 (BRC, BRN, BRR): bits 30:16. -/
def fieldDisp15 (w : Word) : BitVec 15 := BitVec.ofNat 15 (bitsOf w.toNat 16 15)
/-- disp24 (B): bits 15:8 above bits 31:16. -/
def fieldDisp24 (w : Word) : BitVec 24 := BitVec.ofNat 24 (bitsOf w.toNat 8 8 * 2 ^ 16 + bitsOf w.toNat 16 16)
/-- off4 of SLRO and SSRO: bits 15:12. -/
def fieldOff4 (w : Word) : BitVec 4 := BitVec.ofNat 4 (bitsOf w.toNat 12 4)
/-- off4 of SRO: bits 11:8. -/
def fieldOff4Sro (w : Word) : BitVec 4 := BitVec.ofNat 4 (bitsOf w.toNat 8 4)
/-- off10 (BO): bits 31:28 above 21:16 (30 R221). -/
def fieldOff10 (w : Word) : BitVec 10 := BitVec.ofNat 10 (bitsOf w.toNat 28 4 * 2 ^ 6 + bitsOf w.toNat 16 6)
/-- off16 (BOL): bits 27:22, 31:28, 21:16 (30 R221). -/
def fieldOff16 (w : Word) : BitVec 16 := BitVec.ofNat 16 (bitsOf w.toNat 22 6 * 2 ^ 10 + bitsOf w.toNat 28 4 * 2 ^ 6 + bitsOf w.toNat 16 6)
/-- off18 (ABS, ABSB): bits 15:12, 25:22, 31:28, 21:16 (30 R221). -/
def fieldOff18 (w : Word) : BitVec 18 := BitVec.ofNat 18 (bitsOf w.toNat 12 4 * 2 ^ 14 + bitsOf w.toNat 22 4 * 2 ^ 10 + bitsOf w.toNat 28 4 * 2 ^ 6 + bitsOf w.toNat 16 6)
/-- n of RR and RRR: bits 17:16. -/
def fieldN (w : Word) : BitVec 2 := BitVec.ofNat 2 (bitsOf w.toNat 16 2)
/-- n of SRRS: bits 7:6. -/
def fieldNSrrs (w : Word) : BitVec 2 := BitVec.ofNat 2 (bitsOf w.toNat 6 2)
/-- The bit number of BRN and SBRN: bit 7 above bits 15:12 (30 R210). -/
def fieldBitNumber (w : Word) : BitVec 5 := BitVec.ofNat 5 (bitsOf w.toNat 7 1 * 2 ^ 4 + bitsOf w.toNat 12 4)
/-- p (RCPW, RRPW): bits 27:23. -/
def fieldP (w : Word) : BitVec 5 := BitVec.ofNat 5 (bitsOf w.toNat 23 5)
/-- p1 (BIT): bits 20:16. -/
def fieldP1 (w : Word) : BitVec 5 := BitVec.ofNat 5 (bitsOf w.toNat 16 5)
/-- p2 (BIT): bits 27:23. -/
def fieldP2 (w : Word) : BitVec 5 := BitVec.ofNat 5 (bitsOf w.toNat 23 5)
/-- w (RCPW, RCRW, RRPW, RRRW): bits 20:16. -/
def fieldWidth (w : Word) : BitVec 5 := BitVec.ofNat 5 (bitsOf w.toNat 16 5)
/-- b (ABSB): bit 11. -/
def fieldB (w : Word) : BitVec 1 := BitVec.ofNat 1 (bitsOf w.toNat 11 1)
/-- bpos3 (ABSB): bits 10:8. -/
def fieldBpos3 (w : Word) : BitVec 3 := BitVec.ofNat 3 (bitsOf w.toNat 8 3)

/-! ## Decoding: one table per format, indexed by op2, then the table of first bytes -/

/-- First byte 0x01, format BRN: op2 is bits 31:31 (31 R250). -/
noncomputable def decodeBrn01 (w : Word) : Option Instr :=
  match bitsOf w.toNat 31 1 with
  | 0x00 => some (.jnzTBrn (fieldS1 w) (fieldBitNumber w) (fieldDisp15 w))
  | 0x01 => some (.jzTBrn (fieldS1 w) (fieldBitNumber w) (fieldDisp15 w))
  | _ => none

/-- First byte 0x03, format ABS: op2 is bits 27:26 (31 R250). -/
noncomputable def decodeAbs03 (w : Word) : Option Instr :=
  match bitsOf w.toNat 26 2 with
  | 0x00 => some (.ldAAbs (fieldS1 w) (fieldOff18 w))
  | 0x01 => some (.ldBuAbs (fieldS1 w) (fieldOff18 w))
  | 0x02 => some (.ldBAbs (fieldS1 w) (fieldOff18 w))
  | 0x03 => some (.ldDaAbs (fieldS1 w) (fieldOff18 w))
  | _ => none

/-- First byte 0x05, format ABS: op2 is bits 27:26 (31 R250). -/
noncomputable def decodeAbs05 (w : Word) : Option Instr :=
  match bitsOf w.toNat 26 2 with
  | 0x00 => some (.ldDAbs (fieldS1 w) (fieldOff18 w))
  | 0x01 => some (.ldHuAbs (fieldS1 w) (fieldOff18 w))
  | 0x02 => some (.ldHAbs (fieldS1 w) (fieldOff18 w))
  | 0x03 => some (.ldQAbs (fieldS1 w) (fieldOff18 w))
  | _ => none

/-- First byte 0x07, format ABS: op2 is bits 27:26 (31 R250). -/
noncomputable def decodeAbs07 (w : Word) : Option Instr :=
  match bitsOf w.toNat 26 2 with
  | 0x00 => some (.ldWAbs (fieldS1 w) (fieldOff18 w))
  | 0x01 => some (.ldlcxAbs (fieldOff18 w))
  | 0x02 => some (.ldmstAbs (fieldS1 w) (fieldOff18 w))
  | 0x03 => some (.lducxAbs (fieldOff18 w))
  | _ => none

/-- First byte 0x09, format ABS: op2 is bits 27:26 (31 R250). -/
noncomputable def decodeAbs09 (w : Word) : Option Instr :=
  match bitsOf w.toNat 26 2 with
  | 0x00 => some (.leaAbs (fieldS1 w) (fieldOff18 w))
  | 0x01 => some (.stAAbs (fieldS1 w) (fieldOff18 w))
  | 0x02 => some (.stBAbs (fieldS1 w) (fieldOff18 w))
  | 0x03 => some (.stDaAbs (fieldS1 w) (fieldOff18 w))
  | _ => none

/-- First byte 0x0B, format ABS: op2 is bits 27:26 (31 R250). -/
noncomputable def decodeAbs0B (w : Word) : Option Instr :=
  match bitsOf w.toNat 26 2 with
  | 0x00 => some (.stDAbs (fieldS1 w) (fieldOff18 w))
  | 0x01 => some (.stHAbs (fieldS1 w) (fieldOff18 w))
  | 0x02 => some (.stQAbs (fieldS1 w) (fieldOff18 w))
  | 0x03 => some (.stWAbs (fieldS1 w) (fieldOff18 w))
  | _ => none

/-- First byte 0x0D, format ABS: op2 is bits 27:26 (31 R250). -/
noncomputable def decodeAbs0D (w : Word) : Option Instr :=
  match bitsOf w.toNat 26 2 with
  | 0x00 => some (.stlcxAbs (fieldOff18 w))
  | 0x01 => some (.stucxAbs (fieldOff18 w))
  | 0x02 => some (.swapAAbs (fieldS1 w) (fieldOff18 w))
  | 0x03 => some (.swapWAbs (fieldS1 w) (fieldOff18 w))
  | _ => none

/-- First byte 0x0F, format ABSB: op2 is bits 27:26 (31 R250). -/
noncomputable def decodeAbsb0F (w : Word) : Option Instr :=
  match bitsOf w.toNat 26 2 with
  | 0x00 => some (.stTAbsb (fieldOff18 w) (fieldBpos3 w) (fieldB w))
  | _ => none

/-- First byte 0x1D, format BIT: op2 is bits 22:21 (31 R250). -/
noncomputable def decodeBit1D (w : Word) : Option Instr :=
  match bitsOf w.toNat 21 2 with
  | 0x00 => some (.andAndTBit (fieldD w) (fieldS1 w) (fieldP1 w) (fieldS2 w) (fieldP2 w))
  | 0x01 => some (.andAndnTBit (fieldD w) (fieldS1 w) (fieldP1 w) (fieldS2 w) (fieldP2 w))
  | 0x02 => some (.andNorTBit (fieldD w) (fieldS1 w) (fieldP1 w) (fieldS2 w) (fieldP2 w))
  | 0x03 => some (.andOrTBit (fieldD w) (fieldS1 w) (fieldP1 w) (fieldS2 w) (fieldP2 w))
  | _ => none

/-- First byte 0x1F, format BIT: op2 is bits 22:21 (31 R250). -/
noncomputable def decodeBit1F (w : Word) : Option Instr :=
  match bitsOf w.toNat 21 2 with
  | 0x00 => some (.andTBit (fieldD w) (fieldS1 w) (fieldP1 w) (fieldS2 w) (fieldP2 w))
  | 0x01 => some (.andnTBit (fieldD w) (fieldS1 w) (fieldP1 w) (fieldS2 w) (fieldP2 w))
  | 0x02 => some (.insTBit (fieldD w) (fieldS1 w) (fieldP1 w) (fieldS2 w) (fieldP2 w))
  | 0x03 => some (.insnTBit (fieldD w) (fieldS1 w) (fieldP1 w) (fieldS2 w) (fieldP2 w))
  | _ => none

/-- First byte 0x21, format BIT: op2 is bits 22:21 (31 R250). -/
noncomputable def decodeBit21 (w : Word) : Option Instr :=
  match bitsOf w.toNat 21 2 with
  | 0x00 => some (.nandTBit (fieldD w) (fieldS1 w) (fieldP1 w) (fieldS2 w) (fieldP2 w))
  | 0x01 => some (.norTBit (fieldD w) (fieldS1 w) (fieldP1 w) (fieldS2 w) (fieldP2 w))
  | 0x02 => some (.orAndTBit (fieldD w) (fieldS1 w) (fieldP1 w) (fieldS2 w) (fieldP2 w))
  | 0x03 => some (.orAndnTBit (fieldD w) (fieldS1 w) (fieldP1 w) (fieldS2 w) (fieldP2 w))
  | _ => none

/-- First byte 0x23, format BIT: op2 is bits 22:21 (31 R250). -/
noncomputable def decodeBit23 (w : Word) : Option Instr :=
  match bitsOf w.toNat 21 2 with
  | 0x00 => some (.orNorTBit (fieldD w) (fieldS1 w) (fieldP1 w) (fieldS2 w) (fieldP2 w))
  | 0x01 => some (.orOrTBit (fieldD w) (fieldS1 w) (fieldP1 w) (fieldS2 w) (fieldP2 w))
  | 0x02 => some (.orTBit (fieldD w) (fieldS1 w) (fieldP1 w) (fieldS2 w) (fieldP2 w))
  | 0x03 => some (.ornTBit (fieldD w) (fieldS1 w) (fieldP1 w) (fieldS2 w) (fieldP2 w))
  | _ => none

/-- First byte 0x25, format BIT: op2 is bits 22:21 (31 R250). -/
noncomputable def decodeBit25 (w : Word) : Option Instr :=
  match bitsOf w.toNat 21 2 with
  | 0x00 => some (.shAndTBit (fieldD w) (fieldS1 w) (fieldP1 w) (fieldS2 w) (fieldP2 w))
  | 0x01 => some (.shAndnTBit (fieldD w) (fieldS1 w) (fieldP1 w) (fieldS2 w) (fieldP2 w))
  | 0x02 => some (.shNandTBit (fieldD w) (fieldS1 w) (fieldP1 w) (fieldS2 w) (fieldP2 w))
  | 0x03 => some (.shNorTBit (fieldD w) (fieldS1 w) (fieldP1 w) (fieldS2 w) (fieldP2 w))
  | _ => none

/-- First byte 0x27, format BIT: op2 is bits 22:21 (31 R250). -/
noncomputable def decodeBit27 (w : Word) : Option Instr :=
  match bitsOf w.toNat 21 2 with
  | 0x00 => some (.shOrTBit (fieldD w) (fieldS1 w) (fieldP1 w) (fieldS2 w) (fieldP2 w))
  | 0x01 => some (.shOrnTBit (fieldD w) (fieldS1 w) (fieldP1 w) (fieldS2 w) (fieldP2 w))
  | 0x02 => some (.shXnorTBit (fieldD w) (fieldS1 w) (fieldP1 w) (fieldS2 w) (fieldP2 w))
  | 0x03 => some (.shXorTBit (fieldD w) (fieldS1 w) (fieldP1 w) (fieldS2 w) (fieldP2 w))
  | _ => none

/-- First byte 0x29, format BIT: op2 is bits 22:21 (31 R250). -/
noncomputable def decodeBit29 (w : Word) : Option Instr :=
  match bitsOf w.toNat 21 2 with
  | 0x00 => some (.xnorTBit (fieldD w) (fieldS1 w) (fieldP1 w) (fieldS2 w) (fieldP2 w))
  | 0x01 => some (.xorTBit (fieldD w) (fieldS1 w) (fieldP1 w) (fieldS2 w) (fieldP2 w))
  | _ => none

/-- First byte 0x2B, format BO, the upper bits of op2 0: its lower 3 bits select the form (31 R250). -/
noncomputable def decodeBo2Bx0 (w : Word) : Option Instr :=
  match bitsOf w.toNat 22 3 with
  | 0x0 => some (.ldABoShort (fieldS1 w) (fieldS2 w) (fieldOff10 w))
  | 0x1 => some (.ldBBoShort (fieldS1 w) (fieldS2 w) (fieldOff10 w))
  | 0x2 => some (.ldBuBoShort (fieldS1 w) (fieldS2 w) (fieldOff10 w))
  | 0x3 => some (.ldDBoShort (fieldS1 w) (fieldS2 w) (fieldOff10 w))
  | 0x4 => some (.ldDaBoShort (fieldS1 w) (fieldS2 w) (fieldOff10 w))
  | 0x5 => some (.ldHBoShort (fieldS1 w) (fieldS2 w) (fieldOff10 w))
  | 0x6 => some (.ldHuBoShort (fieldS1 w) (fieldS2 w) (fieldOff10 w))
  | 0x7 => some (.ldQBoShort (fieldS1 w) (fieldS2 w) (fieldOff10 w))
  | _ => none

/-- First byte 0x2B, format BO, the upper bits of op2 1: its lower 3 bits select the form (31 R250). -/
noncomputable def decodeBo2Bx1 (w : Word) : Option Instr :=
  match bitsOf w.toNat 22 3 with
  | 0x0 => some (.ldABoPreinc (fieldS1 w) (fieldS2 w) (fieldOff10 w))
  | 0x1 => some (.ldBBoPreinc (fieldS1 w) (fieldS2 w) (fieldOff10 w))
  | 0x2 => some (.ldBuBoPreinc (fieldS1 w) (fieldS2 w) (fieldOff10 w))
  | 0x3 => some (.ldDBoPreinc (fieldS1 w) (fieldS2 w) (fieldOff10 w))
  | 0x4 => some (.ldDaBoPreinc (fieldS1 w) (fieldS2 w) (fieldOff10 w))
  | 0x5 => some (.ldHBoPreinc (fieldS1 w) (fieldS2 w) (fieldOff10 w))
  | 0x6 => some (.ldHuBoPreinc (fieldS1 w) (fieldS2 w) (fieldOff10 w))
  | 0x7 => some (.ldQBoPreinc (fieldS1 w) (fieldS2 w) (fieldOff10 w))
  | _ => none

/-- First byte 0x2B, format BO, the upper bits of op2 2: its lower 3 bits select the form (31 R250). -/
noncomputable def decodeBo2Bx2 (w : Word) : Option Instr :=
  match bitsOf w.toNat 22 3 with
  | 0x0 => some (.ldABoPostinc (fieldS1 w) (fieldS2 w) (fieldOff10 w))
  | 0x1 => some (.ldBBoPostinc (fieldS1 w) (fieldS2 w) (fieldOff10 w))
  | 0x2 => some (.ldBuBoPostinc (fieldS1 w) (fieldS2 w) (fieldOff10 w))
  | 0x3 => some (.ldDBoPostinc (fieldS1 w) (fieldS2 w) (fieldOff10 w))
  | 0x4 => some (.ldDaBoPostinc (fieldS1 w) (fieldS2 w) (fieldOff10 w))
  | 0x5 => some (.ldHBoPostinc (fieldS1 w) (fieldS2 w) (fieldOff10 w))
  | 0x6 => some (.ldHuBoPostinc (fieldS1 w) (fieldS2 w) (fieldOff10 w))
  | 0x7 => some (.ldQBoPostinc (fieldS1 w) (fieldS2 w) (fieldOff10 w))
  | _ => none

/-- First byte 0x2B, format BO, the upper bits of op2 3: its lower 3 bits select the form (31 R250). -/
noncomputable def decodeBo2Bx3 (w : Word) : Option Instr :=
  match bitsOf w.toNat 22 3 with
  | 0x0 => some (.ldABoCirc (fieldS1 w) (fieldS2 w) (fieldOff10 w))
  | 0x1 => some (.ldBBoCirc (fieldS1 w) (fieldS2 w) (fieldOff10 w))
  | 0x2 => some (.ldBuBoCirc (fieldS1 w) (fieldS2 w) (fieldOff10 w))
  | 0x3 => some (.ldDBoCirc (fieldS1 w) (fieldS2 w) (fieldOff10 w))
  | 0x4 => some (.ldDaBoCirc (fieldS1 w) (fieldS2 w) (fieldOff10 w))
  | 0x5 => some (.ldHBoCirc (fieldS1 w) (fieldS2 w) (fieldOff10 w))
  | 0x6 => some (.ldHuBoCirc (fieldS1 w) (fieldS2 w) (fieldOff10 w))
  | 0x7 => some (.ldQBoCirc (fieldS1 w) (fieldS2 w) (fieldOff10 w))
  | _ => none

/-- First byte 0x2B, format BO, the upper bits of op2 4: its lower 3 bits select the form (31 R250). -/
noncomputable def decodeBo2Bx4 (w : Word) : Option Instr :=
  match bitsOf w.toNat 22 3 with
  | 0x0 => some (.ldABoBrev (fieldS1 w) (fieldS2 w))
  | 0x1 => some (.ldBBoBrev (fieldS1 w) (fieldS2 w))
  | 0x2 => some (.ldBuBoBrev (fieldS1 w) (fieldS2 w))
  | 0x3 => some (.ldDBoBrev (fieldS1 w) (fieldS2 w))
  | 0x4 => some (.ldDaBoBrev (fieldS1 w) (fieldS2 w))
  | 0x5 => some (.ldHBoBrev (fieldS1 w) (fieldS2 w))
  | 0x6 => some (.ldHuBoBrev (fieldS1 w) (fieldS2 w))
  | 0x7 => some (.ldQBoBrev (fieldS1 w) (fieldS2 w))
  | _ => none

/-- First byte 0x2B, format BO: op2 is bits 27:22, the addressing mode above the instruction selector (30 R232). -/
noncomputable def decodeBo2B (w : Word) : Option Instr :=
  match bitsOf w.toNat 25 3 with
  | 0x0 => decodeBo2Bx0 w
  | 0x1 => decodeBo2Bx1 w
  | 0x2 => decodeBo2Bx2 w
  | 0x3 => decodeBo2Bx3 w
  | 0x4 => decodeBo2Bx4 w
  | _ => none

/-- First byte 0x2D, format BO, the upper bits of op2 0: its lower 3 bits select the form (31 R250). -/
noncomputable def decodeBo2Dx0 (w : Word) : Option Instr :=
  match bitsOf w.toNat 22 3 with
  | 0x0 => some (.ldWBoShort (fieldS1 w) (fieldS2 w) (fieldOff10 w))
  | 0x1 => some (.ldlcxBoShort (fieldS2 w) (fieldOff10 w))
  | 0x2 => some (.ldmstBoShort (fieldS1 w) (fieldS2 w) (fieldOff10 w))
  | 0x3 => some (.lducxBoShort (fieldS2 w) (fieldOff10 w))
  | 0x4 => some (.leaBoShort (fieldS1 w) (fieldS2 w) (fieldOff10 w))
  | 0x5 => some (.stABoShort (fieldS1 w) (fieldS2 w) (fieldOff10 w))
  | 0x6 => some (.stBBoShort (fieldS1 w) (fieldS2 w) (fieldOff10 w))
  | 0x7 => some (.stDBoShort (fieldS1 w) (fieldS2 w) (fieldOff10 w))
  | _ => none

/-- First byte 0x2D, format BO, the upper bits of op2 1: its lower 3 bits select the form (31 R250). -/
noncomputable def decodeBo2Dx1 (w : Word) : Option Instr :=
  match bitsOf w.toNat 22 3 with
  | 0x0 => some (.ldWBoPreinc (fieldS1 w) (fieldS2 w) (fieldOff10 w))
  | 0x2 => some (.ldmstBoPreinc (fieldS1 w) (fieldS2 w) (fieldOff10 w))
  | 0x4 => some (.leaBoPreinc (fieldS1 w) (fieldS2 w) (fieldOff10 w))
  | 0x5 => some (.stABoPreinc (fieldS1 w) (fieldS2 w) (fieldOff10 w))
  | 0x6 => some (.stBBoPreinc (fieldS1 w) (fieldS2 w) (fieldOff10 w))
  | 0x7 => some (.stDBoPreinc (fieldS1 w) (fieldS2 w) (fieldOff10 w))
  | _ => none

/-- First byte 0x2D, format BO, the upper bits of op2 2: its lower 3 bits select the form (31 R250). -/
noncomputable def decodeBo2Dx2 (w : Word) : Option Instr :=
  match bitsOf w.toNat 22 3 with
  | 0x0 => some (.ldWBoPostinc (fieldS1 w) (fieldS2 w) (fieldOff10 w))
  | 0x2 => some (.ldmstBoPostinc (fieldS1 w) (fieldS2 w) (fieldOff10 w))
  | 0x4 => some (.leaBoPostinc (fieldS1 w) (fieldS2 w) (fieldOff10 w))
  | 0x5 => some (.stABoPostinc (fieldS1 w) (fieldS2 w) (fieldOff10 w))
  | 0x6 => some (.stBBoPostinc (fieldS1 w) (fieldS2 w) (fieldOff10 w))
  | 0x7 => some (.stDBoPostinc (fieldS1 w) (fieldS2 w) (fieldOff10 w))
  | _ => none

/-- First byte 0x2D, format BO, the upper bits of op2 3: its lower 3 bits select the form (31 R250). -/
noncomputable def decodeBo2Dx3 (w : Word) : Option Instr :=
  match bitsOf w.toNat 22 3 with
  | 0x0 => some (.ldWBoCirc (fieldS1 w) (fieldS2 w) (fieldOff10 w))
  | 0x2 => some (.ldmstBoCirc (fieldS1 w) (fieldS2 w) (fieldOff10 w))
  | 0x4 => some (.leaBoCirc (fieldS1 w) (fieldS2 w) (fieldOff10 w))
  | 0x5 => some (.stABoCirc (fieldS1 w) (fieldS2 w) (fieldOff10 w))
  | 0x6 => some (.stBBoCirc (fieldS1 w) (fieldS2 w) (fieldOff10 w))
  | 0x7 => some (.stDBoCirc (fieldS1 w) (fieldS2 w) (fieldOff10 w))
  | _ => none

/-- First byte 0x2D, format BO, the upper bits of op2 4: its lower 3 bits select the form (31 R250). -/
noncomputable def decodeBo2Dx4 (w : Word) : Option Instr :=
  match bitsOf w.toNat 22 3 with
  | 0x0 => some (.ldWBoBrev (fieldS1 w) (fieldS2 w))
  | 0x2 => some (.ldmstBoBrev (fieldS1 w) (fieldS2 w))
  | 0x4 => some (.leaBoBrev (fieldS1 w) (fieldS2 w))
  | 0x5 => some (.stABoBrev (fieldS1 w) (fieldS2 w))
  | 0x6 => some (.stBBoBrev (fieldS1 w) (fieldS2 w))
  | 0x7 => some (.stDBoBrev (fieldS1 w) (fieldS2 w))
  | _ => none

/-- First byte 0x2D, format BO: op2 is bits 27:22, the addressing mode above the instruction selector (30 R232). -/
noncomputable def decodeBo2D (w : Word) : Option Instr :=
  match bitsOf w.toNat 25 3 with
  | 0x0 => decodeBo2Dx0 w
  | 0x1 => decodeBo2Dx1 w
  | 0x2 => decodeBo2Dx2 w
  | 0x3 => decodeBo2Dx3 w
  | 0x4 => decodeBo2Dx4 w
  | _ => none

/-- First byte 0x2F, format BO, the upper bits of op2 0: its lower 3 bits select the form (31 R250). -/
noncomputable def decodeBo2Fx0 (w : Word) : Option Instr :=
  match bitsOf w.toNat 22 3 with
  | 0x0 => some (.stDaBoShort (fieldS1 w) (fieldS2 w) (fieldOff10 w))
  | 0x1 => some (.stHBoShort (fieldS1 w) (fieldS2 w) (fieldOff10 w))
  | 0x2 => some (.stQBoShort (fieldS1 w) (fieldS2 w) (fieldOff10 w))
  | 0x3 => some (.stWBoShort (fieldS1 w) (fieldS2 w) (fieldOff10 w))
  | 0x4 => some (.stlcxBoShort (fieldS2 w) (fieldOff10 w))
  | 0x5 => some (.stucxBoShort (fieldS2 w) (fieldOff10 w))
  | 0x6 => some (.swapABoShort (fieldS1 w) (fieldS2 w) (fieldOff10 w))
  | 0x7 => some (.swapWBoShort (fieldS1 w) (fieldS2 w) (fieldOff10 w))
  | _ => none

/-- First byte 0x2F, format BO, the upper bits of op2 1: its lower 3 bits select the form (31 R250). -/
noncomputable def decodeBo2Fx1 (w : Word) : Option Instr :=
  match bitsOf w.toNat 22 3 with
  | 0x0 => some (.stDaBoPreinc (fieldS1 w) (fieldS2 w) (fieldOff10 w))
  | 0x1 => some (.stHBoPreinc (fieldS1 w) (fieldS2 w) (fieldOff10 w))
  | 0x2 => some (.stQBoPreinc (fieldS1 w) (fieldS2 w) (fieldOff10 w))
  | 0x3 => some (.stWBoPreinc (fieldS1 w) (fieldS2 w) (fieldOff10 w))
  | 0x6 => some (.swapABoPreinc (fieldS1 w) (fieldS2 w) (fieldOff10 w))
  | 0x7 => some (.swapWBoPreinc (fieldS1 w) (fieldS2 w) (fieldOff10 w))
  | _ => none

/-- First byte 0x2F, format BO, the upper bits of op2 2: its lower 3 bits select the form (31 R250). -/
noncomputable def decodeBo2Fx2 (w : Word) : Option Instr :=
  match bitsOf w.toNat 22 3 with
  | 0x0 => some (.stDaBoPostinc (fieldS1 w) (fieldS2 w) (fieldOff10 w))
  | 0x1 => some (.stHBoPostinc (fieldS1 w) (fieldS2 w) (fieldOff10 w))
  | 0x2 => some (.stQBoPostinc (fieldS1 w) (fieldS2 w) (fieldOff10 w))
  | 0x3 => some (.stWBoPostinc (fieldS1 w) (fieldS2 w) (fieldOff10 w))
  | 0x6 => some (.swapABoPostinc (fieldS1 w) (fieldS2 w) (fieldOff10 w))
  | 0x7 => some (.swapWBoPostinc (fieldS1 w) (fieldS2 w) (fieldOff10 w))
  | _ => none

/-- First byte 0x2F, format BO, the upper bits of op2 3: its lower 3 bits select the form (31 R250). -/
noncomputable def decodeBo2Fx3 (w : Word) : Option Instr :=
  match bitsOf w.toNat 22 3 with
  | 0x0 => some (.stDaBoCirc (fieldS1 w) (fieldS2 w) (fieldOff10 w))
  | 0x1 => some (.stHBoCirc (fieldS1 w) (fieldS2 w) (fieldOff10 w))
  | 0x2 => some (.stQBoCirc (fieldS1 w) (fieldS2 w) (fieldOff10 w))
  | 0x3 => some (.stWBoCirc (fieldS1 w) (fieldS2 w) (fieldOff10 w))
  | 0x6 => some (.swapABoCirc (fieldS1 w) (fieldS2 w) (fieldOff10 w))
  | 0x7 => some (.swapWBoCirc (fieldS1 w) (fieldS2 w) (fieldOff10 w))
  | _ => none

/-- First byte 0x2F, format BO, the upper bits of op2 4: its lower 3 bits select the form (31 R250). -/
noncomputable def decodeBo2Fx4 (w : Word) : Option Instr :=
  match bitsOf w.toNat 22 3 with
  | 0x0 => some (.stDaBoBrev (fieldS1 w) (fieldS2 w))
  | 0x1 => some (.stHBoBrev (fieldS1 w) (fieldS2 w))
  | 0x2 => some (.stQBoBrev (fieldS1 w) (fieldS2 w))
  | 0x3 => some (.stWBoBrev (fieldS1 w) (fieldS2 w))
  | 0x6 => some (.swapABoBrev (fieldS1 w) (fieldS2 w))
  | 0x7 => some (.swapWBoBrev (fieldS1 w) (fieldS2 w))
  | _ => none

/-- First byte 0x2F, format BO: op2 is bits 27:22, the addressing mode above the instruction selector (30 R232). -/
noncomputable def decodeBo2F (w : Word) : Option Instr :=
  match bitsOf w.toNat 25 3 with
  | 0x0 => decodeBo2Fx0 w
  | 0x1 => decodeBo2Fx1 w
  | 0x2 => decodeBo2Fx2 w
  | 0x3 => decodeBo2Fx3 w
  | 0x4 => decodeBo2Fx4 w
  | _ => none

/-- First byte 0x39, format BRC: op2 is bits 31:31 (31 R250). -/
noncomputable def decodeBrc39 (w : Word) : Option Instr :=
  match bitsOf w.toNat 31 1 with
  | 0x00 => some (.jeqBrc (fieldS1 w) (fieldConst4 w) (fieldDisp15 w))
  | 0x01 => some (.jgeUBrc (fieldS1 w) (fieldConst4 w) (fieldDisp15 w))
  | _ => none

/-- First byte 0x3B, format BRC: op2 is bits 31:31 (31 R250). -/
noncomputable def decodeBrc3B (w : Word) : Option Instr :=
  match bitsOf w.toNat 31 1 with
  | 0x00 => some (.jgeBrc (fieldS1 w) (fieldConst4 w) (fieldDisp15 w))
  | 0x01 => some (.jltUBrc (fieldS1 w) (fieldConst4 w) (fieldDisp15 w))
  | _ => none

/-- First byte 0x3D, format BRC: op2 is bits 31:31 (31 R250). -/
noncomputable def decodeBrc3D (w : Word) : Option Instr :=
  match bitsOf w.toNat 31 1 with
  | 0x00 => some (.jltBrc (fieldS1 w) (fieldConst4 w) (fieldDisp15 w))
  | 0x01 => some (.jnedBrc (fieldS1 w) (fieldConst4 w) (fieldDisp15 w))
  | _ => none

/-- First byte 0x3F, format BRC: op2 is bits 31:31 (31 R250). -/
noncomputable def decodeBrc3F (w : Word) : Option Instr :=
  match bitsOf w.toNat 31 1 with
  | 0x00 => some (.jneiBrc (fieldS1 w) (fieldConst4 w) (fieldDisp15 w))
  | 0x01 => some (.jneBrc (fieldS1 w) (fieldConst4 w) (fieldDisp15 w))
  | _ => none

/-- First byte 0x41, format BRR: op2 is bits 31:31 (31 R250). -/
noncomputable def decodeBrr41 (w : Word) : Option Instr :=
  match bitsOf w.toNat 31 1 with
  | 0x00 => some (.jeqABrr (fieldS1 w) (fieldS2 w) (fieldDisp15 w))
  | 0x01 => some (.jeqBrr (fieldS1 w) (fieldS2 w) (fieldDisp15 w))
  | _ => none

/-- First byte 0x43, format BRR: op2 is bits 31:31 (31 R250). -/
noncomputable def decodeBrr43 (w : Word) : Option Instr :=
  match bitsOf w.toNat 31 1 with
  | 0x00 => some (.jgeUBrr (fieldS1 w) (fieldS2 w) (fieldDisp15 w))
  | 0x01 => some (.jgeBrr (fieldS1 w) (fieldS2 w) (fieldDisp15 w))
  | _ => none

/-- First byte 0x45, format BRR: op2 is bits 31:31 (31 R250). -/
noncomputable def decodeBrr45 (w : Word) : Option Instr :=
  match bitsOf w.toNat 31 1 with
  | 0x00 => some (.jltUBrr (fieldS1 w) (fieldS2 w) (fieldDisp15 w))
  | 0x01 => some (.jltBrr (fieldS1 w) (fieldS2 w) (fieldDisp15 w))
  | _ => none

/-- First byte 0x47, format BRR: op2 is bits 31:31 (31 R250). -/
noncomputable def decodeBrr47 (w : Word) : Option Instr :=
  match bitsOf w.toNat 31 1 with
  | 0x00 => some (.jneABrr (fieldS1 w) (fieldS2 w) (fieldDisp15 w))
  | 0x01 => some (.jnedBrr (fieldS1 w) (fieldS2 w) (fieldDisp15 w))
  | _ => none

/-- First byte 0x49, format BRR: op2 is bits 31:31 (31 R250). -/
noncomputable def decodeBrr49 (w : Word) : Option Instr :=
  match bitsOf w.toNat 31 1 with
  | 0x00 => some (.jneiBrr (fieldS1 w) (fieldS2 w) (fieldDisp15 w))
  | 0x01 => some (.jneBrr (fieldS1 w) (fieldS2 w) (fieldDisp15 w))
  | _ => none

/-- First byte 0x4B, format BRR: op2 is bits 31:31 (31 R250). -/
noncomputable def decodeBrr4B (w : Word) : Option Instr :=
  match bitsOf w.toNat 31 1 with
  | 0x00 => some (.jnzABrr (fieldS1 w) (fieldDisp15 w))
  | 0x01 => some (.jzABrr (fieldS1 w) (fieldDisp15 w))
  | _ => none

/-- First byte 0x4D, format BRR: op2 is bits 31:31 (31 R250). -/
noncomputable def decodeBrr4D (w : Word) : Option Instr :=
  match bitsOf w.toNat 31 1 with
  | 0x00 => some (.loopBrr (fieldS1 w) (fieldDisp15 w))
  | _ => none

/-- First byte 0x4F, format RC, the upper bits of op2 0: its lower 4 bits select the form (31 R250). -/
noncomputable def decodeRc4Fx0 (w : Word) : Option Instr :=
  match bitsOf w.toNat 21 4 with
  | 0x0 => some (.absdifsRc (fieldD w) (fieldS1 w) (fieldConst9 w))
  | 0x1 => some (.absdifRc (fieldD w) (fieldS1 w) (fieldConst9 w))
  | 0x2 => some (.addcRc (fieldD w) (fieldS1 w) (fieldConst9 w))
  | 0x3 => some (.addsURc (fieldD w) (fieldS1 w) (fieldConst9 w))
  | 0x4 => some (.addsRc (fieldD w) (fieldS1 w) (fieldConst9 w))
  | 0x5 => some (.addxRc (fieldD w) (fieldS1 w) (fieldConst9 w))
  | 0x6 => some (.addRc (fieldD w) (fieldS1 w) (fieldConst9 w))
  | 0x7 => some (.andEqRc (fieldD w) (fieldS1 w) (fieldConst9 w))
  | 0x8 => some (.andGeURc (fieldD w) (fieldS1 w) (fieldConst9 w))
  | 0x9 => some (.andGeRc (fieldD w) (fieldS1 w) (fieldConst9 w))
  | 0xA => some (.andLtURc (fieldD w) (fieldS1 w) (fieldConst9 w))
  | 0xB => some (.andLtRc (fieldD w) (fieldS1 w) (fieldConst9 w))
  | 0xC => some (.andNeRc (fieldD w) (fieldS1 w) (fieldConst9 w))
  | 0xD => some (.andnRc (fieldD w) (fieldS1 w) (fieldConst9 w))
  | 0xE => some (.andRc (fieldD w) (fieldS1 w) (fieldConst9 w))
  | 0xF => some (.bisrRc (fieldConst9 w))
  | _ => none

/-- First byte 0x4F, format RC, the upper bits of op2 1: its lower 4 bits select the form (31 R250). -/
noncomputable def decodeRc4Fx1 (w : Word) : Option Instr :=
  match bitsOf w.toNat 21 4 with
  | 0x0 => some (.eqanyBRc (fieldD w) (fieldS1 w) (fieldConst9 w))
  | 0x1 => some (.eqanyHRc (fieldD w) (fieldS1 w) (fieldConst9 w))
  | 0x2 => some (.eqRc (fieldD w) (fieldS1 w) (fieldConst9 w))
  | 0x3 => some (.geURc (fieldD w) (fieldS1 w) (fieldConst9 w))
  | 0x4 => some (.geRc (fieldD w) (fieldS1 w) (fieldConst9 w))
  | 0x5 => some (.ltURc (fieldD w) (fieldS1 w) (fieldConst9 w))
  | 0x6 => some (.ltRc (fieldD w) (fieldS1 w) (fieldConst9 w))
  | 0x7 => some (.maxURc (fieldD w) (fieldS1 w) (fieldConst9 w))
  | 0x8 => some (.maxRc (fieldD w) (fieldS1 w) (fieldConst9 w))
  | 0x9 => some (.minURc (fieldD w) (fieldS1 w) (fieldConst9 w))
  | 0xA => some (.minRc (fieldD w) (fieldS1 w) (fieldConst9 w))
  | 0xB => some (.mulmURc (fieldD w) (fieldS1 w) (fieldConst9 w))
  | 0xC => some (.mulmRc (fieldD w) (fieldS1 w) (fieldConst9 w))
  | 0xD => some (.mulsURc (fieldD w) (fieldS1 w) (fieldConst9 w))
  | 0xE => some (.mulsRc (fieldD w) (fieldS1 w) (fieldConst9 w))
  | 0xF => some (.mulRc (fieldD w) (fieldS1 w) (fieldConst9 w))
  | _ => none

/-- First byte 0x4F, format RC, the upper bits of op2 2: its lower 4 bits select the form (31 R250). -/
noncomputable def decodeRc4Fx2 (w : Word) : Option Instr :=
  match bitsOf w.toNat 21 4 with
  | 0x0 => some (.nandRc (fieldD w) (fieldS1 w) (fieldConst9 w))
  | 0x1 => some (.neRc (fieldD w) (fieldS1 w) (fieldConst9 w))
  | 0x2 => some (.norRc (fieldD w) (fieldS1 w) (fieldConst9 w))
  | 0x3 => some (.orEqRc (fieldD w) (fieldS1 w) (fieldConst9 w))
  | 0x4 => some (.orGeURc (fieldD w) (fieldS1 w) (fieldConst9 w))
  | 0x5 => some (.orGeRc (fieldD w) (fieldS1 w) (fieldConst9 w))
  | 0x6 => some (.orLtURc (fieldD w) (fieldS1 w) (fieldConst9 w))
  | 0x7 => some (.orLtRc (fieldD w) (fieldS1 w) (fieldConst9 w))
  | 0x8 => some (.orNeRc (fieldD w) (fieldS1 w) (fieldConst9 w))
  | 0x9 => some (.ornRc (fieldD w) (fieldS1 w) (fieldConst9 w))
  | 0xA => some (.orRc (fieldD w) (fieldS1 w) (fieldConst9 w))
  | 0xB => some (.rsubsURc (fieldD w) (fieldS1 w) (fieldConst9 w))
  | 0xC => some (.rsubsRc (fieldD w) (fieldS1 w) (fieldConst9 w))
  | 0xD => some (.rsubRc (fieldD w) (fieldS1 w) (fieldConst9 w))
  | 0xE => some (.shBRc (fieldD w) (fieldS1 w) (fieldConst9 w))
  | 0xF => some (.shEqRc (fieldD w) (fieldS1 w) (fieldConst9 w))
  | _ => none

/-- First byte 0x4F, format RC, the upper bits of op2 3: its lower 4 bits select the form (31 R250). -/
noncomputable def decodeRc4Fx3 (w : Word) : Option Instr :=
  match bitsOf w.toNat 21 4 with
  | 0x0 => some (.shGeURc (fieldD w) (fieldS1 w) (fieldConst9 w))
  | 0x1 => some (.shGeRc (fieldD w) (fieldS1 w) (fieldConst9 w))
  | 0x2 => some (.shHRc (fieldD w) (fieldS1 w) (fieldConst9 w))
  | 0x3 => some (.shLtURc (fieldD w) (fieldS1 w) (fieldConst9 w))
  | 0x4 => some (.shLtRc (fieldD w) (fieldS1 w) (fieldConst9 w))
  | 0x5 => some (.shNeRc (fieldD w) (fieldS1 w) (fieldConst9 w))
  | 0x6 => some (.shaBRc (fieldD w) (fieldS1 w) (fieldConst9 w))
  | 0x7 => some (.shaHRc (fieldD w) (fieldS1 w) (fieldConst9 w))
  | 0x8 => some (.shasRc (fieldD w) (fieldS1 w) (fieldConst9 w))
  | 0x9 => some (.shaRc (fieldD w) (fieldS1 w) (fieldConst9 w))
  | 0xA => some (.shRc (fieldD w) (fieldS1 w) (fieldConst9 w))
  | 0xB => some (.syscallRc (fieldConst9 w))
  | 0xC => some (.xnorRc (fieldD w) (fieldS1 w) (fieldConst9 w))
  | 0xD => some (.xorEqRc (fieldD w) (fieldS1 w) (fieldConst9 w))
  | 0xE => some (.xorGeURc (fieldD w) (fieldS1 w) (fieldConst9 w))
  | 0xF => some (.xorGeRc (fieldD w) (fieldS1 w) (fieldConst9 w))
  | _ => none

/-- First byte 0x4F, format RC, the upper bits of op2 4: its lower 4 bits select the form (31 R250). -/
noncomputable def decodeRc4Fx4 (w : Word) : Option Instr :=
  match bitsOf w.toNat 21 4 with
  | 0x0 => some (.xorLtURc (fieldD w) (fieldS1 w) (fieldConst9 w))
  | 0x1 => some (.xorLtRc (fieldD w) (fieldS1 w) (fieldConst9 w))
  | 0x2 => some (.xorNeRc (fieldD w) (fieldS1 w) (fieldConst9 w))
  | 0x3 => some (.xorRc (fieldD w) (fieldS1 w) (fieldConst9 w))
  | _ => none

/-- First byte 0x4F, format RC: op2 is bits 27:21. -/
noncomputable def decodeRc4F (w : Word) : Option Instr :=
  match bitsOf w.toNat 25 3 with
  | 0x0 => decodeRc4Fx0 w
  | 0x1 => decodeRc4Fx1 w
  | 0x2 => decodeRc4Fx2 w
  | 0x3 => decodeRc4Fx3 w
  | 0x4 => decodeRc4Fx4 w
  | _ => none

/-- First byte 0x51, format RCPW: op2 is bits 22:21 (31 R250). -/
noncomputable def decodeRcpw51 (w : Word) : Option Instr :=
  match bitsOf w.toNat 21 2 with
  | 0x00 => some (.imaskRcpw (fieldD w) (fieldConst4 w) (fieldP w) (fieldWidth w))
  | 0x01 => some (.insertRcpw (fieldD w) (fieldS1 w) (fieldConst4 w) (fieldP w) (fieldWidth w))
  | _ => none

/-- First byte 0x53, format RCR: op2 is bits 23:21 (31 R250). -/
noncomputable def decodeRcr53 (w : Word) : Option Instr :=
  match bitsOf w.toNat 21 3 with
  | 0x00 => some (.caddARcr (fieldD w) (fieldS3 w) (fieldS1 w) (fieldConst9 w))
  | 0x01 => some (.caddnARcr (fieldD w) (fieldS3 w) (fieldS1 w) (fieldConst9 w))
  | 0x02 => some (.caddnRcr (fieldD w) (fieldS3 w) (fieldS1 w) (fieldConst9 w))
  | 0x03 => some (.caddRcr (fieldD w) (fieldS3 w) (fieldS1 w) (fieldConst9 w))
  | 0x04 => some (.maddmURcr (fieldD w) (fieldS3 w) (fieldS1 w) (fieldConst9 w))
  | 0x05 => some (.maddmsURcr (fieldD w) (fieldS3 w) (fieldS1 w) (fieldConst9 w))
  | 0x06 => some (.maddmsRcr (fieldD w) (fieldS3 w) (fieldS1 w) (fieldConst9 w))
  | 0x07 => some (.maddmRcr (fieldD w) (fieldS3 w) (fieldS1 w) (fieldConst9 w))
  | _ => none

/-- First byte 0x55, format RCR: op2 is bits 23:21 (31 R250). -/
noncomputable def decodeRcr55 (w : Word) : Option Instr :=
  match bitsOf w.toNat 21 3 with
  | 0x00 => some (.maddsURcr (fieldD w) (fieldS3 w) (fieldS1 w) (fieldConst9 w))
  | 0x01 => some (.maddsRcr (fieldD w) (fieldS3 w) (fieldS1 w) (fieldConst9 w))
  | 0x02 => some (.maddRcr (fieldD w) (fieldS3 w) (fieldS1 w) (fieldConst9 w))
  | 0x03 => some (.msubmURcr (fieldD w) (fieldS3 w) (fieldS1 w) (fieldConst9 w))
  | 0x04 => some (.msubmsURcr (fieldD w) (fieldS3 w) (fieldS1 w) (fieldConst9 w))
  | 0x05 => some (.msubmsRcr (fieldD w) (fieldS3 w) (fieldS1 w) (fieldConst9 w))
  | 0x06 => some (.msubmRcr (fieldD w) (fieldS3 w) (fieldS1 w) (fieldConst9 w))
  | 0x07 => some (.msubsURcr (fieldD w) (fieldS3 w) (fieldS1 w) (fieldConst9 w))
  | _ => none

/-- First byte 0x57, format RCR: op2 is bits 23:21 (31 R250). -/
noncomputable def decodeRcr57 (w : Word) : Option Instr :=
  match bitsOf w.toNat 21 3 with
  | 0x00 => some (.msubsRcr (fieldD w) (fieldS3 w) (fieldS1 w) (fieldConst9 w))
  | 0x01 => some (.msubRcr (fieldD w) (fieldS3 w) (fieldS1 w) (fieldConst9 w))
  | 0x02 => some (.selARcr (fieldD w) (fieldS3 w) (fieldS1 w) (fieldConst9 w))
  | 0x03 => some (.selnARcr (fieldD w) (fieldS3 w) (fieldS1 w) (fieldConst9 w))
  | 0x04 => some (.selnRcr (fieldD w) (fieldS3 w) (fieldS1 w) (fieldConst9 w))
  | 0x05 => some (.selRcr (fieldD w) (fieldS3 w) (fieldS1 w) (fieldConst9 w))
  | _ => none

/-- First byte 0x59, format RCRR: op2 is bits 23:21 (31 R250). -/
noncomputable def decodeRcrr59 (w : Word) : Option Instr :=
  match bitsOf w.toNat 21 3 with
  | 0x00 => some (.insertRcrr (fieldD w) (fieldS1 w) (fieldConst4 w) (fieldS3 w))
  | _ => none

/-- First byte 0x5B, format RCRW: op2 is bits 23:21 (31 R250). -/
noncomputable def decodeRcrw5B (w : Word) : Option Instr :=
  match bitsOf w.toNat 21 3 with
  | 0x00 => some (.imaskRcrw (fieldD w) (fieldConst4 w) (fieldS3 w) (fieldWidth w))
  | 0x01 => some (.insertRcrw (fieldD w) (fieldS1 w) (fieldConst4 w) (fieldS3 w) (fieldWidth w))
  | _ => none

/-- First byte 0x6F, format RR, the upper bits of op2 0: its lower 4 bits select the form (31 R250). -/
noncomputable def decodeRr6Fx0 (w : Word) : Option Instr :=
  match bitsOf w.toNat 20 4 with
  | 0x0 => some (.absBRr (fieldD w) (fieldS1 w))
  | 0x1 => some (.absHRr (fieldD w) (fieldS1 w))
  | 0x2 => some (.absdifBRr (fieldD w) (fieldS1 w) (fieldS2 w))
  | 0x3 => some (.absdifHRr (fieldD w) (fieldS1 w) (fieldS2 w))
  | 0x4 => some (.absdifsBRr (fieldD w) (fieldS1 w) (fieldS2 w))
  | 0x5 => some (.absdifsHRr (fieldD w) (fieldS1 w) (fieldS2 w))
  | 0x6 => some (.absdifsRr (fieldD w) (fieldS1 w) (fieldS2 w))
  | 0x7 => some (.absdifRr (fieldD w) (fieldS1 w) (fieldS2 w))
  | 0x8 => some (.abssBRr (fieldD w) (fieldS1 w))
  | 0x9 => some (.abssHRr (fieldD w) (fieldS1 w))
  | 0xA => some (.abssRr (fieldD w) (fieldS1 w))
  | 0xB => some (.absRr (fieldD w) (fieldS1 w))
  | 0xC => some (.addARr (fieldD w) (fieldS1 w) (fieldS2 w))
  | 0xD => some (.addBRr (fieldD w) (fieldS1 w) (fieldS2 w))
  | 0xE => some (.addHRr (fieldD w) (fieldS1 w) (fieldS2 w))
  | 0xF => some (.addcRr (fieldD w) (fieldS1 w) (fieldS2 w))
  | _ => none

/-- First byte 0x6F, format RR, the upper bits of op2 1: its lower 4 bits select the form (31 R250). -/
noncomputable def decodeRr6Fx1 (w : Word) : Option Instr :=
  match bitsOf w.toNat 20 4 with
  | 0x0 => some (.addsBuRr (fieldD w) (fieldS1 w) (fieldS2 w))
  | 0x1 => some (.addsBRr (fieldD w) (fieldS1 w) (fieldS2 w))
  | 0x2 => some (.addsHuRr (fieldD w) (fieldS1 w) (fieldS2 w))
  | 0x3 => some (.addsHRr (fieldD w) (fieldS1 w) (fieldS2 w))
  | 0x4 => some (.addsURr (fieldD w) (fieldS1 w) (fieldS2 w))
  | 0x5 => some (.addscAtRr (fieldD w) (fieldS1 w) (fieldS2 w))
  | 0x6 => some (.addscARr (fieldD w) (fieldS1 w) (fieldS2 w) (fieldN w))
  | 0x7 => some (.addsRr (fieldD w) (fieldS1 w) (fieldS2 w))
  | 0x8 => some (.addxRr (fieldD w) (fieldS1 w) (fieldS2 w))
  | 0x9 => some (.addRr (fieldD w) (fieldS1 w) (fieldS2 w))
  | 0xA => some (.andEqRr (fieldD w) (fieldS1 w) (fieldS2 w))
  | 0xB => some (.andGeURr (fieldD w) (fieldS1 w) (fieldS2 w))
  | 0xC => some (.andGeRr (fieldD w) (fieldS1 w) (fieldS2 w))
  | 0xD => some (.andLtURr (fieldD w) (fieldS1 w) (fieldS2 w))
  | 0xE => some (.andLtRr (fieldD w) (fieldS1 w) (fieldS2 w))
  | 0xF => some (.andNeRr (fieldD w) (fieldS1 w) (fieldS2 w))
  | _ => none

/-- First byte 0x6F, format RR, the upper bits of op2 2: its lower 4 bits select the form (31 R250). -/
noncomputable def decodeRr6Fx2 (w : Word) : Option Instr :=
  match bitsOf w.toNat 20 4 with
  | 0x0 => some (.andnRr (fieldD w) (fieldS1 w) (fieldS2 w))
  | 0x1 => some (.andRr (fieldD w) (fieldS1 w) (fieldS2 w))
  | 0x2 => some (.calliRr (fieldS2 w))
  | 0x3 => some (.cloBRr (fieldD w) (fieldS1 w))
  | 0x4 => some (.cloHRr (fieldD w) (fieldS1 w))
  | 0x5 => some (.cloRr (fieldD w) (fieldS1 w))
  | 0x6 => some (.clsBRr (fieldD w) (fieldS1 w))
  | 0x7 => some (.clsHRr (fieldD w) (fieldS1 w))
  | 0x8 => some (.clsRr (fieldD w) (fieldS1 w))
  | 0x9 => some (.clzBRr (fieldD w) (fieldS1 w))
  | 0xA => some (.clzHRr (fieldD w) (fieldS1 w))
  | 0xB => some (.clzRr (fieldD w) (fieldS1 w))
  | 0xC => some (.difscARr (fieldD w) (fieldS1 w) (fieldS2 w) (fieldN w))
  | 0xD => some (.dvinitBuRr (fieldD w) (fieldS1 w) (fieldS2 w))
  | 0xE => some (.dvinitBRr (fieldD w) (fieldS1 w) (fieldS2 w))
  | 0xF => some (.dvinitHuRr (fieldD w) (fieldS1 w) (fieldS2 w))
  | _ => none

/-- First byte 0x6F, format RR, the upper bits of op2 3: its lower 4 bits select the form (31 R250). -/
noncomputable def decodeRr6Fx3 (w : Word) : Option Instr :=
  match bitsOf w.toNat 20 4 with
  | 0x0 => some (.dvinitHRr (fieldD w) (fieldS1 w) (fieldS2 w))
  | 0x1 => some (.dvinitURr (fieldD w) (fieldS1 w) (fieldS2 w))
  | 0x2 => some (.dvinitRr (fieldD w) (fieldS1 w) (fieldS2 w))
  | 0x3 => some (.eqARr (fieldD w) (fieldS1 w) (fieldS2 w))
  | 0x4 => some (.eqBRr (fieldD w) (fieldS1 w) (fieldS2 w))
  | 0x5 => some (.eqHRr (fieldD w) (fieldS1 w) (fieldS2 w))
  | 0x6 => some (.eqWRr (fieldD w) (fieldS1 w) (fieldS2 w))
  | 0x7 => some (.eqanyBRr (fieldD w) (fieldS1 w) (fieldS2 w))
  | 0x8 => some (.eqanyHRr (fieldD w) (fieldS1 w) (fieldS2 w))
  | 0x9 => some (.eqzARr (fieldD w) (fieldS1 w))
  | 0xA => some (.eqRr (fieldD w) (fieldS1 w) (fieldS2 w))
  | 0xB => some (.geARr (fieldD w) (fieldS1 w) (fieldS2 w))
  | 0xC => some (.geURr (fieldD w) (fieldS1 w) (fieldS2 w))
  | 0xD => some (.geRr (fieldD w) (fieldS1 w) (fieldS2 w))
  | 0xE => some (.jiRr (fieldS2 w))
  | 0xF => some (.jliRr (fieldS2 w))
  | _ => none

/-- First byte 0x6F, format RR, the upper bits of op2 4: its lower 4 bits select the form (31 R250). -/
noncomputable def decodeRr6Fx4 (w : Word) : Option Instr :=
  match bitsOf w.toNat 20 4 with
  | 0x0 => some (.ltARr (fieldD w) (fieldS1 w) (fieldS2 w))
  | 0x1 => some (.ltBuRr (fieldD w) (fieldS1 w) (fieldS2 w))
  | 0x2 => some (.ltBRr (fieldD w) (fieldS1 w) (fieldS2 w))
  | 0x3 => some (.ltHuRr (fieldD w) (fieldS1 w) (fieldS2 w))
  | 0x4 => some (.ltHRr (fieldD w) (fieldS1 w) (fieldS2 w))
  | 0x5 => some (.ltURr (fieldD w) (fieldS1 w) (fieldS2 w))
  | 0x6 => some (.ltWuRr (fieldD w) (fieldS1 w) (fieldS2 w))
  | 0x7 => some (.ltWRr (fieldD w) (fieldS1 w) (fieldS2 w))
  | 0x8 => some (.ltRr (fieldD w) (fieldS1 w) (fieldS2 w))
  | 0x9 => some (.maxBuRr (fieldD w) (fieldS1 w) (fieldS2 w))
  | 0xA => some (.maxBRr (fieldD w) (fieldS1 w) (fieldS2 w))
  | 0xB => some (.maxHuRr (fieldD w) (fieldS1 w) (fieldS2 w))
  | 0xC => some (.maxHRr (fieldD w) (fieldS1 w) (fieldS2 w))
  | 0xD => some (.maxURr (fieldD w) (fieldS1 w) (fieldS2 w))
  | 0xE => some (.maxRr (fieldD w) (fieldS1 w) (fieldS2 w))
  | 0xF => some (.minBuRr (fieldD w) (fieldS1 w) (fieldS2 w))
  | _ => none

/-- First byte 0x6F, format RR, the upper bits of op2 5: its lower 4 bits select the form (31 R250). -/
noncomputable def decodeRr6Fx5 (w : Word) : Option Instr :=
  match bitsOf w.toNat 20 4 with
  | 0x0 => some (.minBRr (fieldD w) (fieldS1 w) (fieldS2 w))
  | 0x1 => some (.minHuRr (fieldD w) (fieldS1 w) (fieldS2 w))
  | 0x2 => some (.minHRr (fieldD w) (fieldS1 w) (fieldS2 w))
  | 0x3 => some (.minURr (fieldD w) (fieldS1 w) (fieldS2 w))
  | 0x4 => some (.minRr (fieldD w) (fieldS1 w) (fieldS2 w))
  | 0x5 => some (.movAaRr (fieldD w) (fieldS2 w))
  | 0x6 => some (.movARr (fieldD w) (fieldS2 w))
  | 0x7 => some (.movDRr (fieldD w) (fieldS2 w))
  | 0x8 => some (.movRr (fieldD w) (fieldS2 w))
  | 0x9 => some (.mulHRr (fieldD w) (fieldS1 w) (fieldS2 w) (fieldN w))
  | 0xA => some (.mulQRr (fieldD w) (fieldS1 w) (fieldS2 w) (fieldN w))
  | 0xB => some (.mulmURr (fieldD w) (fieldS1 w) (fieldS2 w))
  | 0xC => some (.mulmRr (fieldD w) (fieldS1 w) (fieldS2 w))
  | 0xD => some (.mulrHRr (fieldD w) (fieldS1 w) (fieldS2 w) (fieldN w))
  | 0xE => some (.mulrQRr (fieldD w) (fieldS1 w) (fieldS2 w) (fieldN w))
  | 0xF => some (.mulsURr (fieldD w) (fieldS1 w) (fieldS2 w))
  | _ => none

/-- First byte 0x6F, format RR, the upper bits of op2 6: its lower 4 bits select the form (31 R250). -/
noncomputable def decodeRr6Fx6 (w : Word) : Option Instr :=
  match bitsOf w.toNat 20 4 with
  | 0x0 => some (.mulsRr (fieldD w) (fieldS1 w) (fieldS2 w))
  | 0x1 => some (.mulRr (fieldD w) (fieldS1 w) (fieldS2 w))
  | 0x2 => some (.nandRr (fieldD w) (fieldS1 w) (fieldS2 w))
  | 0x3 => some (.neARr (fieldD w) (fieldS1 w) (fieldS2 w))
  | 0x4 => some (.nezARr (fieldD w) (fieldS1 w))
  | 0x5 => some (.neRr (fieldD w) (fieldS1 w) (fieldS2 w))
  | 0x6 => some (.norRr (fieldD w) (fieldS1 w) (fieldS2 w))
  | 0x7 => some (.orEqRr (fieldD w) (fieldS1 w) (fieldS2 w))
  | 0x8 => some (.orGeURr (fieldD w) (fieldS1 w) (fieldS2 w))
  | 0x9 => some (.orGeRr (fieldD w) (fieldS1 w) (fieldS2 w))
  | 0xA => some (.orLtURr (fieldD w) (fieldS1 w) (fieldS2 w))
  | 0xB => some (.orLtRr (fieldD w) (fieldS1 w) (fieldS2 w))
  | 0xC => some (.orNeRr (fieldD w) (fieldS1 w) (fieldS2 w))
  | 0xD => some (.ornRr (fieldD w) (fieldS1 w) (fieldS2 w))
  | 0xE => some (.orRr (fieldD w) (fieldS1 w) (fieldS2 w))
  | 0xF => some (.satBuRr (fieldD w) (fieldS1 w))
  | _ => none

/-- First byte 0x6F, format RR, the upper bits of op2 7: its lower 4 bits select the form (31 R250). -/
noncomputable def decodeRr6Fx7 (w : Word) : Option Instr :=
  match bitsOf w.toNat 20 4 with
  | 0x0 => some (.satBRr (fieldD w) (fieldS1 w))
  | 0x1 => some (.satHuRr (fieldD w) (fieldS1 w))
  | 0x2 => some (.satHRr (fieldD w) (fieldS1 w))
  | 0x3 => some (.shBRr (fieldD w) (fieldS1 w) (fieldS2 w))
  | 0x4 => some (.shEqRr (fieldD w) (fieldS1 w) (fieldS2 w))
  | 0x5 => some (.shGeURr (fieldD w) (fieldS1 w) (fieldS2 w))
  | 0x6 => some (.shGeRr (fieldD w) (fieldS1 w) (fieldS2 w))
  | 0x7 => some (.shHRr (fieldD w) (fieldS1 w) (fieldS2 w))
  | 0x8 => some (.shLtURr (fieldD w) (fieldS1 w) (fieldS2 w))
  | 0x9 => some (.shLtRr (fieldD w) (fieldS1 w) (fieldS2 w))
  | 0xA => some (.shNeRr (fieldD w) (fieldS1 w) (fieldS2 w))
  | 0xB => some (.shaBRr (fieldD w) (fieldS1 w) (fieldS2 w))
  | 0xC => some (.shaHRr (fieldD w) (fieldS1 w) (fieldS2 w))
  | 0xD => some (.shasRr (fieldD w) (fieldS1 w) (fieldS2 w))
  | 0xE => some (.shaRr (fieldD w) (fieldS1 w) (fieldS2 w))
  | 0xF => some (.shRr (fieldD w) (fieldS1 w) (fieldS2 w))
  | _ => none

/-- First byte 0x6F, format RR, the upper bits of op2 8: its lower 4 bits select the form (31 R250). -/
noncomputable def decodeRr6Fx8 (w : Word) : Option Instr :=
  match bitsOf w.toNat 20 4 with
  | 0x0 => some (.subARr (fieldD w) (fieldS1 w) (fieldS2 w))
  | 0x1 => some (.subBRr (fieldD w) (fieldS1 w) (fieldS2 w))
  | 0x2 => some (.subHRr (fieldD w) (fieldS1 w) (fieldS2 w))
  | 0x3 => some (.subcRr (fieldD w) (fieldS1 w) (fieldS2 w))
  | 0x4 => some (.subsBuRr (fieldD w) (fieldS1 w) (fieldS2 w))
  | 0x5 => some (.subsBRr (fieldD w) (fieldS1 w) (fieldS2 w))
  | 0x6 => some (.subsHuRr (fieldD w) (fieldS1 w) (fieldS2 w))
  | 0x7 => some (.subsHRr (fieldD w) (fieldS1 w) (fieldS2 w))
  | 0x8 => some (.subsURr (fieldD w) (fieldS1 w) (fieldS2 w))
  | 0x9 => some (.subscARr (fieldD w) (fieldS1 w) (fieldS2 w) (fieldN w))
  | 0xA => some (.subsRr (fieldD w) (fieldS1 w) (fieldS2 w))
  | 0xB => some (.subxRr (fieldD w) (fieldS1 w) (fieldS2 w))
  | 0xC => some (.subRr (fieldD w) (fieldS1 w) (fieldS2 w))
  | 0xD => some (.xnorRr (fieldD w) (fieldS1 w) (fieldS2 w))
  | 0xE => some (.xorEqRr (fieldD w) (fieldS1 w) (fieldS2 w))
  | 0xF => some (.xorGeURr (fieldD w) (fieldS1 w) (fieldS2 w))
  | _ => none

/-- First byte 0x6F, format RR, the upper bits of op2 9: its lower 4 bits select the form (31 R250). -/
noncomputable def decodeRr6Fx9 (w : Word) : Option Instr :=
  match bitsOf w.toNat 20 4 with
  | 0x0 => some (.xorGeRr (fieldD w) (fieldS1 w) (fieldS2 w))
  | 0x1 => some (.xorLtURr (fieldD w) (fieldS1 w) (fieldS2 w))
  | 0x2 => some (.xorLtRr (fieldD w) (fieldS1 w) (fieldS2 w))
  | 0x3 => some (.xorNeRr (fieldD w) (fieldS1 w) (fieldS2 w))
  | 0x4 => some (.xorRr (fieldD w) (fieldS1 w) (fieldS2 w))
  | _ => none

/-- First byte 0x6F, format RR: op2 is bits 27:20. -/
noncomputable def decodeRr6F (w : Word) : Option Instr :=
  match bitsOf w.toNat 24 4 with
  | 0x0 => decodeRr6Fx0 w
  | 0x1 => decodeRr6Fx1 w
  | 0x2 => decodeRr6Fx2 w
  | 0x3 => decodeRr6Fx3 w
  | 0x4 => decodeRr6Fx4 w
  | 0x5 => decodeRr6Fx5 w
  | 0x6 => decodeRr6Fx6 w
  | 0x7 => decodeRr6Fx7 w
  | 0x8 => decodeRr6Fx8 w
  | 0x9 => decodeRr6Fx9 w
  | _ => none

/-- First byte 0x71, format RRPW: op2 is bits 22:21 (31 R250). -/
noncomputable def decodeRrpw71 (w : Word) : Option Instr :=
  match bitsOf w.toNat 21 2 with
  | 0x00 => some (.dextrRrpw (fieldD w) (fieldS1 w) (fieldS2 w) (fieldP w))
  | 0x01 => some (.extrURrpw (fieldD w) (fieldS1 w) (fieldP w) (fieldWidth w))
  | 0x02 => some (.extrRrpw (fieldD w) (fieldS1 w) (fieldP w) (fieldWidth w))
  | 0x03 => some (.imaskRrpw (fieldD w) (fieldS2 w) (fieldP w) (fieldWidth w))
  | _ => none

/-- First byte 0x73, format RRPW: op2 is bits 22:21 (31 R250). -/
noncomputable def decodeRrpw73 (w : Word) : Option Instr :=
  match bitsOf w.toNat 21 2 with
  | 0x00 => some (.insertRrpw (fieldD w) (fieldS1 w) (fieldS2 w) (fieldP w) (fieldWidth w))
  | _ => none

/-- First byte 0x75, format RRR: op2 is bits 23:20 (31 R250). -/
noncomputable def decodeRrr75 (w : Word) : Option Instr :=
  match bitsOf w.toNat 20 4 with
  | 0x00 => some (.caddARrr (fieldD w) (fieldS3 w) (fieldS1 w) (fieldS2 w))
  | 0x01 => some (.caddnARrr (fieldD w) (fieldS3 w) (fieldS1 w) (fieldS2 w))
  | 0x02 => some (.caddnRrr (fieldD w) (fieldS3 w) (fieldS1 w) (fieldS2 w))
  | 0x03 => some (.caddRrr (fieldD w) (fieldS3 w) (fieldS1 w) (fieldS2 w))
  | 0x04 => some (.csubARrr (fieldD w) (fieldS3 w) (fieldS1 w) (fieldS2 w))
  | 0x05 => some (.csubnARrr (fieldD w) (fieldS3 w) (fieldS1 w) (fieldS2 w))
  | 0x06 => some (.csubnRrr (fieldD w) (fieldS3 w) (fieldS1 w) (fieldS2 w))
  | 0x07 => some (.csubRrr (fieldD w) (fieldS3 w) (fieldS1 w) (fieldS2 w))
  | 0x08 => some (.dvadjRrr (fieldD w) (fieldS3 w) (fieldS2 w))
  | 0x09 => some (.dvstepURrr (fieldD w) (fieldS3 w) (fieldS2 w))
  | 0x0A => some (.dvstepRrr (fieldD w) (fieldS3 w) (fieldS2 w))
  | 0x0B => some (.maddHRrr (fieldD w) (fieldS3 w) (fieldS1 w) (fieldS2 w) (fieldN w))
  | 0x0C => some (.maddQRrr (fieldD w) (fieldS3 w) (fieldS1 w) (fieldS2 w) (fieldN w))
  | 0x0D => some (.maddmHRrr (fieldD w) (fieldS3 w) (fieldS1 w) (fieldS2 w))
  | 0x0E => some (.maddmQRrr (fieldD w) (fieldS3 w) (fieldS1 w) (fieldS2 w))
  | 0x0F => some (.maddmURrr (fieldD w) (fieldS3 w) (fieldS1 w) (fieldS2 w))
  | _ => none

/-- First byte 0x77, format RRR: op2 is bits 23:20 (31 R250). -/
noncomputable def decodeRrr77 (w : Word) : Option Instr :=
  match bitsOf w.toNat 20 4 with
  | 0x00 => some (.maddmsURrr (fieldD w) (fieldS3 w) (fieldS1 w) (fieldS2 w))
  | 0x01 => some (.maddmsRrr (fieldD w) (fieldS3 w) (fieldS1 w) (fieldS2 w))
  | 0x02 => some (.maddmRrr (fieldD w) (fieldS3 w) (fieldS1 w) (fieldS2 w))
  | 0x03 => some (.maddrHRrr (fieldD w) (fieldS3 w) (fieldS1 w) (fieldS2 w) (fieldN w))
  | 0x04 => some (.maddrQRrr (fieldD w) (fieldS3 w) (fieldS1 w) (fieldS2 w) (fieldN w))
  | 0x05 => some (.maddrsHRrr (fieldD w) (fieldS3 w) (fieldS1 w) (fieldS2 w) (fieldN w))
  | 0x06 => some (.maddrsQRrr (fieldD w) (fieldS3 w) (fieldS1 w) (fieldS2 w) (fieldN w))
  | 0x07 => some (.maddsHRrr (fieldD w) (fieldS3 w) (fieldS1 w) (fieldS2 w) (fieldN w))
  | 0x08 => some (.maddsQRrr (fieldD w) (fieldS3 w) (fieldS1 w) (fieldS2 w) (fieldN w))
  | 0x09 => some (.maddsURrr (fieldD w) (fieldS3 w) (fieldS1 w) (fieldS2 w))
  | 0x0A => some (.maddsRrr (fieldD w) (fieldS3 w) (fieldS1 w) (fieldS2 w))
  | 0x0B => some (.maddRrr (fieldD w) (fieldS3 w) (fieldS1 w) (fieldS2 w))
  | 0x0C => some (.msubHRrr (fieldD w) (fieldS3 w) (fieldS1 w) (fieldS2 w) (fieldN w))
  | 0x0D => some (.msubQRrr (fieldD w) (fieldS3 w) (fieldS1 w) (fieldS2 w) (fieldN w))
  | 0x0E => some (.msubmHRrr (fieldD w) (fieldS3 w) (fieldS1 w) (fieldS2 w))
  | 0x0F => some (.msubmQRrr (fieldD w) (fieldS3 w) (fieldS1 w) (fieldS2 w))
  | _ => none

/-- First byte 0x79, format RRR: op2 is bits 23:20 (31 R250). -/
noncomputable def decodeRrr79 (w : Word) : Option Instr :=
  match bitsOf w.toNat 20 4 with
  | 0x00 => some (.msubmURrr (fieldD w) (fieldS3 w) (fieldS1 w) (fieldS2 w))
  | 0x01 => some (.msubmsURrr (fieldD w) (fieldS3 w) (fieldS1 w) (fieldS2 w))
  | 0x02 => some (.msubmsRrr (fieldD w) (fieldS3 w) (fieldS1 w) (fieldS2 w))
  | 0x03 => some (.msubmRrr (fieldD w) (fieldS3 w) (fieldS1 w) (fieldS2 w))
  | 0x04 => some (.msubrHRrr (fieldD w) (fieldS3 w) (fieldS1 w) (fieldS2 w) (fieldN w))
  | 0x05 => some (.msubrQRrr (fieldD w) (fieldS3 w) (fieldS1 w) (fieldS2 w) (fieldN w))
  | 0x06 => some (.msubrsHRrr (fieldD w) (fieldS3 w) (fieldS1 w) (fieldS2 w) (fieldN w))
  | 0x07 => some (.msubrsQRrr (fieldD w) (fieldS3 w) (fieldS1 w) (fieldS2 w) (fieldN w))
  | 0x08 => some (.msubsHRrr (fieldD w) (fieldS3 w) (fieldS1 w) (fieldS2 w) (fieldN w))
  | 0x09 => some (.msubsQRrr (fieldD w) (fieldS3 w) (fieldS1 w) (fieldS2 w) (fieldN w))
  | 0x0A => some (.msubsURrr (fieldD w) (fieldS3 w) (fieldS1 w) (fieldS2 w))
  | 0x0B => some (.msubsRrr (fieldD w) (fieldS3 w) (fieldS1 w) (fieldS2 w))
  | 0x0C => some (.msubRrr (fieldD w) (fieldS3 w) (fieldS1 w) (fieldS2 w))
  | 0x0D => some (.selARrr (fieldD w) (fieldS3 w) (fieldS1 w) (fieldS2 w))
  | 0x0E => some (.selnARrr (fieldD w) (fieldS3 w) (fieldS1 w) (fieldS2 w))
  | 0x0F => some (.selnRrr (fieldD w) (fieldS3 w) (fieldS1 w) (fieldS2 w))
  | _ => none

/-- First byte 0x7B, format RRR: op2 is bits 23:20 (31 R250). -/
noncomputable def decodeRrr7B (w : Word) : Option Instr :=
  match bitsOf w.toNat 20 4 with
  | 0x00 => some (.selRrr (fieldD w) (fieldS3 w) (fieldS1 w) (fieldS2 w))
  | _ => none

/-- First byte 0x7D, format RRRR: op2 is bits 23:21 (31 R250). -/
noncomputable def decodeRrrr7D (w : Word) : Option Instr :=
  match bitsOf w.toNat 21 3 with
  | 0x00 => some (.dextrRrrr (fieldD w) (fieldS1 w) (fieldS2 w) (fieldS3 w))
  | 0x01 => some (.extrURrrr (fieldD w) (fieldS1 w) (fieldS3 w))
  | 0x02 => some (.extrRrrr (fieldD w) (fieldS1 w) (fieldS3 w))
  | 0x03 => some (.insertRrrr (fieldD w) (fieldS1 w) (fieldS2 w) (fieldS3 w))
  | _ => none

/-- First byte 0x7F, format RRRW: op2 is bits 23:21 (31 R250). -/
noncomputable def decodeRrrw7F (w : Word) : Option Instr :=
  match bitsOf w.toNat 21 3 with
  | 0x00 => some (.extrURrrw (fieldD w) (fieldS1 w) (fieldS3 w) (fieldWidth w))
  | 0x01 => some (.extrRrrw (fieldD w) (fieldS1 w) (fieldS3 w) (fieldWidth w))
  | 0x02 => some (.imaskRrrw (fieldD w) (fieldS2 w) (fieldS3 w) (fieldWidth w))
  | 0x03 => some (.insertRrrw (fieldD w) (fieldS1 w) (fieldS2 w) (fieldS3 w) (fieldWidth w))
  | _ => none

/-- First byte 0x83, format SYS, the upper bits of op2 0: its lower 4 bits select the form (31 R250). -/
noncomputable def decodeSys83x0 (w : Word) : Option Instr :=
  match bitsOf w.toNat 22 4 with
  | 0x0 => some (.debugSys)
  | 0x1 => some (.disableSys)
  | 0x2 => some (.dsyncSys)
  | 0x3 => some (.enableSys)
  | 0x4 => some (.isyncSys)
  | 0x5 => some (.nopSys)
  | 0x6 => some (.retSys)
  | 0x7 => some (.rfeSys)
  | 0x8 => some (.rslcxSys)
  | 0x9 => some (.rstvSys)
  | 0xA => some (.svlcxSys)
  | 0xB => some (.trapsvSys)
  | 0xC => some (.trapvSys)
  | _ => none

/-- First byte 0x83, format SYS: op2 is bits 27:22. -/
noncomputable def decodeSys83 (w : Word) : Option Instr :=
  match bitsOf w.toNat 26 2 with
  | 0x0 => decodeSys83x0 w
  | _ => none

/-- First byte 0x54, format SR: op2 is bits 15:12 (31 R250). -/
noncomputable def decodeSr54 (w : Word) : Option Instr :=
  match bitsOf w.toNat 12 4 with
  | 0x00 => some (.debugSr)
  | 0x01 => some (.movzASr (fieldS1 w))
  | 0x02 => some (.nopSr)
  | 0x03 => some (.notSr (fieldS1 w))
  | 0x04 => some (.retSr)
  | 0x05 => some (.rfeSr)
  | 0x06 => some (.rsubSr (fieldS1 w))
  | 0x07 => some (.satBuSr (fieldS1 w))
  | 0x08 => some (.satBSr (fieldS1 w))
  | 0x09 => some (.satHuSr (fieldS1 w))
  | 0x0A => some (.satHSr (fieldS1 w))
  | _ => none

/-- First bytes 0x00 to 0x0F. -/
noncomputable def decodeRow0 (w : Word) : Option Instr :=
  match bitsOf w.toNat 0 4 with
  | 0x1 => decodeBrn01 w
  | 0x2 => some (.addscASrrs (fieldS1 w) (fieldS2 w) (fieldNSrrs w))
  | 0x3 => decodeAbs03 w
  | 0x4 => some (.jnzTSbrn (fieldBitNumber w) (fieldDisp4 w))
  | 0x5 => decodeAbs05 w
  | 0x6 => some (.jzTSbrn (fieldBitNumber w) (fieldDisp4 w))
  | 0x7 => decodeAbs07 w
  | 0x8 => some (.jnzSb (fieldDisp8 w))
  | 0x9 => decodeAbs09 w
  | 0xA => some (.jzSb (fieldDisp8 w))
  | 0xB => decodeAbs0B w
  | 0xC => some (.jSb (fieldDisp8 w))
  | 0xD => decodeAbs0D w
  | 0xE => some (.jeqSbc (fieldConst4 w) (fieldDisp4 w))
  | 0xF => decodeAbsb0F w
  | _ => none

/-- First bytes 0x10 to 0x1F. -/
noncomputable def decodeRow1 (w : Word) : Option Instr :=
  match bitsOf w.toNat 0 4 with
  | 0x0 => some (.jneSbc (fieldConst4 w) (fieldDisp4 w))
  | 0x1 => some (.callaB (fieldDisp24 w))
  | 0x2 => some (.jeqSbr (fieldS2 w) (fieldDisp4 w))
  | 0x3 => some (.callB (fieldDisp24 w))
  | 0x4 => some (.jgezSbr (fieldS2 w) (fieldDisp4 w))
  | 0x5 => some (.jaB (fieldDisp24 w))
  | 0x6 => some (.jgtzSbr (fieldS2 w) (fieldDisp4 w))
  | 0x7 => some (.jlaB (fieldDisp24 w))
  | 0x8 => some (.jiSbr (fieldS2 w))
  | 0x9 => some (.jlB (fieldDisp24 w))
  | 0xA => some (.jlezSbr (fieldS2 w) (fieldDisp4 w))
  | 0xB => some (.jB (fieldDisp24 w))
  | 0xC => some (.jltzSbr (fieldS2 w) (fieldDisp4 w))
  | 0xD => decodeBit1D w
  | 0xE => some (.jneSbr (fieldS2 w) (fieldDisp4 w))
  | 0xF => decodeBit1F w
  | _ => none

/-- First bytes 0x20 to 0x2F. -/
noncomputable def decodeRow2 (w : Word) : Option Instr :=
  match bitsOf w.toNat 0 4 with
  | 0x0 => some (.jnzASbr (fieldS2 w) (fieldDisp4 w))
  | 0x1 => decodeBit21 w
  | 0x2 => some (.jnzSbr (fieldS2 w) (fieldDisp4 w))
  | 0x3 => decodeBit23 w
  | 0x4 => some (.jzASbr (fieldS2 w) (fieldDisp4 w))
  | 0x5 => decodeBit25 w
  | 0x6 => some (.jzSbr (fieldS2 w) (fieldDisp4 w))
  | 0x7 => decodeBit27 w
  | 0x8 => some (.loopSbr (fieldS2 w) (fieldDisp4 w))
  | 0x9 => decodeBit29 w
  | 0xA => some (.andSc (fieldConst8 w))
  | 0xB => decodeBo2B w
  | 0xC => some (.bisrSc (fieldConst8 w))
  | 0xD => decodeBo2D w
  | 0xE => some (.movSc (fieldConst8 w))
  | 0xF => decodeBo2F w
  | _ => none

/-- First bytes 0x30 to 0x3F. -/
noncomputable def decodeRow3 (w : Word) : Option Instr :=
  match bitsOf w.toNat 0 4 with
  | 0x0 => some (.orSc (fieldConst8 w))
  | 0x1 => some (.ldABol (fieldS1 w) (fieldS2 w) (fieldOff16 w))
  | 0x2 => some (.subASc (fieldConst8 w))
  | 0x3 => some (.ldWBol (fieldS1 w) (fieldS2 w) (fieldOff16 w))
  | 0x4 => some (.ldASlr (fieldS1 w) (fieldS2 w))
  | 0x5 => some (.leaBol (fieldS1 w) (fieldS2 w) (fieldOff16 w))
  | 0x6 => some (.ldASlrPostinc (fieldS1 w) (fieldS2 w))
  | 0x7 => some (.stWBol (fieldS1 w) (fieldS2 w) (fieldOff16 w))
  | 0x8 => some (.ldBuSlr (fieldS1 w) (fieldS2 w))
  | 0x9 => decodeBrc39 w
  | 0xA => some (.ldBuSlrPostinc (fieldS1 w) (fieldS2 w))
  | 0xB => decodeBrc3B w
  | 0xC => some (.ldBSlr (fieldS1 w) (fieldS2 w))
  | 0xD => decodeBrc3D w
  | 0xE => some (.ldBSlrPostinc (fieldS1 w) (fieldS2 w))
  | 0xF => decodeBrc3F w
  | _ => none

/-- First bytes 0x40 to 0x4F. -/
noncomputable def decodeRow4 (w : Word) : Option Instr :=
  match bitsOf w.toNat 0 4 with
  | 0x0 => some (.ldHSlr (fieldS1 w) (fieldS2 w))
  | 0x1 => decodeBrr41 w
  | 0x2 => some (.addscASrrs (fieldS1 w) (fieldS2 w) (fieldNSrrs w))
  | 0x3 => decodeBrr43 w
  | 0x4 => some (.ldHSlrPostinc (fieldS1 w) (fieldS2 w))
  | 0x5 => decodeBrr45 w
  | 0x6 => some (.ldWSlr (fieldS1 w) (fieldS2 w))
  | 0x7 => decodeBrr47 w
  | 0x8 => some (.ldWSlrPostinc (fieldS1 w) (fieldS2 w))
  | 0x9 => decodeBrr49 w
  | 0xA => some (.ldASlro (fieldS1 w) (fieldOff4 w))
  | 0xB => decodeBrr4B w
  | 0xC => some (.ldBuSlro (fieldS1 w) (fieldOff4 w))
  | 0xD => decodeBrr4D w
  | 0xE => some (.ldBSlro (fieldS1 w) (fieldOff4 w))
  | 0xF => decodeRc4F w
  | _ => none

/-- First bytes 0x50 to 0x5F. -/
noncomputable def decodeRow5 (w : Word) : Option Instr :=
  match bitsOf w.toNat 0 4 with
  | 0x0 => some (.ldHSlro (fieldS1 w) (fieldOff4 w))
  | 0x1 => decodeRcpw51 w
  | 0x2 => some (.ldWSlro (fieldS1 w) (fieldOff4 w))
  | 0x3 => decodeRcr53 w
  | 0x4 => decodeSr54 w
  | 0x5 => decodeRcr55 w
  | 0x6 => some (.addSrc (fieldS1 w) (fieldConst4 w))
  | 0x7 => decodeRcr57 w
  | 0x8 => some (.addSrcD15 (fieldS1 w) (fieldConst4 w))
  | 0x9 => decodeRcrr59 w
  | 0xA => some (.caddnSrc (fieldS1 w) (fieldConst4 w))
  | 0xB => decodeRcrw5B w
  | 0xC => some (.caddSrc (fieldS1 w) (fieldConst4 w))
  | 0xD => some (.addihARlc (fieldD w) (fieldS1 w) (fieldConst16 w))
  | 0xE => some (.cmovnSrc (fieldS1 w) (fieldConst4 w))
  | 0xF => some (.addihRlc (fieldD w) (fieldS1 w) (fieldConst16 w))
  | _ => none

/-- First bytes 0x60 to 0x6F. -/
noncomputable def decodeRow6 (w : Word) : Option Instr :=
  match bitsOf w.toNat 0 4 with
  | 0x0 => some (.cmovSrc (fieldS1 w) (fieldConst4 w))
  | 0x1 => some (.addiRlc (fieldD w) (fieldS1 w) (fieldConst16 w))
  | 0x2 => some (.eqSrc (fieldS1 w) (fieldConst4 w))
  | 0x3 => some (.mfcrRlc (fieldD w) (fieldConst16 w))
  | 0x4 => some (.ltUSrc (fieldS1 w) (fieldConst4 w))
  | 0x5 => some (.movURlc (fieldD w) (fieldConst16 w))
  | 0x6 => some (.ltSrc (fieldS1 w) (fieldConst4 w))
  | 0x7 => some (.movhARlc (fieldD w) (fieldConst16 w))
  | 0x8 => some (.movSrc (fieldS1 w) (fieldConst4 w))
  | 0x9 => some (.movhRlc (fieldD w) (fieldConst16 w))
  | 0xA => some (.shaSrc (fieldS1 w) (fieldConst4 w))
  | 0xB => some (.movRlc (fieldD w) (fieldConst16 w))
  | 0xC => some (.shSrc (fieldS1 w) (fieldConst4 w))
  | 0xD => some (.mtcrRlc (fieldConst16 w) (fieldS1 w))
  | 0xE => some (.ldASro (fieldS2 w) (fieldOff4Sro w))
  | 0xF => decodeRr6F w
  | _ => none

/-- First bytes 0x70 to 0x7F. -/
noncomputable def decodeRow7 (w : Word) : Option Instr :=
  match bitsOf w.toNat 0 4 with
  | 0x0 => some (.ldBuSro (fieldS2 w) (fieldOff4Sro w))
  | 0x1 => decodeRrpw71 w
  | 0x2 => some (.ldBSro (fieldS2 w) (fieldOff4Sro w))
  | 0x3 => decodeRrpw73 w
  | 0x4 => some (.ldHSro (fieldS2 w) (fieldOff4Sro w))
  | 0x5 => decodeRrr75 w
  | 0x6 => some (.ldWSro (fieldS2 w) (fieldOff4Sro w))
  | 0x7 => decodeRrr77 w
  | 0x8 => some (.stASro (fieldS2 w) (fieldOff4Sro w))
  | 0x9 => decodeRrr79 w
  | 0xA => some (.stBSro (fieldS2 w) (fieldOff4Sro w))
  | 0xB => decodeRrr7B w
  | 0xC => some (.stHSro (fieldS2 w) (fieldOff4Sro w))
  | 0xD => decodeRrrr7D w
  | 0xE => some (.stWSro (fieldS2 w) (fieldOff4Sro w))
  | 0xF => decodeRrrw7F w
  | _ => none

/-- First bytes 0x80 to 0x8F. -/
noncomputable def decodeRow8 (w : Word) : Option Instr :=
  match bitsOf w.toNat 0 4 with
  | 0x0 => some (.addSrr (fieldS1 w) (fieldS2 w))
  | 0x1 => decodeBrn01 w
  | 0x2 => some (.addscASrrs (fieldS1 w) (fieldS2 w) (fieldNSrrs w))
  | 0x3 => decodeSys83 w
  | 0x4 => some (.jnzTSbrn (fieldBitNumber w) (fieldDisp4 w))
  | 0x6 => some (.jzTSbrn (fieldBitNumber w) (fieldDisp4 w))
  | 0x8 => some (.addSrrD15 (fieldS1 w) (fieldS2 w))
  | 0xA => some (.andSrr (fieldS1 w) (fieldS2 w))
  | 0xC => some (.caddnSrr (fieldS1 w) (fieldS2 w))
  | 0xE => some (.caddSrr (fieldS1 w) (fieldS2 w))
  | _ => none

/-- First bytes 0x90 to 0x9F. -/
noncomputable def decodeRow9 (w : Word) : Option Instr :=
  match bitsOf w.toNat 0 4 with
  | 0x0 => some (.cmovnSrr (fieldS1 w) (fieldS2 w))
  | 0x2 => some (.cmovSrr (fieldS1 w) (fieldS2 w))
  | 0x4 => some (.dvadjSrr (fieldS1 w) (fieldS2 w))
  | 0x6 => some (.dvstepUSrr (fieldS1 w) (fieldS2 w))
  | 0x8 => some (.dvstepSrr (fieldS1 w) (fieldS2 w))
  | 0xA => some (.eqSrr (fieldS1 w) (fieldS2 w))
  | 0xC => some (.ltUSrr (fieldS1 w) (fieldS2 w))
  | 0xE => some (.ltSrr (fieldS1 w) (fieldS2 w))
  | _ => none

/-- First bytes 0xA0 to 0xAF. -/
noncomputable def decodeRowA (w : Word) : Option Instr :=
  match bitsOf w.toNat 0 4 with
  | 0x0 => some (.movAaSrr (fieldS1 w) (fieldS2 w))
  | 0x2 => some (.movASrr (fieldS1 w) (fieldS2 w))
  | 0x4 => some (.movDSrr (fieldS1 w) (fieldS2 w))
  | 0x6 => some (.movSrr (fieldS1 w) (fieldS2 w))
  | 0x8 => some (.mulSrr (fieldS1 w) (fieldS2 w))
  | 0xA => some (.orSrr (fieldS1 w) (fieldS2 w))
  | 0xC => some (.subsSrr (fieldS1 w) (fieldS2 w))
  | 0xE => some (.subSrr (fieldS1 w) (fieldS2 w))
  | _ => none

/-- First bytes 0xB0 to 0xBF. -/
noncomputable def decodeRowB (w : Word) : Option Instr :=
  match bitsOf w.toNat 0 4 with
  | 0x0 => some (.subSrrD15 (fieldS1 w) (fieldS2 w))
  | 0x2 => some (.stASsr (fieldS1 w) (fieldS2 w))
  | 0x4 => some (.stASsrPostinc (fieldS1 w) (fieldS2 w))
  | 0x6 => some (.stBSsr (fieldS1 w) (fieldS2 w))
  | 0x8 => some (.stBSsrPostinc (fieldS1 w) (fieldS2 w))
  | 0xA => some (.stHSsr (fieldS1 w) (fieldS2 w))
  | 0xC => some (.stHSsrPostinc (fieldS1 w) (fieldS2 w))
  | 0xE => some (.stWSsr (fieldS1 w) (fieldS2 w))
  | _ => none

/-- First bytes 0xC0 to 0xCF. -/
noncomputable def decodeRowC (w : Word) : Option Instr :=
  match bitsOf w.toNat 0 4 with
  | 0x0 => some (.stWSsrPostinc (fieldS1 w) (fieldS2 w))
  | 0x2 => some (.addscASrrs (fieldS1 w) (fieldS2 w) (fieldNSrrs w))
  | 0x4 => some (.stASsro (fieldS1 w) (fieldOff4 w))
  | 0x6 => some (.stBSsro (fieldS1 w) (fieldOff4 w))
  | 0x8 => some (.stHSsro (fieldS1 w) (fieldOff4 w))
  | 0xA => some (.stWSsro (fieldS1 w) (fieldOff4 w))
  | _ => none

/-- The form of an instruction word and its operands (30 R233): the first byte selects the format and, with op2, the form. -/
noncomputable def decodeForm (w : Word) : Option Instr :=
  match bitsOf w.toNat 4 4 with
  | 0x0 => decodeRow0 w
  | 0x1 => decodeRow1 w
  | 0x2 => decodeRow2 w
  | 0x3 => decodeRow3 w
  | 0x4 => decodeRow4 w
  | 0x5 => decodeRow5 w
  | 0x6 => decodeRow6 w
  | 0x7 => decodeRow7 w
  | 0x8 => decodeRow8 w
  | 0x9 => decodeRow9 w
  | 0xA => decodeRowA w
  | 0xB => decodeRowB w
  | 0xC => decodeRowC w
  | _ => none

/-- Decoding of an instruction word; a word that matches no form is illegal (30 R235). -/
noncomputable def decodeWord (w : Word) : Except DecodeError Instr :=
  match decodeForm w with
  | some i => .ok i
  | none => .error .illegalOpcode

/-- The length of an instruction in bytes, from its first halfword: bit 0 set means 32 bits (30 R201). -/
def instrLength (w : Word) : Nat := if w.getLsbD 0 then 4 else 2

/-- Decoding of bytes in memory order, little-endian (20 R140): the instruction and the bytes after it. -/
noncomputable def decodeBytes : List Byte → Except DecodeError (Instr × List Byte)
  | b0 :: b1 :: rest =>
    if b0.getLsbD 0 then
      match rest with
      | b2 :: b3 :: rest' =>
        match decodeWord (b3 ++ b2 ++ b1 ++ b0) with
        | .ok i => .ok (i, rest')
        | .error e => .error e
      | _ => .error .tooShort
    else
      match decodeWord ((b1 ++ b0).setWidth 32) with
      | .ok i => .ok (i, rest)
      | .error e => .error e
  | _ => .error .tooShort

/-- The four bytes of `w`, least significant first, with the bits at and above `nbits` zero. -/
def tableWordBytes (nbits w : Nat) : List Byte :=
  let v := w % 2 ^ nbits
  [BitVec.ofNat 8 v, BitVec.ofNat 8 (v / 2 ^ 8), BitVec.ofNat 8 (v / 2 ^ 16), BitVec.ofNat 8 (v / 2 ^ 24)]

/-- The instruction decoded from a word numbered as spec/opcode_table.json numbers it. -/
noncomputable def decodeTableWord (nbits w : Nat) : Option Instr :=
  match decodeBytes (tableWordBytes nbits w) with
  | .ok (i, _) => some i
  | .error _ => none

/-! ## Encoding -/

/-- An encoded instruction: a halfword or a word (30 R200). -/
inductive Encoding where
  | half (h : BitVec 16)
  | word (w : Word)
deriving DecidableEq, Repr

/-- Format ABS, most significant field first (30 R207, R208). -/
def encAbs (op1 : Nat) (op2 : Nat) (a : Reg) (off18 : BitVec 18) : BitVec 32 :=
  BitVec.ofNat 32 (bitsOf off18.toNat 6 4 * 2 ^ 28 + op2 * 2 ^ 26 + bitsOf off18.toNat 10 4 * 2 ^ 22 + bitsOf off18.toNat 0 6 * 2 ^ 16 + bitsOf off18.toNat 14 4 * 2 ^ 12 + a.val * 2 ^ 8 + op1)
/-- Format ABSB, most significant field first (30 R207, R208). -/
def encAbsb (op1 : Nat) (op2 : Nat) (off18 : BitVec 18) (b : BitVec 1) (bpos3 : BitVec 3) : BitVec 32 :=
  BitVec.ofNat 32 (bitsOf off18.toNat 6 4 * 2 ^ 28 + op2 * 2 ^ 26 + bitsOf off18.toNat 10 4 * 2 ^ 22 + bitsOf off18.toNat 0 6 * 2 ^ 16 + bitsOf off18.toNat 14 4 * 2 ^ 12 + b.toNat * 2 ^ 11 + bpos3.toNat * 2 ^ 8 + op1)
/-- Format B, most significant field first (30 R207, R208). -/
def encB (op1 : Nat) (disp24 : BitVec 24) : BitVec 32 :=
  BitVec.ofNat 32 (bitsOf disp24.toNat 0 16 * 2 ^ 16 + bitsOf disp24.toNat 16 8 * 2 ^ 8 + op1)
/-- Format BIT, most significant field first (30 R207, R208). -/
def encBit (op1 : Nat) (op2 : Nat) (a : Reg) (b : Reg) (c : Reg) (p2 : BitVec 5) (p1 : BitVec 5) : BitVec 32 :=
  BitVec.ofNat 32 (c.val * 2 ^ 28 + p2.toNat * 2 ^ 23 + op2 * 2 ^ 21 + p1.toNat * 2 ^ 16 + b.val * 2 ^ 12 + a.val * 2 ^ 8 + op1)
/-- Format BO, most significant field first (30 R207, R208). -/
def encBo (op1 : Nat) (op2 : Nat) (a : Reg) (b : Reg) (off10 : BitVec 10) : BitVec 32 :=
  BitVec.ofNat 32 (bitsOf off10.toNat 6 4 * 2 ^ 28 + op2 * 2 ^ 22 + bitsOf off10.toNat 0 6 * 2 ^ 16 + b.val * 2 ^ 12 + a.val * 2 ^ 8 + op1)
/-- Format BOL, most significant field first (30 R207, R208). -/
def encBol (op1 : Nat) (a : Reg) (b : Reg) (off16 : BitVec 16) : BitVec 32 :=
  BitVec.ofNat 32 (bitsOf off16.toNat 6 4 * 2 ^ 28 + bitsOf off16.toNat 10 6 * 2 ^ 22 + bitsOf off16.toNat 0 6 * 2 ^ 16 + b.val * 2 ^ 12 + a.val * 2 ^ 8 + op1)
/-- Format BRC, most significant field first (30 R207, R208). -/
def encBrc (op1 : Nat) (op2 : Nat) (a : Reg) (disp15 : BitVec 15) (const4 : BitVec 4) : BitVec 32 :=
  BitVec.ofNat 32 (op2 * 2 ^ 31 + disp15.toNat * 2 ^ 16 + const4.toNat * 2 ^ 12 + a.val * 2 ^ 8 + op1)
/-- Format BRN, most significant field first (30 R207, R208). -/
def encBrn (op1 : Nat) (op2 : Nat) (a : Reg) (disp15 : BitVec 15) (n : BitVec 5) : BitVec 32 :=
  BitVec.ofNat 32 (op2 * 2 ^ 31 + disp15.toNat * 2 ^ 16 + bitsOf n.toNat 0 4 * 2 ^ 12 + a.val * 2 ^ 8 + bitsOf n.toNat 4 1 * 2 ^ 7 + op1)
/-- Format BRR, most significant field first (30 R207, R208). -/
def encBrr (op1 : Nat) (op2 : Nat) (a : Reg) (b : Reg) (disp15 : BitVec 15) : BitVec 32 :=
  BitVec.ofNat 32 (op2 * 2 ^ 31 + disp15.toNat * 2 ^ 16 + b.val * 2 ^ 12 + a.val * 2 ^ 8 + op1)
/-- Format RC, most significant field first (30 R207, R208). -/
def encRc (op1 : Nat) (op2 : Nat) (a : Reg) (c : Reg) (const9 : BitVec 9) : BitVec 32 :=
  BitVec.ofNat 32 (c.val * 2 ^ 28 + op2 * 2 ^ 21 + const9.toNat * 2 ^ 12 + a.val * 2 ^ 8 + op1)
/-- Format RCPW, most significant field first (30 R207, R208). -/
def encRcpw (op1 : Nat) (op2 : Nat) (a : Reg) (c : Reg) (p : BitVec 5) (w : BitVec 5) (const4 : BitVec 4) : BitVec 32 :=
  BitVec.ofNat 32 (c.val * 2 ^ 28 + p.toNat * 2 ^ 23 + op2 * 2 ^ 21 + w.toNat * 2 ^ 16 + const4.toNat * 2 ^ 12 + a.val * 2 ^ 8 + op1)
/-- Format RCR, most significant field first (30 R207, R208). -/
def encRcr (op1 : Nat) (op2 : Nat) (a : Reg) (d : Reg) (c : Reg) (const9 : BitVec 9) : BitVec 32 :=
  BitVec.ofNat 32 (c.val * 2 ^ 28 + d.val * 2 ^ 24 + op2 * 2 ^ 21 + const9.toNat * 2 ^ 12 + a.val * 2 ^ 8 + op1)
/-- Format RCRR, most significant field first (30 R207, R208). -/
def encRcrr (op1 : Nat) (op2 : Nat) (a : Reg) (d : Reg) (c : Reg) (const4 : BitVec 4) : BitVec 32 :=
  BitVec.ofNat 32 (c.val * 2 ^ 28 + d.val * 2 ^ 24 + op2 * 2 ^ 21 + const4.toNat * 2 ^ 12 + a.val * 2 ^ 8 + op1)
/-- Format RCRW, most significant field first (30 R207, R208). -/
def encRcrw (op1 : Nat) (op2 : Nat) (a : Reg) (d : Reg) (c : Reg) (w : BitVec 5) (const4 : BitVec 4) : BitVec 32 :=
  BitVec.ofNat 32 (c.val * 2 ^ 28 + d.val * 2 ^ 24 + op2 * 2 ^ 21 + w.toNat * 2 ^ 16 + const4.toNat * 2 ^ 12 + a.val * 2 ^ 8 + op1)
/-- Format RLC, most significant field first (30 R207, R208). -/
def encRlc (op1 : Nat) (a : Reg) (c : Reg) (const16 : BitVec 16) : BitVec 32 :=
  BitVec.ofNat 32 (c.val * 2 ^ 28 + const16.toNat * 2 ^ 12 + a.val * 2 ^ 8 + op1)
/-- Format RR, most significant field first (30 R207, R208). -/
def encRr (op1 : Nat) (op2 : Nat) (a : Reg) (b : Reg) (c : Reg) (n : BitVec 2) : BitVec 32 :=
  BitVec.ofNat 32 (c.val * 2 ^ 28 + op2 * 2 ^ 20 + n.toNat * 2 ^ 16 + b.val * 2 ^ 12 + a.val * 2 ^ 8 + op1)
/-- Format RRPW, most significant field first (30 R207, R208). -/
def encRrpw (op1 : Nat) (op2 : Nat) (a : Reg) (b : Reg) (c : Reg) (p : BitVec 5) (w : BitVec 5) : BitVec 32 :=
  BitVec.ofNat 32 (c.val * 2 ^ 28 + p.toNat * 2 ^ 23 + op2 * 2 ^ 21 + w.toNat * 2 ^ 16 + b.val * 2 ^ 12 + a.val * 2 ^ 8 + op1)
/-- Format RRR, most significant field first (30 R207, R208). -/
def encRrr (op1 : Nat) (op2 : Nat) (a : Reg) (b : Reg) (d : Reg) (c : Reg) (n : BitVec 2) : BitVec 32 :=
  BitVec.ofNat 32 (c.val * 2 ^ 28 + d.val * 2 ^ 24 + op2 * 2 ^ 20 + n.toNat * 2 ^ 16 + b.val * 2 ^ 12 + a.val * 2 ^ 8 + op1)
/-- Format RRRR, most significant field first (30 R207, R208). -/
def encRrrr (op1 : Nat) (op2 : Nat) (a : Reg) (b : Reg) (d : Reg) (c : Reg) : BitVec 32 :=
  BitVec.ofNat 32 (c.val * 2 ^ 28 + d.val * 2 ^ 24 + op2 * 2 ^ 21 + b.val * 2 ^ 12 + a.val * 2 ^ 8 + op1)
/-- Format RRRW, most significant field first (30 R207, R208). -/
def encRrrw (op1 : Nat) (op2 : Nat) (a : Reg) (b : Reg) (d : Reg) (c : Reg) (w : BitVec 5) : BitVec 32 :=
  BitVec.ofNat 32 (c.val * 2 ^ 28 + d.val * 2 ^ 24 + op2 * 2 ^ 21 + w.toNat * 2 ^ 16 + b.val * 2 ^ 12 + a.val * 2 ^ 8 + op1)
/-- Format SYS, most significant field first (30 R207, R208). -/
def encSys (op1 : Nat) (op2 : Nat) : BitVec 32 :=
  BitVec.ofNat 32 (op2 * 2 ^ 22 + op1)
/-- Format SB, most significant field first (30 R207, R208). -/
def encSb (op1 : Nat) (disp8 : BitVec 8) : BitVec 16 :=
  BitVec.ofNat 16 (disp8.toNat * 2 ^ 8 + op1)
/-- Format SBC, most significant field first (30 R207, R208). -/
def encSbc (op1 : Nat) (const4 : BitVec 4) (disp4 : BitVec 4) : BitVec 16 :=
  BitVec.ofNat 16 (const4.toNat * 2 ^ 12 + disp4.toNat * 2 ^ 8 + op1)
/-- Format SBR, most significant field first (30 R207, R208). -/
def encSbr (op1 : Nat) (b : Reg) (disp4 : BitVec 4) : BitVec 16 :=
  BitVec.ofNat 16 (b.val * 2 ^ 12 + disp4.toNat * 2 ^ 8 + op1)
/-- Format SBRN, most significant field first (30 R207, R208). -/
def encSbrn (op1 : Nat) (n : BitVec 5) (disp4 : BitVec 4) : BitVec 16 :=
  BitVec.ofNat 16 (bitsOf n.toNat 0 4 * 2 ^ 12 + disp4.toNat * 2 ^ 8 + bitsOf n.toNat 4 1 * 2 ^ 7 + op1)
/-- Format SC, most significant field first (30 R207, R208). -/
def encSc (op1 : Nat) (const8 : BitVec 8) : BitVec 16 :=
  BitVec.ofNat 16 (const8.toNat * 2 ^ 8 + op1)
/-- Format SLR, most significant field first (30 R207, R208). -/
def encSlr (op1 : Nat) (a : Reg) (b : Reg) : BitVec 16 :=
  BitVec.ofNat 16 (b.val * 2 ^ 12 + a.val * 2 ^ 8 + op1)
/-- Format SLRO, most significant field first (30 R207, R208). -/
def encSlro (op1 : Nat) (a : Reg) (off4 : BitVec 4) : BitVec 16 :=
  BitVec.ofNat 16 (off4.toNat * 2 ^ 12 + a.val * 2 ^ 8 + op1)
/-- Format SR, most significant field first (30 R207, R208). -/
def encSr (op1 : Nat) (op2 : Nat) (a : Reg) : BitVec 16 :=
  BitVec.ofNat 16 (op2 * 2 ^ 12 + a.val * 2 ^ 8 + op1)
/-- Format SRC, most significant field first (30 R207, R208). -/
def encSrc (op1 : Nat) (a : Reg) (const4 : BitVec 4) : BitVec 16 :=
  BitVec.ofNat 16 (const4.toNat * 2 ^ 12 + a.val * 2 ^ 8 + op1)
/-- Format SRO, most significant field first (30 R207, R208). -/
def encSro (op1 : Nat) (b : Reg) (off4 : BitVec 4) : BitVec 16 :=
  BitVec.ofNat 16 (b.val * 2 ^ 12 + off4.toNat * 2 ^ 8 + op1)
/-- Format SRR, most significant field first (30 R207, R208). -/
def encSrr (op1 : Nat) (a : Reg) (b : Reg) : BitVec 16 :=
  BitVec.ofNat 16 (b.val * 2 ^ 12 + a.val * 2 ^ 8 + op1)
/-- Format SRRS, most significant field first (30 R207, R208). -/
def encSrrs (op1 : Nat) (a : Reg) (b : Reg) (n : BitVec 2) : BitVec 16 :=
  BitVec.ofNat 16 (b.val * 2 ^ 12 + a.val * 2 ^ 8 + n.toNat * 2 ^ 6 + op1)
/-- Format SSR, most significant field first (30 R207, R208). -/
def encSsr (op1 : Nat) (a : Reg) (b : Reg) : BitVec 16 :=
  BitVec.ofNat 16 (b.val * 2 ^ 12 + a.val * 2 ^ 8 + op1)
/-- Format SSRO, most significant field first (30 R207, R208). -/
def encSsro (op1 : Nat) (a : Reg) (off4 : BitVec 4) : BitVec 16 :=
  BitVec.ofNat 16 (off4.toNat * 2 ^ 12 + a.val * 2 ^ 8 + op1)

/-- The encoding of an instruction under the default opcode map (31 R250), unused fields zero (30 R211). -/
def encode : Instr → Encoding
  | .jnzTBrn a n disp15 => .word (encBrn 0x01 0x00 a disp15 n)
  | .jzTBrn a n disp15 => .word (encBrn 0x01 0x01 a disp15 n)
  | .ldAAbs a off18 => .word (encAbs 0x03 0x00 a off18)
  | .ldBuAbs a off18 => .word (encAbs 0x03 0x01 a off18)
  | .ldBAbs a off18 => .word (encAbs 0x03 0x02 a off18)
  | .ldDaAbs a off18 => .word (encAbs 0x03 0x03 a off18)
  | .ldDAbs a off18 => .word (encAbs 0x05 0x00 a off18)
  | .ldHuAbs a off18 => .word (encAbs 0x05 0x01 a off18)
  | .ldHAbs a off18 => .word (encAbs 0x05 0x02 a off18)
  | .ldQAbs a off18 => .word (encAbs 0x05 0x03 a off18)
  | .ldWAbs a off18 => .word (encAbs 0x07 0x00 a off18)
  | .ldlcxAbs off18 => .word (encAbs 0x07 0x01 0 off18)
  | .ldmstAbs a off18 => .word (encAbs 0x07 0x02 a off18)
  | .lducxAbs off18 => .word (encAbs 0x07 0x03 0 off18)
  | .leaAbs a off18 => .word (encAbs 0x09 0x00 a off18)
  | .stAAbs a off18 => .word (encAbs 0x09 0x01 a off18)
  | .stBAbs a off18 => .word (encAbs 0x09 0x02 a off18)
  | .stDaAbs a off18 => .word (encAbs 0x09 0x03 a off18)
  | .stDAbs a off18 => .word (encAbs 0x0B 0x00 a off18)
  | .stHAbs a off18 => .word (encAbs 0x0B 0x01 a off18)
  | .stQAbs a off18 => .word (encAbs 0x0B 0x02 a off18)
  | .stWAbs a off18 => .word (encAbs 0x0B 0x03 a off18)
  | .stlcxAbs off18 => .word (encAbs 0x0D 0x00 0 off18)
  | .stucxAbs off18 => .word (encAbs 0x0D 0x01 0 off18)
  | .swapAAbs a off18 => .word (encAbs 0x0D 0x02 a off18)
  | .swapWAbs a off18 => .word (encAbs 0x0D 0x03 a off18)
  | .stTAbsb off18 bpos3 b => .word (encAbsb 0x0F 0x00 off18 b bpos3)
  | .callaB disp24 => .word (encB 0x11 disp24)
  | .callB disp24 => .word (encB 0x13 disp24)
  | .jaB disp24 => .word (encB 0x15 disp24)
  | .jlaB disp24 => .word (encB 0x17 disp24)
  | .jlB disp24 => .word (encB 0x19 disp24)
  | .jB disp24 => .word (encB 0x1B disp24)
  | .andAndTBit c a p1 b p2 => .word (encBit 0x1D 0x00 a b c p2 p1)
  | .andAndnTBit c a p1 b p2 => .word (encBit 0x1D 0x01 a b c p2 p1)
  | .andNorTBit c a p1 b p2 => .word (encBit 0x1D 0x02 a b c p2 p1)
  | .andOrTBit c a p1 b p2 => .word (encBit 0x1D 0x03 a b c p2 p1)
  | .andTBit c a p1 b p2 => .word (encBit 0x1F 0x00 a b c p2 p1)
  | .andnTBit c a p1 b p2 => .word (encBit 0x1F 0x01 a b c p2 p1)
  | .insTBit c a p1 b p2 => .word (encBit 0x1F 0x02 a b c p2 p1)
  | .insnTBit c a p1 b p2 => .word (encBit 0x1F 0x03 a b c p2 p1)
  | .nandTBit c a p1 b p2 => .word (encBit 0x21 0x00 a b c p2 p1)
  | .norTBit c a p1 b p2 => .word (encBit 0x21 0x01 a b c p2 p1)
  | .orAndTBit c a p1 b p2 => .word (encBit 0x21 0x02 a b c p2 p1)
  | .orAndnTBit c a p1 b p2 => .word (encBit 0x21 0x03 a b c p2 p1)
  | .orNorTBit c a p1 b p2 => .word (encBit 0x23 0x00 a b c p2 p1)
  | .orOrTBit c a p1 b p2 => .word (encBit 0x23 0x01 a b c p2 p1)
  | .orTBit c a p1 b p2 => .word (encBit 0x23 0x02 a b c p2 p1)
  | .ornTBit c a p1 b p2 => .word (encBit 0x23 0x03 a b c p2 p1)
  | .shAndTBit c a p1 b p2 => .word (encBit 0x25 0x00 a b c p2 p1)
  | .shAndnTBit c a p1 b p2 => .word (encBit 0x25 0x01 a b c p2 p1)
  | .shNandTBit c a p1 b p2 => .word (encBit 0x25 0x02 a b c p2 p1)
  | .shNorTBit c a p1 b p2 => .word (encBit 0x25 0x03 a b c p2 p1)
  | .shOrTBit c a p1 b p2 => .word (encBit 0x27 0x00 a b c p2 p1)
  | .shOrnTBit c a p1 b p2 => .word (encBit 0x27 0x01 a b c p2 p1)
  | .shXnorTBit c a p1 b p2 => .word (encBit 0x27 0x02 a b c p2 p1)
  | .shXorTBit c a p1 b p2 => .word (encBit 0x27 0x03 a b c p2 p1)
  | .xnorTBit c a p1 b p2 => .word (encBit 0x29 0x00 a b c p2 p1)
  | .xorTBit c a p1 b p2 => .word (encBit 0x29 0x01 a b c p2 p1)
  | .ldABoShort a b off10 => .word (encBo 0x2B 0x00 a b off10)
  | .ldABoPreinc a b off10 => .word (encBo 0x2B 0x08 a b off10)
  | .ldABoPostinc a b off10 => .word (encBo 0x2B 0x10 a b off10)
  | .ldABoCirc a b off10 => .word (encBo 0x2B 0x18 a b off10)
  | .ldABoBrev a b => .word (encBo 0x2B 0x20 a b 0)
  | .ldBBoShort a b off10 => .word (encBo 0x2B 0x01 a b off10)
  | .ldBBoPreinc a b off10 => .word (encBo 0x2B 0x09 a b off10)
  | .ldBBoPostinc a b off10 => .word (encBo 0x2B 0x11 a b off10)
  | .ldBBoCirc a b off10 => .word (encBo 0x2B 0x19 a b off10)
  | .ldBBoBrev a b => .word (encBo 0x2B 0x21 a b 0)
  | .ldBuBoShort a b off10 => .word (encBo 0x2B 0x02 a b off10)
  | .ldBuBoPreinc a b off10 => .word (encBo 0x2B 0x0A a b off10)
  | .ldBuBoPostinc a b off10 => .word (encBo 0x2B 0x12 a b off10)
  | .ldBuBoCirc a b off10 => .word (encBo 0x2B 0x1A a b off10)
  | .ldBuBoBrev a b => .word (encBo 0x2B 0x22 a b 0)
  | .ldDBoShort a b off10 => .word (encBo 0x2B 0x03 a b off10)
  | .ldDBoPreinc a b off10 => .word (encBo 0x2B 0x0B a b off10)
  | .ldDBoPostinc a b off10 => .word (encBo 0x2B 0x13 a b off10)
  | .ldDBoCirc a b off10 => .word (encBo 0x2B 0x1B a b off10)
  | .ldDBoBrev a b => .word (encBo 0x2B 0x23 a b 0)
  | .ldDaBoShort a b off10 => .word (encBo 0x2B 0x04 a b off10)
  | .ldDaBoPreinc a b off10 => .word (encBo 0x2B 0x0C a b off10)
  | .ldDaBoPostinc a b off10 => .word (encBo 0x2B 0x14 a b off10)
  | .ldDaBoCirc a b off10 => .word (encBo 0x2B 0x1C a b off10)
  | .ldDaBoBrev a b => .word (encBo 0x2B 0x24 a b 0)
  | .ldHBoShort a b off10 => .word (encBo 0x2B 0x05 a b off10)
  | .ldHBoPreinc a b off10 => .word (encBo 0x2B 0x0D a b off10)
  | .ldHBoPostinc a b off10 => .word (encBo 0x2B 0x15 a b off10)
  | .ldHBoCirc a b off10 => .word (encBo 0x2B 0x1D a b off10)
  | .ldHBoBrev a b => .word (encBo 0x2B 0x25 a b 0)
  | .ldHuBoShort a b off10 => .word (encBo 0x2B 0x06 a b off10)
  | .ldHuBoPreinc a b off10 => .word (encBo 0x2B 0x0E a b off10)
  | .ldHuBoPostinc a b off10 => .word (encBo 0x2B 0x16 a b off10)
  | .ldHuBoCirc a b off10 => .word (encBo 0x2B 0x1E a b off10)
  | .ldHuBoBrev a b => .word (encBo 0x2B 0x26 a b 0)
  | .ldQBoShort a b off10 => .word (encBo 0x2B 0x07 a b off10)
  | .ldQBoPreinc a b off10 => .word (encBo 0x2B 0x0F a b off10)
  | .ldQBoPostinc a b off10 => .word (encBo 0x2B 0x17 a b off10)
  | .ldQBoCirc a b off10 => .word (encBo 0x2B 0x1F a b off10)
  | .ldQBoBrev a b => .word (encBo 0x2B 0x27 a b 0)
  | .ldWBoShort a b off10 => .word (encBo 0x2D 0x00 a b off10)
  | .ldWBoPreinc a b off10 => .word (encBo 0x2D 0x08 a b off10)
  | .ldWBoPostinc a b off10 => .word (encBo 0x2D 0x10 a b off10)
  | .ldWBoCirc a b off10 => .word (encBo 0x2D 0x18 a b off10)
  | .ldWBoBrev a b => .word (encBo 0x2D 0x20 a b 0)
  | .ldlcxBoShort b off10 => .word (encBo 0x2D 0x01 0 b off10)
  | .ldmstBoShort a b off10 => .word (encBo 0x2D 0x02 a b off10)
  | .ldmstBoPreinc a b off10 => .word (encBo 0x2D 0x0A a b off10)
  | .ldmstBoPostinc a b off10 => .word (encBo 0x2D 0x12 a b off10)
  | .ldmstBoCirc a b off10 => .word (encBo 0x2D 0x1A a b off10)
  | .ldmstBoBrev a b => .word (encBo 0x2D 0x22 a b 0)
  | .lducxBoShort b off10 => .word (encBo 0x2D 0x03 0 b off10)
  | .leaBoShort a b off10 => .word (encBo 0x2D 0x04 a b off10)
  | .leaBoPreinc a b off10 => .word (encBo 0x2D 0x0C a b off10)
  | .leaBoPostinc a b off10 => .word (encBo 0x2D 0x14 a b off10)
  | .leaBoCirc a b off10 => .word (encBo 0x2D 0x1C a b off10)
  | .leaBoBrev a b => .word (encBo 0x2D 0x24 a b 0)
  | .stABoShort a b off10 => .word (encBo 0x2D 0x05 a b off10)
  | .stABoPreinc a b off10 => .word (encBo 0x2D 0x0D a b off10)
  | .stABoPostinc a b off10 => .word (encBo 0x2D 0x15 a b off10)
  | .stABoCirc a b off10 => .word (encBo 0x2D 0x1D a b off10)
  | .stABoBrev a b => .word (encBo 0x2D 0x25 a b 0)
  | .stBBoShort a b off10 => .word (encBo 0x2D 0x06 a b off10)
  | .stBBoPreinc a b off10 => .word (encBo 0x2D 0x0E a b off10)
  | .stBBoPostinc a b off10 => .word (encBo 0x2D 0x16 a b off10)
  | .stBBoCirc a b off10 => .word (encBo 0x2D 0x1E a b off10)
  | .stBBoBrev a b => .word (encBo 0x2D 0x26 a b 0)
  | .stDBoShort a b off10 => .word (encBo 0x2D 0x07 a b off10)
  | .stDBoPreinc a b off10 => .word (encBo 0x2D 0x0F a b off10)
  | .stDBoPostinc a b off10 => .word (encBo 0x2D 0x17 a b off10)
  | .stDBoCirc a b off10 => .word (encBo 0x2D 0x1F a b off10)
  | .stDBoBrev a b => .word (encBo 0x2D 0x27 a b 0)
  | .stDaBoShort a b off10 => .word (encBo 0x2F 0x00 a b off10)
  | .stDaBoPreinc a b off10 => .word (encBo 0x2F 0x08 a b off10)
  | .stDaBoPostinc a b off10 => .word (encBo 0x2F 0x10 a b off10)
  | .stDaBoCirc a b off10 => .word (encBo 0x2F 0x18 a b off10)
  | .stDaBoBrev a b => .word (encBo 0x2F 0x20 a b 0)
  | .stHBoShort a b off10 => .word (encBo 0x2F 0x01 a b off10)
  | .stHBoPreinc a b off10 => .word (encBo 0x2F 0x09 a b off10)
  | .stHBoPostinc a b off10 => .word (encBo 0x2F 0x11 a b off10)
  | .stHBoCirc a b off10 => .word (encBo 0x2F 0x19 a b off10)
  | .stHBoBrev a b => .word (encBo 0x2F 0x21 a b 0)
  | .stQBoShort a b off10 => .word (encBo 0x2F 0x02 a b off10)
  | .stQBoPreinc a b off10 => .word (encBo 0x2F 0x0A a b off10)
  | .stQBoPostinc a b off10 => .word (encBo 0x2F 0x12 a b off10)
  | .stQBoCirc a b off10 => .word (encBo 0x2F 0x1A a b off10)
  | .stQBoBrev a b => .word (encBo 0x2F 0x22 a b 0)
  | .stWBoShort a b off10 => .word (encBo 0x2F 0x03 a b off10)
  | .stWBoPreinc a b off10 => .word (encBo 0x2F 0x0B a b off10)
  | .stWBoPostinc a b off10 => .word (encBo 0x2F 0x13 a b off10)
  | .stWBoCirc a b off10 => .word (encBo 0x2F 0x1B a b off10)
  | .stWBoBrev a b => .word (encBo 0x2F 0x23 a b 0)
  | .stlcxBoShort b off10 => .word (encBo 0x2F 0x04 0 b off10)
  | .stucxBoShort b off10 => .word (encBo 0x2F 0x05 0 b off10)
  | .swapABoShort a b off10 => .word (encBo 0x2F 0x06 a b off10)
  | .swapABoPreinc a b off10 => .word (encBo 0x2F 0x0E a b off10)
  | .swapABoPostinc a b off10 => .word (encBo 0x2F 0x16 a b off10)
  | .swapABoCirc a b off10 => .word (encBo 0x2F 0x1E a b off10)
  | .swapABoBrev a b => .word (encBo 0x2F 0x26 a b 0)
  | .swapWBoShort a b off10 => .word (encBo 0x2F 0x07 a b off10)
  | .swapWBoPreinc a b off10 => .word (encBo 0x2F 0x0F a b off10)
  | .swapWBoPostinc a b off10 => .word (encBo 0x2F 0x17 a b off10)
  | .swapWBoCirc a b off10 => .word (encBo 0x2F 0x1F a b off10)
  | .swapWBoBrev a b => .word (encBo 0x2F 0x27 a b 0)
  | .ldABol a b off16 => .word (encBol 0x31 a b off16)
  | .ldWBol a b off16 => .word (encBol 0x33 a b off16)
  | .leaBol a b off16 => .word (encBol 0x35 a b off16)
  | .stWBol a b off16 => .word (encBol 0x37 a b off16)
  | .jeqBrc a const4 disp15 => .word (encBrc 0x39 0x00 a disp15 const4)
  | .jgeUBrc a const4 disp15 => .word (encBrc 0x39 0x01 a disp15 const4)
  | .jgeBrc a const4 disp15 => .word (encBrc 0x3B 0x00 a disp15 const4)
  | .jltUBrc a const4 disp15 => .word (encBrc 0x3B 0x01 a disp15 const4)
  | .jltBrc a const4 disp15 => .word (encBrc 0x3D 0x00 a disp15 const4)
  | .jnedBrc a const4 disp15 => .word (encBrc 0x3D 0x01 a disp15 const4)
  | .jneiBrc a const4 disp15 => .word (encBrc 0x3F 0x00 a disp15 const4)
  | .jneBrc a const4 disp15 => .word (encBrc 0x3F 0x01 a disp15 const4)
  | .jeqABrr a b disp15 => .word (encBrr 0x41 0x00 a b disp15)
  | .jeqBrr a b disp15 => .word (encBrr 0x41 0x01 a b disp15)
  | .jgeUBrr a b disp15 => .word (encBrr 0x43 0x00 a b disp15)
  | .jgeBrr a b disp15 => .word (encBrr 0x43 0x01 a b disp15)
  | .jltUBrr a b disp15 => .word (encBrr 0x45 0x00 a b disp15)
  | .jltBrr a b disp15 => .word (encBrr 0x45 0x01 a b disp15)
  | .jneABrr a b disp15 => .word (encBrr 0x47 0x00 a b disp15)
  | .jnedBrr a b disp15 => .word (encBrr 0x47 0x01 a b disp15)
  | .jneiBrr a b disp15 => .word (encBrr 0x49 0x00 a b disp15)
  | .jneBrr a b disp15 => .word (encBrr 0x49 0x01 a b disp15)
  | .jnzABrr a disp15 => .word (encBrr 0x4B 0x00 a 0 disp15)
  | .jzABrr a disp15 => .word (encBrr 0x4B 0x01 a 0 disp15)
  | .loopBrr a disp15 => .word (encBrr 0x4D 0x00 a 0 disp15)
  | .absdifsRc c a const9 => .word (encRc 0x4F 0x00 a c const9)
  | .absdifRc c a const9 => .word (encRc 0x4F 0x01 a c const9)
  | .addcRc c a const9 => .word (encRc 0x4F 0x02 a c const9)
  | .addsURc c a const9 => .word (encRc 0x4F 0x03 a c const9)
  | .addsRc c a const9 => .word (encRc 0x4F 0x04 a c const9)
  | .addxRc c a const9 => .word (encRc 0x4F 0x05 a c const9)
  | .addRc c a const9 => .word (encRc 0x4F 0x06 a c const9)
  | .andEqRc c a const9 => .word (encRc 0x4F 0x07 a c const9)
  | .andGeURc c a const9 => .word (encRc 0x4F 0x08 a c const9)
  | .andGeRc c a const9 => .word (encRc 0x4F 0x09 a c const9)
  | .andLtURc c a const9 => .word (encRc 0x4F 0x0A a c const9)
  | .andLtRc c a const9 => .word (encRc 0x4F 0x0B a c const9)
  | .andNeRc c a const9 => .word (encRc 0x4F 0x0C a c const9)
  | .andnRc c a const9 => .word (encRc 0x4F 0x0D a c const9)
  | .andRc c a const9 => .word (encRc 0x4F 0x0E a c const9)
  | .bisrRc const9 => .word (encRc 0x4F 0x0F 0 0 const9)
  | .eqanyBRc c a const9 => .word (encRc 0x4F 0x10 a c const9)
  | .eqanyHRc c a const9 => .word (encRc 0x4F 0x11 a c const9)
  | .eqRc c a const9 => .word (encRc 0x4F 0x12 a c const9)
  | .geURc c a const9 => .word (encRc 0x4F 0x13 a c const9)
  | .geRc c a const9 => .word (encRc 0x4F 0x14 a c const9)
  | .ltURc c a const9 => .word (encRc 0x4F 0x15 a c const9)
  | .ltRc c a const9 => .word (encRc 0x4F 0x16 a c const9)
  | .maxURc c a const9 => .word (encRc 0x4F 0x17 a c const9)
  | .maxRc c a const9 => .word (encRc 0x4F 0x18 a c const9)
  | .minURc c a const9 => .word (encRc 0x4F 0x19 a c const9)
  | .minRc c a const9 => .word (encRc 0x4F 0x1A a c const9)
  | .mulmURc c a const9 => .word (encRc 0x4F 0x1B a c const9)
  | .mulmRc c a const9 => .word (encRc 0x4F 0x1C a c const9)
  | .mulsURc c a const9 => .word (encRc 0x4F 0x1D a c const9)
  | .mulsRc c a const9 => .word (encRc 0x4F 0x1E a c const9)
  | .mulRc c a const9 => .word (encRc 0x4F 0x1F a c const9)
  | .nandRc c a const9 => .word (encRc 0x4F 0x20 a c const9)
  | .neRc c a const9 => .word (encRc 0x4F 0x21 a c const9)
  | .norRc c a const9 => .word (encRc 0x4F 0x22 a c const9)
  | .orEqRc c a const9 => .word (encRc 0x4F 0x23 a c const9)
  | .orGeURc c a const9 => .word (encRc 0x4F 0x24 a c const9)
  | .orGeRc c a const9 => .word (encRc 0x4F 0x25 a c const9)
  | .orLtURc c a const9 => .word (encRc 0x4F 0x26 a c const9)
  | .orLtRc c a const9 => .word (encRc 0x4F 0x27 a c const9)
  | .orNeRc c a const9 => .word (encRc 0x4F 0x28 a c const9)
  | .ornRc c a const9 => .word (encRc 0x4F 0x29 a c const9)
  | .orRc c a const9 => .word (encRc 0x4F 0x2A a c const9)
  | .rsubsURc c a const9 => .word (encRc 0x4F 0x2B a c const9)
  | .rsubsRc c a const9 => .word (encRc 0x4F 0x2C a c const9)
  | .rsubRc c a const9 => .word (encRc 0x4F 0x2D a c const9)
  | .shBRc c a const9 => .word (encRc 0x4F 0x2E a c const9)
  | .shEqRc c a const9 => .word (encRc 0x4F 0x2F a c const9)
  | .shGeURc c a const9 => .word (encRc 0x4F 0x30 a c const9)
  | .shGeRc c a const9 => .word (encRc 0x4F 0x31 a c const9)
  | .shHRc c a const9 => .word (encRc 0x4F 0x32 a c const9)
  | .shLtURc c a const9 => .word (encRc 0x4F 0x33 a c const9)
  | .shLtRc c a const9 => .word (encRc 0x4F 0x34 a c const9)
  | .shNeRc c a const9 => .word (encRc 0x4F 0x35 a c const9)
  | .shaBRc c a const9 => .word (encRc 0x4F 0x36 a c const9)
  | .shaHRc c a const9 => .word (encRc 0x4F 0x37 a c const9)
  | .shasRc c a const9 => .word (encRc 0x4F 0x38 a c const9)
  | .shaRc c a const9 => .word (encRc 0x4F 0x39 a c const9)
  | .shRc c a const9 => .word (encRc 0x4F 0x3A a c const9)
  | .syscallRc const9 => .word (encRc 0x4F 0x3B 0 0 const9)
  | .xnorRc c a const9 => .word (encRc 0x4F 0x3C a c const9)
  | .xorEqRc c a const9 => .word (encRc 0x4F 0x3D a c const9)
  | .xorGeURc c a const9 => .word (encRc 0x4F 0x3E a c const9)
  | .xorGeRc c a const9 => .word (encRc 0x4F 0x3F a c const9)
  | .xorLtURc c a const9 => .word (encRc 0x4F 0x40 a c const9)
  | .xorLtRc c a const9 => .word (encRc 0x4F 0x41 a c const9)
  | .xorNeRc c a const9 => .word (encRc 0x4F 0x42 a c const9)
  | .xorRc c a const9 => .word (encRc 0x4F 0x43 a c const9)
  | .imaskRcpw c const4 p w => .word (encRcpw 0x51 0x00 0 c p w const4)
  | .insertRcpw c a const4 p w => .word (encRcpw 0x51 0x01 a c p w const4)
  | .caddARcr c d a const9 => .word (encRcr 0x53 0x00 a d c const9)
  | .caddnARcr c d a const9 => .word (encRcr 0x53 0x01 a d c const9)
  | .caddnRcr c d a const9 => .word (encRcr 0x53 0x02 a d c const9)
  | .caddRcr c d a const9 => .word (encRcr 0x53 0x03 a d c const9)
  | .maddmURcr c d a const9 => .word (encRcr 0x53 0x04 a d c const9)
  | .maddmsURcr c d a const9 => .word (encRcr 0x53 0x05 a d c const9)
  | .maddmsRcr c d a const9 => .word (encRcr 0x53 0x06 a d c const9)
  | .maddmRcr c d a const9 => .word (encRcr 0x53 0x07 a d c const9)
  | .maddsURcr c d a const9 => .word (encRcr 0x55 0x00 a d c const9)
  | .maddsRcr c d a const9 => .word (encRcr 0x55 0x01 a d c const9)
  | .maddRcr c d a const9 => .word (encRcr 0x55 0x02 a d c const9)
  | .msubmURcr c d a const9 => .word (encRcr 0x55 0x03 a d c const9)
  | .msubmsURcr c d a const9 => .word (encRcr 0x55 0x04 a d c const9)
  | .msubmsRcr c d a const9 => .word (encRcr 0x55 0x05 a d c const9)
  | .msubmRcr c d a const9 => .word (encRcr 0x55 0x06 a d c const9)
  | .msubsURcr c d a const9 => .word (encRcr 0x55 0x07 a d c const9)
  | .msubsRcr c d a const9 => .word (encRcr 0x57 0x00 a d c const9)
  | .msubRcr c d a const9 => .word (encRcr 0x57 0x01 a d c const9)
  | .selARcr c d a const9 => .word (encRcr 0x57 0x02 a d c const9)
  | .selnARcr c d a const9 => .word (encRcr 0x57 0x03 a d c const9)
  | .selnRcr c d a const9 => .word (encRcr 0x57 0x04 a d c const9)
  | .selRcr c d a const9 => .word (encRcr 0x57 0x05 a d c const9)
  | .insertRcrr c a const4 d => .word (encRcrr 0x59 0x00 a d c const4)
  | .imaskRcrw c const4 d w => .word (encRcrw 0x5B 0x00 0 d c w const4)
  | .insertRcrw c a const4 d w => .word (encRcrw 0x5B 0x01 a d c w const4)
  | .addihARlc c a const16 => .word (encRlc 0x5D a c const16)
  | .addihRlc c a const16 => .word (encRlc 0x5F a c const16)
  | .addiRlc c a const16 => .word (encRlc 0x61 a c const16)
  | .mfcrRlc c const16 => .word (encRlc 0x63 0 c const16)
  | .movURlc c const16 => .word (encRlc 0x65 0 c const16)
  | .movhARlc c const16 => .word (encRlc 0x67 0 c const16)
  | .movhRlc c const16 => .word (encRlc 0x69 0 c const16)
  | .movRlc c const16 => .word (encRlc 0x6B 0 c const16)
  | .mtcrRlc const16 a => .word (encRlc 0x6D a 0 const16)
  | .absBRr c a => .word (encRr 0x6F 0x00 a 0 c 0)
  | .absHRr c a => .word (encRr 0x6F 0x01 a 0 c 0)
  | .absdifBRr c a b => .word (encRr 0x6F 0x02 a b c 0)
  | .absdifHRr c a b => .word (encRr 0x6F 0x03 a b c 0)
  | .absdifsBRr c a b => .word (encRr 0x6F 0x04 a b c 0)
  | .absdifsHRr c a b => .word (encRr 0x6F 0x05 a b c 0)
  | .absdifsRr c a b => .word (encRr 0x6F 0x06 a b c 0)
  | .absdifRr c a b => .word (encRr 0x6F 0x07 a b c 0)
  | .abssBRr c a => .word (encRr 0x6F 0x08 a 0 c 0)
  | .abssHRr c a => .word (encRr 0x6F 0x09 a 0 c 0)
  | .abssRr c a => .word (encRr 0x6F 0x0A a 0 c 0)
  | .absRr c a => .word (encRr 0x6F 0x0B a 0 c 0)
  | .addARr c a b => .word (encRr 0x6F 0x0C a b c 0)
  | .addBRr c a b => .word (encRr 0x6F 0x0D a b c 0)
  | .addHRr c a b => .word (encRr 0x6F 0x0E a b c 0)
  | .addcRr c a b => .word (encRr 0x6F 0x0F a b c 0)
  | .addsBuRr c a b => .word (encRr 0x6F 0x10 a b c 0)
  | .addsBRr c a b => .word (encRr 0x6F 0x11 a b c 0)
  | .addsHuRr c a b => .word (encRr 0x6F 0x12 a b c 0)
  | .addsHRr c a b => .word (encRr 0x6F 0x13 a b c 0)
  | .addsURr c a b => .word (encRr 0x6F 0x14 a b c 0)
  | .addscAtRr c a b => .word (encRr 0x6F 0x15 a b c 0)
  | .addscARr c a b n => .word (encRr 0x6F 0x16 a b c n)
  | .addsRr c a b => .word (encRr 0x6F 0x17 a b c 0)
  | .addxRr c a b => .word (encRr 0x6F 0x18 a b c 0)
  | .addRr c a b => .word (encRr 0x6F 0x19 a b c 0)
  | .andEqRr c a b => .word (encRr 0x6F 0x1A a b c 0)
  | .andGeURr c a b => .word (encRr 0x6F 0x1B a b c 0)
  | .andGeRr c a b => .word (encRr 0x6F 0x1C a b c 0)
  | .andLtURr c a b => .word (encRr 0x6F 0x1D a b c 0)
  | .andLtRr c a b => .word (encRr 0x6F 0x1E a b c 0)
  | .andNeRr c a b => .word (encRr 0x6F 0x1F a b c 0)
  | .andnRr c a b => .word (encRr 0x6F 0x20 a b c 0)
  | .andRr c a b => .word (encRr 0x6F 0x21 a b c 0)
  | .calliRr b => .word (encRr 0x6F 0x22 0 b 0 0)
  | .cloBRr c a => .word (encRr 0x6F 0x23 a 0 c 0)
  | .cloHRr c a => .word (encRr 0x6F 0x24 a 0 c 0)
  | .cloRr c a => .word (encRr 0x6F 0x25 a 0 c 0)
  | .clsBRr c a => .word (encRr 0x6F 0x26 a 0 c 0)
  | .clsHRr c a => .word (encRr 0x6F 0x27 a 0 c 0)
  | .clsRr c a => .word (encRr 0x6F 0x28 a 0 c 0)
  | .clzBRr c a => .word (encRr 0x6F 0x29 a 0 c 0)
  | .clzHRr c a => .word (encRr 0x6F 0x2A a 0 c 0)
  | .clzRr c a => .word (encRr 0x6F 0x2B a 0 c 0)
  | .difscARr c a b n => .word (encRr 0x6F 0x2C a b c n)
  | .dvinitBuRr c a b => .word (encRr 0x6F 0x2D a b c 0)
  | .dvinitBRr c a b => .word (encRr 0x6F 0x2E a b c 0)
  | .dvinitHuRr c a b => .word (encRr 0x6F 0x2F a b c 0)
  | .dvinitHRr c a b => .word (encRr 0x6F 0x30 a b c 0)
  | .dvinitURr c a b => .word (encRr 0x6F 0x31 a b c 0)
  | .dvinitRr c a b => .word (encRr 0x6F 0x32 a b c 0)
  | .eqARr c a b => .word (encRr 0x6F 0x33 a b c 0)
  | .eqBRr c a b => .word (encRr 0x6F 0x34 a b c 0)
  | .eqHRr c a b => .word (encRr 0x6F 0x35 a b c 0)
  | .eqWRr c a b => .word (encRr 0x6F 0x36 a b c 0)
  | .eqanyBRr c a b => .word (encRr 0x6F 0x37 a b c 0)
  | .eqanyHRr c a b => .word (encRr 0x6F 0x38 a b c 0)
  | .eqzARr c a => .word (encRr 0x6F 0x39 a 0 c 0)
  | .eqRr c a b => .word (encRr 0x6F 0x3A a b c 0)
  | .geARr c a b => .word (encRr 0x6F 0x3B a b c 0)
  | .geURr c a b => .word (encRr 0x6F 0x3C a b c 0)
  | .geRr c a b => .word (encRr 0x6F 0x3D a b c 0)
  | .jiRr b => .word (encRr 0x6F 0x3E 0 b 0 0)
  | .jliRr b => .word (encRr 0x6F 0x3F 0 b 0 0)
  | .ltARr c a b => .word (encRr 0x6F 0x40 a b c 0)
  | .ltBuRr c a b => .word (encRr 0x6F 0x41 a b c 0)
  | .ltBRr c a b => .word (encRr 0x6F 0x42 a b c 0)
  | .ltHuRr c a b => .word (encRr 0x6F 0x43 a b c 0)
  | .ltHRr c a b => .word (encRr 0x6F 0x44 a b c 0)
  | .ltURr c a b => .word (encRr 0x6F 0x45 a b c 0)
  | .ltWuRr c a b => .word (encRr 0x6F 0x46 a b c 0)
  | .ltWRr c a b => .word (encRr 0x6F 0x47 a b c 0)
  | .ltRr c a b => .word (encRr 0x6F 0x48 a b c 0)
  | .maxBuRr c a b => .word (encRr 0x6F 0x49 a b c 0)
  | .maxBRr c a b => .word (encRr 0x6F 0x4A a b c 0)
  | .maxHuRr c a b => .word (encRr 0x6F 0x4B a b c 0)
  | .maxHRr c a b => .word (encRr 0x6F 0x4C a b c 0)
  | .maxURr c a b => .word (encRr 0x6F 0x4D a b c 0)
  | .maxRr c a b => .word (encRr 0x6F 0x4E a b c 0)
  | .minBuRr c a b => .word (encRr 0x6F 0x4F a b c 0)
  | .minBRr c a b => .word (encRr 0x6F 0x50 a b c 0)
  | .minHuRr c a b => .word (encRr 0x6F 0x51 a b c 0)
  | .minHRr c a b => .word (encRr 0x6F 0x52 a b c 0)
  | .minURr c a b => .word (encRr 0x6F 0x53 a b c 0)
  | .minRr c a b => .word (encRr 0x6F 0x54 a b c 0)
  | .movAaRr c b => .word (encRr 0x6F 0x55 0 b c 0)
  | .movARr c b => .word (encRr 0x6F 0x56 0 b c 0)
  | .movDRr c b => .word (encRr 0x6F 0x57 0 b c 0)
  | .movRr c b => .word (encRr 0x6F 0x58 0 b c 0)
  | .mulHRr c a b n => .word (encRr 0x6F 0x59 a b c n)
  | .mulQRr c a b n => .word (encRr 0x6F 0x5A a b c n)
  | .mulmURr c a b => .word (encRr 0x6F 0x5B a b c 0)
  | .mulmRr c a b => .word (encRr 0x6F 0x5C a b c 0)
  | .mulrHRr c a b n => .word (encRr 0x6F 0x5D a b c n)
  | .mulrQRr c a b n => .word (encRr 0x6F 0x5E a b c n)
  | .mulsURr c a b => .word (encRr 0x6F 0x5F a b c 0)
  | .mulsRr c a b => .word (encRr 0x6F 0x60 a b c 0)
  | .mulRr c a b => .word (encRr 0x6F 0x61 a b c 0)
  | .nandRr c a b => .word (encRr 0x6F 0x62 a b c 0)
  | .neARr c a b => .word (encRr 0x6F 0x63 a b c 0)
  | .nezARr c a => .word (encRr 0x6F 0x64 a 0 c 0)
  | .neRr c a b => .word (encRr 0x6F 0x65 a b c 0)
  | .norRr c a b => .word (encRr 0x6F 0x66 a b c 0)
  | .orEqRr c a b => .word (encRr 0x6F 0x67 a b c 0)
  | .orGeURr c a b => .word (encRr 0x6F 0x68 a b c 0)
  | .orGeRr c a b => .word (encRr 0x6F 0x69 a b c 0)
  | .orLtURr c a b => .word (encRr 0x6F 0x6A a b c 0)
  | .orLtRr c a b => .word (encRr 0x6F 0x6B a b c 0)
  | .orNeRr c a b => .word (encRr 0x6F 0x6C a b c 0)
  | .ornRr c a b => .word (encRr 0x6F 0x6D a b c 0)
  | .orRr c a b => .word (encRr 0x6F 0x6E a b c 0)
  | .satBuRr c a => .word (encRr 0x6F 0x6F a 0 c 0)
  | .satBRr c a => .word (encRr 0x6F 0x70 a 0 c 0)
  | .satHuRr c a => .word (encRr 0x6F 0x71 a 0 c 0)
  | .satHRr c a => .word (encRr 0x6F 0x72 a 0 c 0)
  | .shBRr c a b => .word (encRr 0x6F 0x73 a b c 0)
  | .shEqRr c a b => .word (encRr 0x6F 0x74 a b c 0)
  | .shGeURr c a b => .word (encRr 0x6F 0x75 a b c 0)
  | .shGeRr c a b => .word (encRr 0x6F 0x76 a b c 0)
  | .shHRr c a b => .word (encRr 0x6F 0x77 a b c 0)
  | .shLtURr c a b => .word (encRr 0x6F 0x78 a b c 0)
  | .shLtRr c a b => .word (encRr 0x6F 0x79 a b c 0)
  | .shNeRr c a b => .word (encRr 0x6F 0x7A a b c 0)
  | .shaBRr c a b => .word (encRr 0x6F 0x7B a b c 0)
  | .shaHRr c a b => .word (encRr 0x6F 0x7C a b c 0)
  | .shasRr c a b => .word (encRr 0x6F 0x7D a b c 0)
  | .shaRr c a b => .word (encRr 0x6F 0x7E a b c 0)
  | .shRr c a b => .word (encRr 0x6F 0x7F a b c 0)
  | .subARr c a b => .word (encRr 0x6F 0x80 a b c 0)
  | .subBRr c a b => .word (encRr 0x6F 0x81 a b c 0)
  | .subHRr c a b => .word (encRr 0x6F 0x82 a b c 0)
  | .subcRr c a b => .word (encRr 0x6F 0x83 a b c 0)
  | .subsBuRr c a b => .word (encRr 0x6F 0x84 a b c 0)
  | .subsBRr c a b => .word (encRr 0x6F 0x85 a b c 0)
  | .subsHuRr c a b => .word (encRr 0x6F 0x86 a b c 0)
  | .subsHRr c a b => .word (encRr 0x6F 0x87 a b c 0)
  | .subsURr c a b => .word (encRr 0x6F 0x88 a b c 0)
  | .subscARr c a b n => .word (encRr 0x6F 0x89 a b c n)
  | .subsRr c a b => .word (encRr 0x6F 0x8A a b c 0)
  | .subxRr c a b => .word (encRr 0x6F 0x8B a b c 0)
  | .subRr c a b => .word (encRr 0x6F 0x8C a b c 0)
  | .xnorRr c a b => .word (encRr 0x6F 0x8D a b c 0)
  | .xorEqRr c a b => .word (encRr 0x6F 0x8E a b c 0)
  | .xorGeURr c a b => .word (encRr 0x6F 0x8F a b c 0)
  | .xorGeRr c a b => .word (encRr 0x6F 0x90 a b c 0)
  | .xorLtURr c a b => .word (encRr 0x6F 0x91 a b c 0)
  | .xorLtRr c a b => .word (encRr 0x6F 0x92 a b c 0)
  | .xorNeRr c a b => .word (encRr 0x6F 0x93 a b c 0)
  | .xorRr c a b => .word (encRr 0x6F 0x94 a b c 0)
  | .dextrRrpw c a b p => .word (encRrpw 0x71 0x00 a b c p 0)
  | .extrURrpw c a p w => .word (encRrpw 0x71 0x01 a 0 c p w)
  | .extrRrpw c a p w => .word (encRrpw 0x71 0x02 a 0 c p w)
  | .imaskRrpw c b p w => .word (encRrpw 0x71 0x03 0 b c p w)
  | .insertRrpw c a b p w => .word (encRrpw 0x73 0x00 a b c p w)
  | .caddARrr c d a b => .word (encRrr 0x75 0x00 a b d c 0)
  | .caddnARrr c d a b => .word (encRrr 0x75 0x01 a b d c 0)
  | .caddnRrr c d a b => .word (encRrr 0x75 0x02 a b d c 0)
  | .caddRrr c d a b => .word (encRrr 0x75 0x03 a b d c 0)
  | .csubARrr c d a b => .word (encRrr 0x75 0x04 a b d c 0)
  | .csubnARrr c d a b => .word (encRrr 0x75 0x05 a b d c 0)
  | .csubnRrr c d a b => .word (encRrr 0x75 0x06 a b d c 0)
  | .csubRrr c d a b => .word (encRrr 0x75 0x07 a b d c 0)
  | .dvadjRrr c d b => .word (encRrr 0x75 0x08 0 b d c 0)
  | .dvstepURrr c d b => .word (encRrr 0x75 0x09 0 b d c 0)
  | .dvstepRrr c d b => .word (encRrr 0x75 0x0A 0 b d c 0)
  | .maddHRrr c d a b n => .word (encRrr 0x75 0x0B a b d c n)
  | .maddQRrr c d a b n => .word (encRrr 0x75 0x0C a b d c n)
  | .maddmHRrr c d a b => .word (encRrr 0x75 0x0D a b d c 0)
  | .maddmQRrr c d a b => .word (encRrr 0x75 0x0E a b d c 0)
  | .maddmURrr c d a b => .word (encRrr 0x75 0x0F a b d c 0)
  | .maddmsURrr c d a b => .word (encRrr 0x77 0x00 a b d c 0)
  | .maddmsRrr c d a b => .word (encRrr 0x77 0x01 a b d c 0)
  | .maddmRrr c d a b => .word (encRrr 0x77 0x02 a b d c 0)
  | .maddrHRrr c d a b n => .word (encRrr 0x77 0x03 a b d c n)
  | .maddrQRrr c d a b n => .word (encRrr 0x77 0x04 a b d c n)
  | .maddrsHRrr c d a b n => .word (encRrr 0x77 0x05 a b d c n)
  | .maddrsQRrr c d a b n => .word (encRrr 0x77 0x06 a b d c n)
  | .maddsHRrr c d a b n => .word (encRrr 0x77 0x07 a b d c n)
  | .maddsQRrr c d a b n => .word (encRrr 0x77 0x08 a b d c n)
  | .maddsURrr c d a b => .word (encRrr 0x77 0x09 a b d c 0)
  | .maddsRrr c d a b => .word (encRrr 0x77 0x0A a b d c 0)
  | .maddRrr c d a b => .word (encRrr 0x77 0x0B a b d c 0)
  | .msubHRrr c d a b n => .word (encRrr 0x77 0x0C a b d c n)
  | .msubQRrr c d a b n => .word (encRrr 0x77 0x0D a b d c n)
  | .msubmHRrr c d a b => .word (encRrr 0x77 0x0E a b d c 0)
  | .msubmQRrr c d a b => .word (encRrr 0x77 0x0F a b d c 0)
  | .msubmURrr c d a b => .word (encRrr 0x79 0x00 a b d c 0)
  | .msubmsURrr c d a b => .word (encRrr 0x79 0x01 a b d c 0)
  | .msubmsRrr c d a b => .word (encRrr 0x79 0x02 a b d c 0)
  | .msubmRrr c d a b => .word (encRrr 0x79 0x03 a b d c 0)
  | .msubrHRrr c d a b n => .word (encRrr 0x79 0x04 a b d c n)
  | .msubrQRrr c d a b n => .word (encRrr 0x79 0x05 a b d c n)
  | .msubrsHRrr c d a b n => .word (encRrr 0x79 0x06 a b d c n)
  | .msubrsQRrr c d a b n => .word (encRrr 0x79 0x07 a b d c n)
  | .msubsHRrr c d a b n => .word (encRrr 0x79 0x08 a b d c n)
  | .msubsQRrr c d a b n => .word (encRrr 0x79 0x09 a b d c n)
  | .msubsURrr c d a b => .word (encRrr 0x79 0x0A a b d c 0)
  | .msubsRrr c d a b => .word (encRrr 0x79 0x0B a b d c 0)
  | .msubRrr c d a b => .word (encRrr 0x79 0x0C a b d c 0)
  | .selARrr c d a b => .word (encRrr 0x79 0x0D a b d c 0)
  | .selnARrr c d a b => .word (encRrr 0x79 0x0E a b d c 0)
  | .selnRrr c d a b => .word (encRrr 0x79 0x0F a b d c 0)
  | .selRrr c d a b => .word (encRrr 0x7B 0x00 a b d c 0)
  | .dextrRrrr c a b d => .word (encRrrr 0x7D 0x00 a b d c)
  | .extrURrrr c a d => .word (encRrrr 0x7D 0x01 a 0 d c)
  | .extrRrrr c a d => .word (encRrrr 0x7D 0x02 a 0 d c)
  | .insertRrrr c a b d => .word (encRrrr 0x7D 0x03 a b d c)
  | .extrURrrw c a d w => .word (encRrrw 0x7F 0x00 a 0 d c w)
  | .extrRrrw c a d w => .word (encRrrw 0x7F 0x01 a 0 d c w)
  | .imaskRrrw c b d w => .word (encRrrw 0x7F 0x02 0 b d c w)
  | .insertRrrw c a b d w => .word (encRrrw 0x7F 0x03 a b d c w)
  | .debugSys => .word (encSys 0x83 0x00)
  | .disableSys => .word (encSys 0x83 0x01)
  | .dsyncSys => .word (encSys 0x83 0x02)
  | .enableSys => .word (encSys 0x83 0x03)
  | .isyncSys => .word (encSys 0x83 0x04)
  | .nopSys => .word (encSys 0x83 0x05)
  | .retSys => .word (encSys 0x83 0x06)
  | .rfeSys => .word (encSys 0x83 0x07)
  | .rslcxSys => .word (encSys 0x83 0x08)
  | .rstvSys => .word (encSys 0x83 0x09)
  | .svlcxSys => .word (encSys 0x83 0x0A)
  | .trapsvSys => .word (encSys 0x83 0x0B)
  | .trapvSys => .word (encSys 0x83 0x0C)
  | .addscASrrs a b n => .half (encSrrs 0x02 a b n)
  | .jnzTSbrn n disp4 => .half (encSbrn 0x04 n disp4)
  | .jzTSbrn n disp4 => .half (encSbrn 0x06 n disp4)
  | .jnzSb disp8 => .half (encSb 0x08 disp8)
  | .jzSb disp8 => .half (encSb 0x0A disp8)
  | .jSb disp8 => .half (encSb 0x0C disp8)
  | .jeqSbc const4 disp4 => .half (encSbc 0x0E const4 disp4)
  | .jneSbc const4 disp4 => .half (encSbc 0x10 const4 disp4)
  | .jeqSbr b disp4 => .half (encSbr 0x12 b disp4)
  | .jgezSbr b disp4 => .half (encSbr 0x14 b disp4)
  | .jgtzSbr b disp4 => .half (encSbr 0x16 b disp4)
  | .jiSbr b => .half (encSbr 0x18 b 0)
  | .jlezSbr b disp4 => .half (encSbr 0x1A b disp4)
  | .jltzSbr b disp4 => .half (encSbr 0x1C b disp4)
  | .jneSbr b disp4 => .half (encSbr 0x1E b disp4)
  | .jnzASbr b disp4 => .half (encSbr 0x20 b disp4)
  | .jnzSbr b disp4 => .half (encSbr 0x22 b disp4)
  | .jzASbr b disp4 => .half (encSbr 0x24 b disp4)
  | .jzSbr b disp4 => .half (encSbr 0x26 b disp4)
  | .loopSbr b disp4 => .half (encSbr 0x28 b disp4)
  | .andSc const8 => .half (encSc 0x2A const8)
  | .bisrSc const8 => .half (encSc 0x2C const8)
  | .movSc const8 => .half (encSc 0x2E const8)
  | .orSc const8 => .half (encSc 0x30 const8)
  | .subASc const8 => .half (encSc 0x32 const8)
  | .ldASlr a b => .half (encSlr 0x34 a b)
  | .ldASlrPostinc a b => .half (encSlr 0x36 a b)
  | .ldBuSlr a b => .half (encSlr 0x38 a b)
  | .ldBuSlrPostinc a b => .half (encSlr 0x3A a b)
  | .ldBSlr a b => .half (encSlr 0x3C a b)
  | .ldBSlrPostinc a b => .half (encSlr 0x3E a b)
  | .ldHSlr a b => .half (encSlr 0x40 a b)
  | .ldHSlrPostinc a b => .half (encSlr 0x44 a b)
  | .ldWSlr a b => .half (encSlr 0x46 a b)
  | .ldWSlrPostinc a b => .half (encSlr 0x48 a b)
  | .ldASlro a off4 => .half (encSlro 0x4A a off4)
  | .ldBuSlro a off4 => .half (encSlro 0x4C a off4)
  | .ldBSlro a off4 => .half (encSlro 0x4E a off4)
  | .ldHSlro a off4 => .half (encSlro 0x50 a off4)
  | .ldWSlro a off4 => .half (encSlro 0x52 a off4)
  | .debugSr => .half (encSr 0x54 0x00 0)
  | .movzASr a => .half (encSr 0x54 0x01 a)
  | .nopSr => .half (encSr 0x54 0x02 0)
  | .notSr a => .half (encSr 0x54 0x03 a)
  | .retSr => .half (encSr 0x54 0x04 0)
  | .rfeSr => .half (encSr 0x54 0x05 0)
  | .rsubSr a => .half (encSr 0x54 0x06 a)
  | .satBuSr a => .half (encSr 0x54 0x07 a)
  | .satBSr a => .half (encSr 0x54 0x08 a)
  | .satHuSr a => .half (encSr 0x54 0x09 a)
  | .satHSr a => .half (encSr 0x54 0x0A a)
  | .addSrc a const4 => .half (encSrc 0x56 a const4)
  | .addSrcD15 a const4 => .half (encSrc 0x58 a const4)
  | .caddnSrc a const4 => .half (encSrc 0x5A a const4)
  | .caddSrc a const4 => .half (encSrc 0x5C a const4)
  | .cmovnSrc a const4 => .half (encSrc 0x5E a const4)
  | .cmovSrc a const4 => .half (encSrc 0x60 a const4)
  | .eqSrc a const4 => .half (encSrc 0x62 a const4)
  | .ltUSrc a const4 => .half (encSrc 0x64 a const4)
  | .ltSrc a const4 => .half (encSrc 0x66 a const4)
  | .movSrc a const4 => .half (encSrc 0x68 a const4)
  | .shaSrc a const4 => .half (encSrc 0x6A a const4)
  | .shSrc a const4 => .half (encSrc 0x6C a const4)
  | .ldASro b off4 => .half (encSro 0x6E b off4)
  | .ldBuSro b off4 => .half (encSro 0x70 b off4)
  | .ldBSro b off4 => .half (encSro 0x72 b off4)
  | .ldHSro b off4 => .half (encSro 0x74 b off4)
  | .ldWSro b off4 => .half (encSro 0x76 b off4)
  | .stASro b off4 => .half (encSro 0x78 b off4)
  | .stBSro b off4 => .half (encSro 0x7A b off4)
  | .stHSro b off4 => .half (encSro 0x7C b off4)
  | .stWSro b off4 => .half (encSro 0x7E b off4)
  | .addSrr a b => .half (encSrr 0x80 a b)
  | .addSrrD15 a b => .half (encSrr 0x88 a b)
  | .andSrr a b => .half (encSrr 0x8A a b)
  | .caddnSrr a b => .half (encSrr 0x8C a b)
  | .caddSrr a b => .half (encSrr 0x8E a b)
  | .cmovnSrr a b => .half (encSrr 0x90 a b)
  | .cmovSrr a b => .half (encSrr 0x92 a b)
  | .dvadjSrr a b => .half (encSrr 0x94 a b)
  | .dvstepUSrr a b => .half (encSrr 0x96 a b)
  | .dvstepSrr a b => .half (encSrr 0x98 a b)
  | .eqSrr a b => .half (encSrr 0x9A a b)
  | .ltUSrr a b => .half (encSrr 0x9C a b)
  | .ltSrr a b => .half (encSrr 0x9E a b)
  | .movAaSrr a b => .half (encSrr 0xA0 a b)
  | .movASrr a b => .half (encSrr 0xA2 a b)
  | .movDSrr a b => .half (encSrr 0xA4 a b)
  | .movSrr a b => .half (encSrr 0xA6 a b)
  | .mulSrr a b => .half (encSrr 0xA8 a b)
  | .orSrr a b => .half (encSrr 0xAA a b)
  | .subsSrr a b => .half (encSrr 0xAC a b)
  | .subSrr a b => .half (encSrr 0xAE a b)
  | .subSrrD15 a b => .half (encSrr 0xB0 a b)
  | .stASsr a b => .half (encSsr 0xB2 a b)
  | .stASsrPostinc a b => .half (encSsr 0xB4 a b)
  | .stBSsr a b => .half (encSsr 0xB6 a b)
  | .stBSsrPostinc a b => .half (encSsr 0xB8 a b)
  | .stHSsr a b => .half (encSsr 0xBA a b)
  | .stHSsrPostinc a b => .half (encSsr 0xBC a b)
  | .stWSsr a b => .half (encSsr 0xBE a b)
  | .stWSsrPostinc a b => .half (encSsr 0xC0 a b)
  | .stASsro a off4 => .half (encSsro 0xC4 a off4)
  | .stBSsro a off4 => .half (encSsro 0xC6 a off4)
  | .stHSsro a off4 => .half (encSsro 0xC8 a off4)
  | .stWSsro a off4 => .half (encSsro 0xCA a off4)

/-- The bytes of an encoding in memory order, little-endian (20 R140). -/
def Encoding.bytes : Encoding → List Byte
  | .half h => [h.extractLsb' 0 8, h.extractLsb' 8 8]
  | .word w => [w.extractLsb' 0 8, w.extractLsb' 8 8, w.extractLsb' 16 8, w.extractLsb' 24 8]

/-- The bytes of an instruction in memory order. -/
def encodeBytes (i : Instr) : List Byte := (encode i).bytes

/-! ## Any opcode map (30 R230)

A map is given as rows (format, op1, op2) to form. A word is decoded by the row it matches: op1 and op2 are replaced by the
form's own of the default map, the operand fields stay, and the default decoder reads the result. -/

/-- The formats of 32 bits (30 R207); the others have 16 (30 R208). -/
def Format.wide : Format → Bool
  | .abs | .absb | .b | .bit | .bo | .bol | .brc | .brn | .brr | .rc | .rcpw | .rcr | .rcrr | .rcrw | .rlc | .rr | .rrpw
  | .rrr | .rrrr | .rrrw | .sys => true
  | .sb | .sbc | .sbr | .sbrn | .sc | .slr | .slro | .sr | .src | .sro | .srr | .srrs | .ssr | .ssro => false

/-- The width of op1, the lowest bits of the word: 8, but 7 in BRN and SBRN and 6 in SRRS (30 R207, R208). -/
def Format.op1Width : Format → Nat
  | .brn | .sbrn => 7
  | .srrs => 6
  | .abs | .absb | .b | .bit | .bo | .bol | .brc | .brr | .rc | .rcpw | .rcr | .rcrr | .rcrw | .rlc | .rr | .rrpw | .rrr
  | .rrrr | .rrrw | .sys | .sb | .sbc | .sbr | .sc | .slr | .slro | .sr | .src | .sro | .srr | .ssr | .ssro => 8

/-- The lowest bit and the width of op2; no bits in a format without one (30 R207, R208). -/
def Format.op2Place : Format → Nat × Nat
  | .abs | .absb => (26, 2)
  | .bit | .rcpw | .rrpw => (21, 2)
  | .bo | .sys => (22, 6)
  | .brc | .brn | .brr => (31, 1)
  | .rc => (21, 7)
  | .rcr | .rcrr | .rcrw | .rrrr | .rrrw => (21, 3)
  | .rr => (20, 8)
  | .rrr => (20, 4)
  | .sr => (12, 4)
  | .b | .bol | .rlc | .sb | .sbc | .sbr | .sbrn | .sc | .slr | .slro | .src | .sro | .srr | .srrs | .ssr | .ssro =>
    (8, 0)

/-- The bits of op1. -/
def Format.op1Mask (f : Format) : Word := BitVec.ofNat 32 (2 ^ f.op1Width - 1)

/-- The bits of op1 and op2. -/
def Format.mask (f : Format) : Word :=
  f.op1Mask ||| BitVec.ofNat 32 ((2 ^ f.op2Place.2 - 1) * 2 ^ f.op2Place.1)

/-- op1 and op2 of a row at their places, every operand bit 0. -/
def OpcodeRow.word (r : OpcodeRow) : Word :=
  BitVec.ofNat 32 (r.op1 + r.op2 * 2 ^ r.format.op2Place.1) &&& r.format.mask

/-- The word has the op1 and op2 of the row. -/
def OpcodeRow.hits (r : OpcodeRow) (w : Word) : Bool := w &&& r.format.mask == r.word

/-- The word with the opcode bits of a format replaced. -/
def Format.recode (f : Format) (w opcode : Word) : Word := (w &&& ~~~f.mask) ||| opcode

/-- Decoding of an instruction word by the map in force (30 R230, R233); a word that matches no row is illegal (R235). -/
noncomputable def decodeBy (m : Option OpcodeMap) (w : Word) : Except DecodeError Instr :=
  match m with
  | none => decodeWord w
  | some rows =>
    match rows.find? fun r => r.hits w with
    | some r => decodeWord (r.format.recode w r.form)
    | none => .error .illegalOpcode

/-- The length of an instruction in bytes by the map in force: op1 alone fixes it (30 R201). -/
def lengthBy (m : Option OpcodeMap) (w : Word) : Nat :=
  match m with
  | none => instrLength w
  | some rows =>
    if rows.any fun r => r.format.wide && (w &&& r.format.op1Mask == r.word &&& r.format.op1Mask) then 4 else 2

/-- An encoding as a word, a halfword in its low half. -/
def Encoding.toWord : Encoding → Word
  | .half h => h.setWidth 32
  | .word w => w

/-- The word of an instruction by the map in force; none if the map has no such form. -/
def encodeBy (m : Option OpcodeMap) (i : Instr) : Option Word :=
  match m with
  | none => some (encode i).toWord
  | some rows =>
    (rows.find? fun r => (encode i).toWord &&& r.format.mask == r.form).map fun r =>
      r.format.recode (encode i).toWord r.word

/-- The last first byte of each format in the default map, 32-bit formats and 16-bit formats (30 R231, 31 R250). -/
def defaultFormats : List (Nat × Format) × List (Nat × Format) :=
  ([(0x01, .brn), (0x0D, .abs), (0x0F, .absb), (0x1B, .b), (0x29, .bit), (0x2F, .bo), (0x37, .bol), (0x3F, .brc),
    (0x4D, .brr), (0x4F, .rc), (0x51, .rcpw), (0x57, .rcr), (0x59, .rcrr), (0x5B, .rcrw), (0x6D, .rlc), (0x6F, .rr),
    (0x73, .rrpw), (0x7B, .rrr), (0x7D, .rrrr), (0x7F, .rrrw), (0x83, .sys)],
   [(0x02, .srrs), (0x06, .sbrn), (0x0C, .sb), (0x10, .sbc), (0x28, .sbr), (0x32, .sc), (0x48, .slr), (0x52, .slro),
    (0x54, .sr), (0x6C, .src), (0x7E, .sro), (0xB0, .srr), (0xC0, .ssr), (0xCA, .ssro)])

/-- The format of a form, from the first byte of its match value in the default map (31 R250). -/
def formFormat (form : Word) : Option Format :=
  ((if form.getLsbD 0 then defaultFormats.1 else defaultFormats.2).find? fun p =>
    decide (bitsOf form.toNat 0 8 ≤ p.1)).map fun p => p.2

/-- A row is legal: it names a form of the default map by its match value, with the form's format and an op1 and op2 that
fit their fields. -/
def OpcodeRow.Legal (r : OpcodeRow) : Prop :=
  (∃ i, decodeWord r.form = .ok i) ∧ formFormat r.form = some r.format ∧ r.form &&& ~~~r.format.mask = 0 ∧
  r.op1 < 2 ^ r.format.op1Width ∧ r.op2 < 2 ^ r.format.op2Place.2

/-- Two rows are apart: other forms, no word matches both, and rows of different length differ in op1 (30 R230). -/
def OpcodeRow.Apart (r q : OpcodeRow) : Prop :=
  r.form ≠ q.form ∧ (r.word ^^^ q.word) &&& (r.format.mask &&& q.format.mask) ≠ 0 ∧
  (r.format.wide ≠ q.format.wide → (r.word ^^^ q.word) &&& (r.format.op1Mask &&& q.format.op1Mask) ≠ 0)

/-- What 30 R230 asks of an opcode map: injective, with the op1 sets of 16-bit and 32-bit forms disjoint. -/
def LegalMap (rows : OpcodeMap) : Prop := (∀ r, r ∈ rows → r.Legal) ∧ rows.Pairwise OpcodeRow.Apart

end Sys2Proof
end

