-- ==== Sys2Proof/Machine/Fetch.lean ====
section
/-! DEFINITION. Machine/Fetch.lean: what happens at the boundary before an instruction (spec/60_exceptions.md rule R960, R979; 70 R1020) and the fetch of the instruction (20 R150, R183, R185; 30 R201, R235). -/

namespace Sys2Proof.Machine

open Sys2Proof

/-! ## Host events -/

/-- A write of another bus master (20 R152, 10 R77): to memory, or to a CSFR by the field rules of MTCR (log 13). A byte
address that holds no memory and an offset that is no multiple of 4 ignore it. -/
def State.busWrite (s : State) (w : BusWrite) : State :=
  match w with
  | .byte x v =>
    match memKind s.cfg x with
    | some .storage => s.setMem (Memory.write s.mem x.toNat v)
    | some .device => s
    | none => s
  | .csfr off v => if off.toNat % 4 = 0 then s.writeCsfr off v else s

/-- The state with its boundary replaced. -/
def State.setEnv (s : State) (e : Boundary) : State := { s with env := e }

/-- What the host presents is taken in: the bus writes are made, PIPN replaced, an NMI and a class 4 trap noted as pending
(60 R960, R979; log 12). -/
def State.present (s : State) (x : HostInput) : State :=
  let t := x.writes.foldl State.busWrite s
  let u := match x.pipn with
    | none => t
    | some p => t.setIcr (setField t.icr 16 8 p)
  u.setEnv { u.env with
    nmiPending := x.nmi || u.env.nmiPending
    trapsPending := u.env.trapsPending ++ x.busTrap.toList }

/-- The state without its first input. -/
def State.dropInput (s : State) : State := s.setEnv { s.env with inputs := s.env.inputs.tail }

/-- The state after the host has presented what it presents before this step. -/
def State.takeInput (s : State) : State :=
  match s.env.inputs with
  | [] => s
  | x :: _ => s.dropInput.present x

/-- The host presents a reset before this step (70 R1020). -/
def State.resetPresented (s : State) : Bool :=
  match s.env.inputs with
  | [] => false
  | x :: _ => x.reset

/-- Every entry of a table at its reset value (10 R136; DESIGN CHOICE 0, log 1). -/
def clearRanges (sets : List (List RangeEntry)) : List (List RangeEntry) :=
  sets.map fun set => set.map fun _ => ⟨0, 0, 0⟩

/-- The reset event (70 R1020): every register takes its reset value, pending traps and NMI are dropped; the memory, PIPN
and what belongs to the host stay (log 27). -/
def State.resetEvent (s : State) : State where
  d        := Vector.replicate 16 0
  a        := Vector.replicate 16 0
  pc       := s.cfg.resetPc
  psw      := 0x00000B80
  pcxi     := 0
  fcx      := 0
  icr      := s.icr &&& 0x00FF0000
  csfr     := Csfrs.reset s.cfg
  dataSets := clearRanges s.dataSets
  codeSets := clearRanges s.codeSets
  mem      := s.mem
  env      := { s.env with nmiPending := false, trapsPending := [] }
  cfg      := s.cfg

/-- An interrupt is accepted: IE = 1 and PIPN > CCPN (60 R960). -/
def State.interruptAccepted (s : State) : Bool := Icr.ie s.icr && decide ((Icr.ccpn s.icr).toNat < (Icr.pipn s.icr).toNat)

/-- The one entry made at this boundary, if any, in the order NMI, class 4 trap, interrupt (60 R979). -/
def State.boundaryEntry (s : State) : Option Out :=
  if s.env.nmiPending then some (takeTrap (s.setEnv { s.env with nmiPending := false }) .nmi s.pc)
  else match s.env.trapsPending with
    | c :: rest => some (takeTrap (s.setEnv { s.env with trapsPending := rest }) (.bus c) s.pc)
    | [] => if s.interruptAccepted then some (takeInterrupt s) else none

/-! ## The fetch -/

/-- The checks of a fetch at pc: MPX, MEM, MPX by the ranges, BUS (20 R185, last paragraph). -/
def State.fetchTrap (s : State) : Option Trap :=
  if isPeripheral s.pc then some .mpx
  else if inCsfrArea s.pc then some .mem
  else if !s.fetchPermitted s.pc then some .mpx
  else if localUnimplemented s.cfg s.pc then some (.bus .bus)
  else none

/-- Byte `k` of the instruction at pc. -/
def State.codeByte (s : State) (k : Nat) : Word := s.pc + BitVec.ofNat 32 k

/-- The four bytes at pc as a word (20 R140); a 16-bit instruction is its low halfword (30 R201). -/
def State.fetchedWord (s : State) : Word :=
  BitVec.ofNat 32 (s.readValue (memKind s.cfg s.pc) s.codeByte 4)

/-- The free bytes a fetch of `n` bytes draws where pc holds no memory (log 6). -/
def State.drawFetch (s : State) (n : Nat) : State :=
  match memKind s.cfg s.pc with
  | some .storage => s
  | some .device => s.drawFree n
  | none => s.drawFree n

/-- The state after the fetch of the instruction at pc: the debug signals, and the free bytes of a fetch from where no
memory is. -/
def State.afterFetch (s : State) : State :=
  (s.emit (s.fetchSignals s.pc)).drawFetch (lengthBy s.cfg.opcodeMap s.fetchedWord)

/-- The host marks this form as unimplemented (30 R235, log 21). -/
def isUnimplemented (c : Config) (w : Word) : Bool := c.unimplemented.any fun m => w &&& m.mask == m.value

/-- The instruction that runs, or the trap taken instead: the fetch checks, IOPC, UOPC (60 R980 steps 1 and 2). -/
noncomputable def State.fetch (s : State) : Except Trap Instr :=
  match s.fetchTrap with
  | some t => .error t
  | none =>
    match decodeBy s.cfg.opcodeMap s.fetchedWord with
    | .error _ => .error .iopc
    | .ok i => if isUnimplemented s.cfg s.fetchedWord then .error .uopc else .ok i

/-- The state in which the fetched instruction runs or its decode trap is taken: a fetch that is not permitted leaves no
signal. -/
def State.fetchDone (s : State) : State := if s.fetchTrap.isSome then s else s.afterFetch

/-- `s` with the instruction of `nbits` bits `w` stored at pc, the bits above zero. -/
def State.placeWord (s : State) (nbits w : Nat) : State :=
  s.setMem (Memory.writeBytes s.mem s.codeByte (w % 2 ^ nbits) 4)

end Sys2Proof.Machine
end

