-- ==== Sys2Proof/Machine/Step.lean ====
section
/-! DEFINITION. Machine/Step.lean: one step of the machine: the host's events, then at most one entry, else one instruction (spec/60_exceptions.md rule R979, R960; 00 R11). -/

namespace Sys2Proof.Machine

open Sys2Proof

/-- The instruction at pc (60 R980). -/
noncomputable def stepInstr (s : State) : Host.Outcome State Fault Refusal :=
  match s.fetch with
  | .error t => raise s.fetchDone t
  | .ok i => exec i s.fetchDone

/-- One step: what the host presents is taken in; then a reset, or an entry, or an instruction. A state with PSW.IO = 11 has
no successor (93 U3), a reset apart (log 11). It is noncomputable only because the decoder is: no code is generated for it. -/
noncomputable def step (s : State) : Host.Outcome State Fault Refusal :=
  if s.resetPresented then .next s.takeInput.resetEvent
  else if Psw.io s.takeInput.psw == 3 then .refused .reservedIoLevel
  else match s.takeInput.boundaryEntry with
    | some o => o
    | none => stepInstr s.takeInput

/-- `s` with an instruction placed where the next step fetches: four bytes at pc (log 18). -/
def State.withFetchWord (s : State) (nbits w : Nat) : State := s.placeWord nbits w

end Sys2Proof.Machine
end

