-- ==== Sys2Proof/Safety.lean ====
section
/-! DEFINITION. Safety.lean: the words the claims are made of: an instruction completes, what it changes and what it keeps, when an access is permitted, and the invariant that every step keeps. None of it is used by the machine; it says the rules of spec/ a second time, through the reading functions of the state only. -/

namespace Sys2Proof.Machine

open Sys2Proof

/-! ## An instruction completes -/

/-- The instruction completes: `exec` answers a next state, and `P` holds of it. -/
def RunsTo (i : Instr) (s : State) (P : State → Prop) : Prop := ∃ t, exec i s = .next t ∧ P t

/-! ## What is changed and what is kept, from `s` to `t` -/

/-- D[c] holds `v`, every other data register what it held. -/
def DataIs (s t : State) (c : Reg) (v : Word) : Prop := ∀ r, t.getD r = if r = c then v else s.getD r

/-- The pair E[c] holds `v`, the even register the low word (10 R43), every other data register what it held. -/
def PairIs (s t : State) (c : Reg) (v : DWord) : Prop :=
  ∀ r, t.getD r = if r = c + 1 then v.extractLsb' 32 32 else if r = c then v.extractLsb' 0 32 else s.getD r

/-- A[c] holds `v`, every other address register what it held. -/
def AddressIs (s t : State) (c : Reg) (v : Word) : Prop := ∀ r, t.getA r = if r = c then v else s.getA r

/-- The data registers are unchanged. -/
def DataKept (s t : State) : Prop := ∀ r, t.getD r = s.getD r

/-- The address registers are unchanged. -/
def AddressKept (s t : State) : Prop := ∀ r, t.getA r = s.getA r

/-- Every byte of memory is unchanged. -/
def MemoryKept (s t : State) : Prop := ∀ x, Memory.read t.mem x = Memory.read s.mem x

/-- The special registers that hold the context lists are unchanged: PCXI and FCX. -/
def ListsKept (s t : State) : Prop := t.pcxi = s.pcxi ∧ t.fcx = s.fcx

/-- The other special registers and the parameters are unchanged: LCX to TR1EVT and the range tables. -/
def SystemKept (s t : State) : Prop :=
  t.csfr = s.csfr ∧ t.dataSets = s.dataSets ∧ t.codeSets = s.codeSets ∧ t.cfg = s.cfg

/-- The boundary to the host is unchanged, but for events emitted and free bytes drawn. -/
def HostKept (s t : State) : Prop :=
  t.env.inputs = s.env.inputs ∧ t.env.nmiPending = s.env.nmiPending ∧ t.env.trapsPending = s.env.trapsPending

/-- Everything is unchanged but the general registers, the pc and the PSW. -/
def RestKept (s t : State) : Prop :=
  ListsKept s t ∧ t.icr = s.icr ∧ SystemKept s t ∧ MemoryKept s t ∧ t.env = s.env

/-! ## The status flags (10 R59 to R65) -/

/-- `r` is no signed number of `n` bits. -/
def OutsideSigned (n : Nat) (r : Int) : Prop := r < -(2 ^ (n - 1)) ∨ 2 ^ (n - 1) ≤ r

/-- `r` is no unsigned number of `n` bits. -/
def OutsideUnsigned (n : Nat) (r : Int) : Prop := r < 0 ∨ 2 ^ n ≤ r

/-- The signed number of `n` bits nearest to `r` (00 R28). -/
def clampSigned (n : Nat) (r : Int) : Int := max (-(2 ^ (n - 1))) (min r (2 ^ (n - 1) - 1))

/-- The unsigned number of `n` bits nearest to `r` (00 R28). -/
def clampUnsigned (n : Nat) (r : Int) : Int := max 0 (min r (2 ^ n - 1))

/-- The two top bits differ: advanced overflow (10 R60). -/
def TopBitsDiffer {n : Nat} (x : BitVec n) : Prop := x.getLsbD (n - 1) ≠ x.getLsbD (n - 2)

/-- V and AV say whether the conditions hold, SV and SAV are set with them and never cleared (10 R60, R65). -/
def OverflowFlags (s t : State) (v av : Prop) : Prop :=
  (Psw.v t.psw = true ↔ v) ∧ (Psw.sv t.psw = true ↔ v ∨ Psw.sv s.psw = true) ∧
  (Psw.av t.psw = true ↔ av) ∧ (Psw.sav t.psw = true ↔ av ∨ Psw.sav s.psw = true)

/-- C is unchanged. -/
def CarryKept (s t : State) : Prop := Psw.c t.psw = Psw.c s.psw

/-- The bits of the PSW below the flags are unchanged. -/
def StatusKept (s t : State) : Prop := ∀ k, k < 27 → t.psw.getLsbD k = s.psw.getLsbD k

/-! ## The shapes of the register instructions -/

/-- D[c] <- `v`; no flag changes. -/
def MovesTo (i : Instr) (s : State) (c : Reg) (len v : Word) : Prop :=
  RunsTo i s fun t =>
    DataIs s t c v ∧ AddressKept s t ∧ t.psw = s.psw ∧ t.pc = s.pc + len ∧ RestKept s t

/-- D[c] <- the word whose bit `k` is `f k`; no flag changes. -/
def BitsTo (i : Instr) (s : State) (c : Reg) (len : Word) (f : Nat → Bool) : Prop :=
  ∃ v : Word, (∀ k, k < 32 → v.getLsbD k = f k) ∧ MovesTo i s c len v

/-- D[c] <- the bitwise `f` of two words; no flag changes. -/
def BitwiseTo (i : Instr) (s : State) (c : Reg) (len : Word) (f : Bool → Bool → Bool) (x y : Word) : Prop :=
  BitsTo i s c len fun k => f (x.getLsbD k) (y.getLsbD k)

/-- `n` is the number of bits from the top of `x` down, below the first `skip` ones, that equal `b` (42 R451 to R453). -/
def LeadingRun {w : Nat} (x : BitVec w) (skip : Nat) (b : Bool) (n : Nat) : Prop :=
  skip + n ≤ w ∧ (∀ k, k < n → x.getLsbD (w - 1 - skip - k) = b) ∧
    (skip + n < w → x.getLsbD (w - 1 - skip - n) = !b)

/-- E[c] <- `v`; no flag changes. -/
def MovesPairTo (i : Instr) (s : State) (c : Reg) (len : Word) (v : DWord) : Prop :=
  RunsTo i s fun t =>
    PairIs s t c v ∧ AddressKept s t ∧ t.psw = s.psw ∧ t.pc = s.pc + len ∧ RestKept s t

/-- D[c] <- `v`, V and SV by `ov`, AV and SAV by the top bits of `v`; C as the last argument says. -/
def ArithTo (i : Instr) (s : State) (c : Reg) (len v : Word) (ov : Prop) (carry : State → State → Prop) : Prop :=
  RunsTo i s fun t =>
    DataIs s t c v ∧ AddressKept s t ∧ OverflowFlags s t ov (TopBitsDiffer v) ∧ carry s t ∧ StatusKept s t ∧
      t.pc = s.pc + len ∧ RestKept s t

/-- A signed result that wraps, with set_V_AV_32 (10 R60). -/
def SignedTo (i : Instr) (s : State) (c : Reg) (len : Word) (r : Int) : Prop :=
  ArithTo i s c len (BitVec.ofInt 32 r) (OutsideSigned 32 r) CarryKept

/-- A signed result that saturates, with set_V_AV_32 (10 R60). -/
def SignedSatTo (i : Instr) (s : State) (c : Reg) (len : Word) (r : Int) : Prop :=
  ArithTo i s c len (BitVec.ofInt 32 (clampSigned 32 r)) (OutsideSigned 32 r) CarryKept

/-- An unsigned result that saturates, with set_V_AV_U32 (10 R61). -/
def UnsignedSatTo (i : Instr) (s : State) (c : Reg) (len : Word) (r : Int) : Prop :=
  ArithTo i s c len (BitVec.ofInt 32 (clampUnsigned 32 r)) (OutsideUnsigned 32 r) CarryKept

/-- A signed result that wraps, with set_V_AV_32 and C set as `carry` says (10 R59, R60). -/
def SignedCarryTo (i : Instr) (s : State) (c : Reg) (len : Word) (r : Int) (carry : Prop) : Prop :=
  ArithTo i s c len (BitVec.ofInt 32 r) (OutsideSigned 32 r) fun _ t => (Psw.c t.psw = true ↔ carry)

/-- E[c] <- `v`, V and SV by `ov`, AV and SAV by `av`; C is unchanged. -/
def ArithPairTo (i : Instr) (s : State) (c : Reg) (len : Word) (v : DWord) (ov av : Prop) : Prop :=
  RunsTo i s fun t =>
    PairIs s t c v ∧ AddressKept s t ∧ OverflowFlags s t ov av ∧ CarryKept s t ∧ StatusKept s t ∧
      t.pc = s.pc + len ∧ RestKept s t

/-- A signed result of 64 bits that wraps, with set_V_AV_64 (10 R62). -/
def SignedPairTo (i : Instr) (s : State) (c : Reg) (r : Int) : Prop :=
  ArithPairTo i s c 4 (BitVec.ofInt 64 r) (OutsideSigned 64 r) (TopBitsDiffer (BitVec.ofInt 64 r))

/-- An unsigned result of 64 bits that wraps, with set_V_AV_U64 (10 R62). -/
def UnsignedPairTo (i : Instr) (s : State) (c : Reg) (r : Int) : Prop :=
  ArithPairTo i s c 4 (BitVec.ofInt 64 r) (OutsideUnsigned 64 r) (TopBitsDiffer (BitVec.ofInt 64 r))

/-- A signed result of 64 bits that saturates, with set_V_AV_64 (10 R62). -/
def SignedSatPairTo (i : Instr) (s : State) (c : Reg) (r : Int) : Prop :=
  ArithPairTo i s c 4 (BitVec.ofInt 64 (clampSigned 64 r)) (OutsideSigned 64 r)
    (TopBitsDiffer (BitVec.ofInt 64 (clampSigned 64 r)))

/-- An unsigned result of 64 bits that saturates, with set_V_AV_U64 (10 R62). -/
def UnsignedSatPairTo (i : Instr) (s : State) (c : Reg) (r : Int) : Prop :=
  ArithPairTo i s c 4 (BitVec.ofInt 64 (clampUnsigned 64 r)) (OutsideUnsigned 64 r)
    (TopBitsDiffer (BitVec.ofInt 64 (clampUnsigned 64 r)))

/-- `s64(E[r])`, the signed value of a pair: the odd register the high word (10 R43, 41 R390). -/
def signedPair (s : State) (r : Reg) : Int := s.sD (r + 1) * 2 ^ 32 + s.uD r

/-- `u64(E[r])`, the unsigned value of a pair (41 R391). -/
def unsignedPair (s : State) (r : Reg) : Int := s.uD (r + 1) * 2 ^ 32 + s.uD r

/-- DVINIT (41 R422): E[c] <- `e`, V and SV by `ov`; every other bit of the PSW is unchanged. -/
def DivideInitTo (i : Instr) (s : State) (c : Reg) (e : Int) (ov : Prop) : Prop :=
  RunsTo i s fun t =>
    PairIs s t c (BitVec.ofInt 64 e) ∧ AddressKept s t ∧ (Psw.v t.psw = true ↔ ov) ∧
      (Psw.sv t.psw = true ↔ ov ∨ Psw.sv s.psw = true) ∧
      (∀ k, k ≠ 29 → k ≠ 30 → t.psw.getLsbD k = s.psw.getLsbD k) ∧ t.pc = s.pc + 4 ∧ RestKept s t

/-- `n` signed quotient bits (41 R425) on a remainder, read as a signed word after each shift, and the low word: `neg` says
that the dividend is negative, `qs` is the sign bit of the quotient, `y` the divisor with the sign the steps add it with. -/
def signedSteps (neg : Prop) [Decidable neg] (qs y : Int) : Nat → Int × Int → Int × Int
  | 0, x => x
  | n + 1, (rem, dq) =>
    let r := (BitVec.ofInt 32 (2 * rem + dq / 2 ^ 31)).toInt
    let q := 2 * dq % 2 ^ 32
    signedSteps neg qs y n (if r + y < 0 ↔ neg then (r + y, q + (1 - qs)) else (r, q + qs))

/-- What a signed divide step leaves of the pair `hi`, `lo` and the divisor `b` (41 R425). -/
def signedStepResult (hi lo b : Int) : Int × Int :=
  let qs := if (hi < 0 ↔ b < 0) then 0 else 1
  signedSteps (hi < 0) qs (if qs = 1 then b else -b) 8 (hi, lo)

/-- `n` unsigned quotient bits (41 R426) on a remainder that is not cut and the low word, with the divisor `y`. -/
def unsignedSteps (y : Nat) : Nat → Nat × Nat → Nat × Nat
  | 0, x => x
  | n + 1, (rem, dq) =>
    let r := 2 * rem + dq / 2 ^ 31
    let q := 2 * dq % 2 ^ 32
    unsignedSteps y n (if y ≤ r then (r - y, q + 1) else (r, q))

/-- The low `n` bits of `x` read as a two's complement number (42 R468). -/
def signedField (n x : Nat) : Int := if 2 * (x % 2 ^ n) < 2 ^ n then (x % 2 ^ n : Nat) else (x % 2 ^ n : Nat) - 2 ^ n

/-- `x * 2^cnt`, for a negative count `floor(x / 2^(-cnt))` (42 R469, R470). -/
def shifted (x cnt : Int) : Int := if 0 ≤ cnt then x * 2 ^ cnt.toNat else x / 2 ^ (-cnt).toNat

/-- Some bit that the shift of the 32-bit `x` by `cnt` moves out is 1 (42 R470). -/
def ShiftsOut (x cnt : Int) : Prop := if 0 ≤ cnt then x / 2 ^ (32 - cnt.toNat) ≠ 0 else x % 2 ^ (-cnt).toNat ≠ 0

/-- `s(hi(D[r]))` (43 R501). -/
def highInt (s : State) (r : Reg) : Int := s.sD r / 2 ^ 16

/-- `s(lo(D[r]))` (43 R501). -/
def lowInt (s : State) (r : Reg) : Int := signedField 16 (s.getD r).toNat

/-- The product of two 16-bit fractions (43 R500): shifted left by `n`, and -1 * -1 replaced where it would not fit. -/
def qProduct (x y : Int) (n : BitVec 2) : Int :=
  if n = 1 ∧ x = -2 ^ 15 ∧ y = -2 ^ 15 then 2 ^ 31 - 1 else x * y * 2 ^ n.toNat

/-- The multiple of 2^16 that rounding gives: half added, the low half dropped (00 R27). -/
def rounded (r : Int) : Int := (r + 2 ^ 15) / 2 ^ 16 * 2 ^ 16

/-- D[c] <- `v`, V and SV by `ov`, AV and SAV by `av`; C is unchanged. -/
def ArithPackTo (i : Instr) (s : State) (c : Reg) (v : Word) (ov av : Prop) : Prop :=
  RunsTo i s fun t =>
    DataIs s t c v ∧ AddressKept s t ∧ OverflowFlags s t ov av ∧ CarryKept s t ∧ StatusKept s t ∧
      t.pc = s.pc + 4 ∧ RestKept s t

/-- Two 32-bit results in a pair, the first in the high word; `f` wraps or saturates each (43 R502, R506). -/
def TwoWordsTo (i : Instr) (s : State) (c : Reg) (f : Int → Int) (r1 r0 : Int) : Prop :=
  ArithPairTo i s c 4 (BitVec.ofInt 32 (f r1) ++ BitVec.ofInt 32 (f r0)) (OutsideSigned 32 r1 ∨ OutsideSigned 32 r0)
    (TopBitsDiffer (BitVec.ofInt 32 (f r1)) ∨ TopBitsDiffer (BitVec.ofInt 32 (f r0)))

/-- Two 32-bit results of which D[c] keeps the high halfwords; `f` wraps or saturates each (43 R502, R507). -/
def TwoHighTo (i : Instr) (s : State) (c : Reg) (f : Int → Int) (r1 r0 : Int) : Prop :=
  ArithPackTo i s c (BitVec.ofInt 32 (f r1 / 2 ^ 16 * 2 ^ 16 + f r0 / 2 ^ 16 % 2 ^ 16))
    (OutsideSigned 32 r1 ∨ OutsideSigned 32 r0)
    (TopBitsDiffer (BitVec.ofInt 32 (f r1)) ∨ TopBitsDiffer (BitVec.ofInt 32 (f r0)))

/-- Element `k` of a word packed with elements of `n` bits, element 0 the lowest (44 R550). -/
def element (n : Nat) (x : Word) (k : Nat) : BitVec n := BitVec.ofNat n (x.toNat / 2 ^ (n * k))

/-- `sN` of an element (44 R551). -/
def sElem (n : Nat) (x : Word) (k : Nat) : Int := (element n x k).toInt

/-- `uN` of an element (44 R551). -/
def uElem (n : Nat) (x : Word) (k : Nat) : Int := ((element n x k).toNat : Int)

/-- The word whose four byte elements are `f 0` to `f 3`, element 0 the lowest (44 R550). -/
def ofBytes (f : Nat → BitVec 8) : Word :=
  BitVec.ofNat 32 ((f 0).toNat + 2 ^ 8 * (f 1).toNat + 2 ^ 16 * (f 2).toNat + 2 ^ 24 * (f 3).toNat)

/-- The word whose two halfword elements are `f 0` and `f 1`, element 0 the lowest (44 R550). -/
def ofHalves (f : Nat → BitVec 16) : Word := BitVec.ofNat 32 ((f 0).toNat + 2 ^ 16 * (f 1).toNat)

/-- D[c] gets the byte elements `f k`, V where one of them overflows, AV where the top bits of one differ (10 R63). -/
def BytesTo (i : Instr) (s : State) (c : Reg) (f : Nat → BitVec 8) (ov : Nat → Prop) : Prop :=
  RunsTo i s fun t =>
    DataIs s t c (ofBytes f) ∧ AddressKept s t ∧
      OverflowFlags s t (∃ k, k < 4 ∧ ov k) (∃ k, k < 4 ∧ TopBitsDiffer (f k)) ∧ CarryKept s t ∧ StatusKept s t ∧
      t.pc = s.pc + 4 ∧ RestKept s t

/-- D[c] gets the halfword elements `f k`, V where one of them overflows, AV where the top bits of one differ (10 R63). -/
def HalvesTo (i : Instr) (s : State) (c : Reg) (f : Nat → BitVec 16) (ov : Nat → Prop) : Prop :=
  RunsTo i s fun t =>
    DataIs s t c (ofHalves f) ∧ AddressKept s t ∧
      OverflowFlags s t (∃ k, k < 2 ∧ ov k) (∃ k, k < 2 ∧ TopBitsDiffer (f k)) ∧ CarryKept s t ∧ StatusKept s t ∧
      t.pc = s.pc + 4 ∧ RestKept s t

/-- D[c] <- 1 if `p`, else 0; no flag changes (45 R620). -/
def ComparesTo (i : Instr) (s : State) (c : Reg) (len : Word) (p : Prop) : Prop :=
  (p → MovesTo i s c len 1) ∧ (¬ p → MovesTo i s c len 0)

/-- Bit 0 of D[c] says whether `p`, its other bits stay; no flag changes (45 R628, R676). -/
def AccumulatesTo (i : Instr) (s : State) (c : Reg) (p : Prop) : Prop :=
  ∃ v : Word, (v.getLsbD 0 = true ↔ p) ∧ (∀ k, 0 < k → k < 32 → v.getLsbD k = (s.getD c).getLsbD k) ∧
    MovesTo i s c 4 v

/-- D[c] is shifted left by one and bit 0 says whether `p`; no flag changes (45 R647, R685). -/
def ShiftsInTo (i : Instr) (s : State) (c : Reg) (p : Prop) : Prop :=
  ∃ v : Word, (v.getLsbD 0 = true ↔ p) ∧ (∀ k, k < 31 → v.getLsbD (k + 1) = (s.getD c).getLsbD k) ∧
    MovesTo i s c 4 v

/-- Bit `k` of D[r] is 1. -/
def BitOf (s : State) (r : Reg) (k : Nat) : Prop := (s.getD r).getLsbD k = true

/-- A[c] may be written (10 R45, R70). -/
def MayWriteA (s : State) (c : Reg) : Prop := (c ≠ 0 ∧ c ≠ 1 ∧ c ≠ 8 ∧ c ≠ 9) ∨ Psw.gw s.psw = true

/-- A[c] <- `v` where A[c] may be written; else the trap GRWP (46 R700). -/
def AddressTo (i : Instr) (s : State) (c : Reg) (len v : Word) : Prop :=
  (MayWriteA s c → RunsTo i s fun t =>
    AddressIs s t c v ∧ DataKept s t ∧ t.psw = s.psw ∧ t.pc = s.pc + len ∧ RestKept s t) ∧
  (¬ MayWriteA s c → exec i s = raise s .grwp)

/-- The pc goes to `target`; nothing else changes. -/
def JumpsTo (i : Instr) (s : State) (target : Word) : Prop :=
  RunsTo i s fun t => DataKept s t ∧ AddressKept s t ∧ t.psw = s.psw ∧ t.pc = target ∧ RestKept s t

/-- The pc goes to `target` and A11 gets the return address; nothing else changes (47 R745). -/
def LinksTo (i : Instr) (s : State) (target : Word) : Prop :=
  RunsTo i s fun t =>
    AddressIs s t 11 (s.pc + 4) ∧ DataKept s t ∧ t.psw = s.psw ∧ t.pc = target ∧ RestKept s t

/-- D[a] <- `v`, and the pc goes to `target` if `p`, else to the next instruction; nothing else changes (47 R766). -/
def CountsTo (i : Instr) (s : State) (a : Reg) (v : Word) (p : Prop) (target : Word) : Prop :=
  RunsTo i s fun t =>
    DataIs s t a v ∧ AddressKept s t ∧ t.psw = s.psw ∧ (p → t.pc = target) ∧ (¬ p → t.pc = s.pc + 4) ∧ RestKept s t

/-- The pc goes to `target` if `p`, else to the next instruction; nothing else changes (47 R740). -/
def BranchesTo (i : Instr) (s : State) (p : Prop) (target len : Word) : Prop :=
  (p → JumpsTo i s target) ∧ (¬ p → JumpsTo i s (s.pc + len))

/-! ## Loads and stores (48 R802, R803) -/

/-- A register number that names no pair. -/
def IsOdd (r : Reg) : Prop := r.val % 2 = 1

/-- Some entry of the protection set PSW.PRS holds `x` in its range and has the mode bit (20 R180, R181). -/
def InRange (sets : List (List RangeEntry)) (psw : Word) (bit : Nat) (x : Word) : Prop :=
  ∃ set, sets[(Psw.prs psw).toNat]? = some set ∧
    ∃ e, e ∈ set ∧ e.lower.toNat ≤ x.toNat ∧ x.toNat < e.upper.toNat ∧ e.mode.getLsbD bit = true

/-- The protection of an access at `x` (20 R185 steps 5 and 6): a peripheral segment wants User-1 or Supervisor; elsewhere
the ranges permit the read (bit 6) and the write (bit 7) if SYSCON.PROTEN = 1. -/
def Permitted (s : State) (k : Access) (x : Word) : Prop :=
  if 0xE0000000 ≤ x.toNat then Psw.io s.psw ≠ 0
  else s.csfr.syscon.getLsbD 1 = true →
    (k ≠ .write → InRange s.dataSets s.psw 6 x) ∧ (k ≠ .read → InRange s.dataSets s.psw 7 x)

/-- Every check of an access of `n` bytes at a place (20 R185): the alignment, the segment of the base, the CSFR area, the
null address, the protection, and memory behind a local address. -/
def AccessOk (s : State) (k : Access) (p : Place) (align n : Nat) : Prop :=
  p.ea.toNat % align = 0 ∧
  (∀ r, p.ring = some r → r.base.toNat % n = 0 ∧ r.len % n = 0) ∧
  (∀ b, p.base = some b → b.toNat / 2 ^ 28 = p.ea.toNat / 2 ^ 28) ∧
  ¬ (0x2FFFC000 ≤ p.ea.toNat ∧ p.ea.toNat ≤ 0x2FFFFFFF) ∧
  ¬ (s.cfg.mpnCheck = true ∧ p.ea = 0) ∧
  Permitted s k p.ea ∧
  (p.ea.toNat < 0x30000000 → memKind s.cfg p.ea ≠ none)

/-- The address registers that a load and its mode write may be written. -/
def UpdateOk (s : State) (p : Place) (writes : List Reg) : Prop :=
  (∀ r, r ∈ writes → MayWriteA s r) ∧ ∀ r v, p.update = some (r, v) → MayWriteA s r

/-- Every condition under which a load or store of a mode is made: even pairs, writable registers, the access checks. -/
def OperandOk (s : State) (k : Access) (m : AddrMode) (pairs writes : List Reg) (align n : Nat) : Prop :=
  (∀ r, r ∈ pairs → ¬ IsOdd r) ∧ (m.place s).pairOk = true ∧ UpdateOk s (m.place s) writes ∧
    AccessOk s k (m.place s) align n

open Classical in
/-- The trap an access takes whose conditions do not all hold: that of the first condition that fails, in the order of 60
R980 step 2 and 20 R185: OPD, GRWP, ALN, MEM, MPN, MPP, MPR, MPW, BUS. -/
def FirstTrap (s : State) (k : Access) (m : AddrMode) (pairs writes : List Reg) (align n : Nat) (x : Trap) : Prop :=
  let p := m.place s
  if (∃ r, r ∈ pairs ∧ IsOdd r) ∨ p.pairOk = false then x = .opd
  else if ¬ UpdateOk s p writes then x = .grwp
  else if p.ea.toNat % align ≠ 0 ∨ ∃ r, p.ring = some r ∧ ¬ (r.base.toNat % n = 0 ∧ r.len % n = 0) then x = .aln
  else if (∃ b, p.base = some b ∧ b.toNat / 2 ^ 28 ≠ p.ea.toNat / 2 ^ 28) ∨
    (0x2FFFC000 ≤ p.ea.toNat ∧ p.ea.toNat ≤ 0x2FFFFFFF) then x = .mem
  else if s.cfg.mpnCheck = true ∧ p.ea = 0 then x = .mpn
  else if 0xE0000000 ≤ p.ea.toNat ∧ Psw.io s.psw = 0 then x = .mpp
  else if k ≠ .write ∧ ¬ Permitted s .read p.ea then x = .mpr
  else if k ≠ .read ∧ ¬ Permitted s .write p.ea then x = .mpw
  else x = .bus .bus

/-- The address registers after the update of a mode (48 R802 step 5). -/
def Updated (s : State) (p : Place) (r : Reg) : Word :=
  match p.update with
  | none => s.getA r
  | some (q, v) => if r = q then v else s.getA r

/-- What an access at `x` sends to the debug unit, newest first (10 R123). -/
def accessSignals (s : State) (k : Access) (x : Word) : List HostOutput :=
  ((if k = .write then [] else s.readSignals x) ++ (if k = .read then [] else s.writeSignals x)).reverse

/-- What an access of `n` bytes at a device sends to the device, newest first (60 R1000). -/
def deviceEvents (s : State) (k : Access) (p : Place) (n v : Nat) : List HostOutput :=
  if memKind s.cfg p.ea = some .device then
    (if k = .read then [] else [.deviceStore (p.byteAddr n 0) n (v % 256 ^ n) s.supervisor]) ++
    (if k = .write then [] else [.deviceLoad (p.byteAddr n 0) n s.supervisor])
  else []

/-- The boundary after an access: its events, and the free bytes a read draws where no memory is (log 6). -/
def BoundaryAfter (s t : State) (k : Access) (p : Place) (n v : Nat) : Prop :=
  HostKept s t ∧
  t.env.outputs = deviceEvents s k p n v ++ accessSignals s k p.ea ++ s.env.outputs ∧
  t.env.freeCount =
    s.env.freeCount + if k = .write ∨ memKind s.cfg p.ea = some .storage then 0 else n

/-- Every byte but the `n` bytes of a place is unchanged; at a place that is memory they hold the low bytes of `v`, the
least significant first (20 R140); elsewhere no byte of memory changes. -/
def StoredAt (s t : State) (p : Place) (n v : Nat) : Prop :=
  (∀ x, (memKind s.cfg p.ea = some .storage → ∀ k, k < n → x ≠ (p.byteAddr n k).toNat) →
    Memory.read t.mem x = Memory.read s.mem x) ∧
  (memKind s.cfg p.ea = some .storage → Memory.wf s.mem = true →
    ∀ k, k < n → Memory.read t.mem (p.byteAddr n k).toNat = BitVec.ofNat 8 (v / 256 ^ k))

/-- Nothing but registers, memory, the pc and the boundary changes. -/
def ControlKept (s t : State) : Prop := t.psw = s.psw ∧ ListsKept s t ∧ t.icr = s.icr ∧ SystemKept s t

/-- A load of `n` bytes of a mode: if its conditions hold it completes with the registers that `regs` names (by the value
read), the other effects of 48 R802, and no byte of memory changed; else it takes the first trap of its checks. -/
def LoadForm (i : Instr) (s : State) (m : AddrMode) (pairs writes : List Reg) (align n : Nat) (len : Word)
    (regs : Nat → State → Prop) : Prop :=
  (OperandOk s .read m pairs writes align n → RunsTo i s fun t =>
    regs (s.loadValue (m.place s) n) t ∧ ControlKept s t ∧ MemoryKept s t ∧ t.pc = s.pc + len ∧
      BoundaryAfter s t .read (m.place s) n 0) ∧
  (¬ OperandOk s .read m pairs writes align n →
    ∃ x, FirstTrap s .read m pairs writes align n x ∧ exec i s = raise s x)

/-- A load into D[c]: `f` of the value read; the address registers as the mode leaves them. -/
def LoadsData (i : Instr) (s : State) (m : AddrMode) (align n : Nat) (len : Word) (c : Reg) (f : Nat → Word) : Prop :=
  LoadForm i s m [] [] align n len fun v t =>
    DataIs s t c (f v) ∧ ∀ r, t.getA r = Updated s (m.place s) r

/-- A load into A[c], written after the update of the mode (48 R804). -/
def LoadsAddress (i : Instr) (s : State) (m : AddrMode) (len : Word) (c : Reg) : Prop :=
  LoadForm i s m [] [c] s.cfg.align.ldA 4 len fun v t =>
    DataKept s t ∧ ∀ r, t.getA r = if r = c then BitVec.ofNat 32 v else Updated s (m.place s) r

/-- A load into E[c] (48 R808). -/
def LoadsPair (i : Instr) (s : State) (m : AddrMode) (c : Reg) : Prop :=
  LoadForm i s m [c] [] s.cfg.align.ldD 8 4 fun v t =>
    PairIs s t c (BitVec.ofNat 64 v) ∧ ∀ r, t.getA r = Updated s (m.place s) r

/-- A load into the address pair A[c], A[c+1] (48 R809). -/
def LoadsAddressPair (i : Instr) (s : State) (m : AddrMode) (c : Reg) : Prop :=
  LoadForm i s m [c] [c, c + 1] s.cfg.align.ldDa 8 4 fun v t =>
    DataKept s t ∧ ∀ r, t.getA r =
      if r = c + 1 then BitVec.ofNat 32 (v / 2 ^ 32) else if r = c then BitVec.ofNat 32 v
      else Updated s (m.place s) r

/-- A store of the `n` low bytes of `v` (48 R803): if its conditions hold it completes, and only those bytes of memory and
the register of the mode change; else it takes the first trap of its checks. -/
def StoreForm (i : Instr) (s : State) (m : AddrMode) (pairs : List Reg) (align n : Nat) (len : Word) (v : Nat) : Prop :=
  (OperandOk s .write m pairs [] align n → RunsTo i s fun t =>
    DataKept s t ∧ (∀ r, t.getA r = Updated s (m.place s) r) ∧ ControlKept s t ∧ StoredAt s t (m.place s) n v ∧
      t.pc = s.pc + len ∧ BoundaryAfter s t .write (m.place s) n v) ∧
  (¬ OperandOk s .write m pairs [] align n →
    ∃ x, FirstTrap s .write m pairs [] align n x ∧ exec i s = raise s x)

/-- A read-modify-write (48 R803): the `n` bytes read, `f` of them written back, the registers as `regs` says. -/
def ModifyForm (i : Instr) (s : State) (m : AddrMode) (pairs writes : List Reg) (align n : Nat) (f : Nat → Nat)
    (regs : Nat → State → Prop) : Prop :=
  (OperandOk s .modify m pairs writes align n → RunsTo i s fun t =>
    regs (s.loadValue (m.place s) n) t ∧ ControlKept s t ∧
      StoredAt s t (m.place s) n (f (s.loadValue (m.place s) n)) ∧ t.pc = s.pc + 4 ∧
      BoundaryAfter s t .modify (m.place s) n (f (s.loadValue (m.place s) n))) ∧
  (¬ OperandOk s .modify m pairs writes align n →
    ∃ x, FirstTrap s .modify m pairs writes align n x ∧ exec i s = raise s x)

/-- A read-modify-write that writes no address register but that of its mode (48 R821, R822, R824). -/
def ModifiesData (i : Instr) (s : State) (m : AddrMode) (pairs : List Reg) (align n : Nat) (f : Nat → Nat)
    (regs : Nat → State → Prop) : Prop :=
  ModifyForm i s m pairs [] align n f fun v t => regs v t ∧ ∀ r, t.getA r = Updated s (m.place s) r

/-- SWAP.A (48 R823): A[c] gets the old word, after the update of the mode. -/
def SwapsAddress (i : Instr) (s : State) (m : AddrMode) (c : Reg) : Prop :=
  ModifyForm i s m [] [c] s.cfg.align.swapA 4 (fun _ => (s.getA c).toNat) fun v t =>
    DataKept s t ∧ ∀ r, t.getA r = if r = c then BitVec.ofNat 32 v else Updated s (m.place s) r

/-- The byte `t` with bit `p` replaced by `b` (48 R821). -/
def withBit (t p b : Nat) : Nat := t - t / 2 ^ p % 2 * 2 ^ p + b * 2 ^ p

/-- LEA (48 R830): A[c] gets the effective address after the update of the mode; no access is made. -/
def LeaForm (i : Instr) (s : State) (m : AddrMode) (c : Reg) : Prop :=
  ((m.place s).pairOk = true ∧ UpdateOk s (m.place s) [c] → RunsTo i s fun t =>
    DataKept s t ∧ (∀ r, t.getA r = if r = c then (m.place s).ea else Updated s (m.place s) r) ∧
      t.psw = s.psw ∧ t.pc = s.pc + 4 ∧ RestKept s t) ∧
  ((m.place s).pairOk = false → exec i s = raise s .opd) ∧
  ((m.place s).pairOk = true ∧ ¬ UpdateOk s (m.place s) [c] → exec i s = raise s .grwp)

/-! ## Contexts (60 R965 to R971) -/

/-- The word of memory at `x`, little-endian (20 R140). -/
def wordAt (m : List Host.Cell) (x : Word) : Word :=
  BitVec.ofNat 32 (Memory.readBytes m (fun k => x + BitVec.ofNat 32 k) 4)

/-- The CSA at the head of the free list is memory: FCX is not null and its area is storage outside the CSFR area and the
peripheral segments. -/
def FreeArea (s : State) : Prop := pointer s.fcx ≠ 0 ∧ csaKind s.cfg (csaAddress s.fcx) = some .storage

/-- Word `k` of the CSA at `x` as an instruction reads it with one access of `n` bytes: the word that stands in memory; free
bytes where no memory is (60 R1000, 93 U4; log 6 and 8). -/
def csaWord (s : State) (x : Word) (n k : Nat) : Word :=
  if csaKind s.cfg x = some .storage then wordAt s.mem (x + BitVec.ofNat 32 (4 * k))
  else BitVec.ofNat 32 (freeBytes s.env.freeCount n / 2 ^ (32 * k))

/-- The words `l` stand at the CSA that FCX named, and every byte outside its 64 bytes is unchanged; where the CSA is no
memory every byte is unchanged (log 8). -/
def ContextStored (s t : State) (l : List Word) : Prop :=
  (csaKind s.cfg (csaAddress s.fcx) = some .storage → Memory.wf s.mem = true →
    ∀ k w, l[k]? = some w → wordAt t.mem (csaAddress s.fcx + BitVec.ofNat 32 (4 * k)) = w) ∧
  ∀ x, (csaKind s.cfg (csaAddress s.fcx) = some .storage →
      ∀ k, k < 64 → x ≠ (csaAddress s.fcx + BitVec.ofNat 32 k).toNat) →
    Memory.read t.mem x = Memory.read s.mem x

/-- The list registers after a save (60 R966): FCX gets the link word of the CSA used, PCXI names that CSA, with the
interrupt state of before and the kind of the context; the reserved bits of PCXI are 0. -/
def ListsAfterSave (s t : State) (upper : Bool) : Prop :=
  pointer t.fcx = pointer (csaWord s (csaAddress s.fcx) 4 0) ∧ t.fcx.extractLsb' 20 12 = s.fcx.extractLsb' 20 12 ∧
  pointer t.pcxi = pointer s.fcx ∧ Pcxi.pcpn t.pcxi = Icr.ccpn s.icr ∧ Pcxi.pie t.pcxi = Icr.ie s.icr ∧
  Pcxi.ul t.pcxi = upper ∧ t.pcxi.extractLsb' 20 2 = 0

/-- The list registers and the memory after a restore (60 R968): PCXI gets the link word of the CSA, that CSA becomes the
head of the free list, and its first word the old head; no other byte of memory changes, and none where the CSA is no
memory (log 8). -/
def ListsAfterRestore (s t : State) : Prop :=
  t.pcxi = csaWord s (csaAddress s.pcxi) 64 0 &&& 0xFFCFFFFF ∧
  pointer t.fcx = pointer s.pcxi ∧ t.fcx.extractLsb' 20 12 = s.fcx.extractLsb' 20 12 ∧
  (csaKind s.cfg (csaAddress s.pcxi) = some .storage → Memory.wf s.mem = true →
    wordAt t.mem (csaAddress s.pcxi) = s.fcx) ∧
  ∀ x, (csaKind s.cfg (csaAddress s.pcxi) = some .storage →
      ∀ k, k < 4 → x ≠ (csaAddress s.pcxi + BitVec.ofNat 32 k).toNat) →
    Memory.read t.mem x = Memory.read s.mem x

/-- The registers a CSA holds beside the link word, in the order of CSA_LAYOUT (60 R965): upper context. -/
def upperSaved (s : State) : List Word :=
  [s.psw, s.getA 10, s.getA 11, s.getA 12, s.getA 13, s.getA 14, s.getA 15,
    s.getD 8, s.getD 9, s.getD 10, s.getD 11, s.getD 12, s.getD 13, s.getD 14, s.getD 15]

/-- The registers of a lower context, in the order of CSA_LAYOUT (60 R965). -/
def lowerSaved (s : State) : List Word :=
  [s.getA 11, s.getA 2, s.getA 3, s.getA 4, s.getA 5, s.getA 6, s.getA 7,
    s.getD 0, s.getD 1, s.getD 2, s.getD 3, s.getD 4, s.getD 5, s.getD 6, s.getD 7]

/-- Half of a CSA layout is legal: no register at the link word, no two at one word (60 R965). -/
def LegalPlaces (places : Vector (Fin 16) 15) : Prop :=
  (∀ i, i < 15 → wordPlace places i ≠ 0) ∧
  ∀ i j, i < 15 → j < 15 → wordPlace places i = wordPlace places j → i = j

/-- The sixteen words `l` of a CSA: the link word first, every register at its place (60 R965). -/
def LaidOut (places : Vector (Fin 16) 15) (l : List Word) (link : Word) (regs : List Word) : Prop :=
  l.length = 16 ∧
  (LegalPlaces places → l[0]? = some link ∧ ∀ i x, regs[i]? = some x → l[wordPlace places i]? = some x)

/-- D8 to D15 and A10 to A15 hold their words of an upper context `w`, the other general registers what they held. -/
def UpperLoaded (s t : State) (w : Nat → Word) : Prop :=
  (∀ r : Reg, t.getD r = if 8 ≤ r.val then w (wordPlace s.cfg.csaLayout.upper (r.val - 1)) else s.getD r) ∧
  ∀ r : Reg, t.getA r = if 10 ≤ r.val then w (wordPlace s.cfg.csaLayout.upper (r.val - 9)) else s.getA r

/-- D0 to D7 and A2 to A7 hold their words of a lower context `w`, the other general registers what they held. -/
def LowerLoaded (s t : State) (w : Nat → Word) : Prop :=
  (∀ r : Reg, t.getD r = if r.val < 8 then w (wordPlace s.cfg.csaLayout.lower (r.val + 7)) else s.getD r) ∧
  ∀ r : Reg, t.getA r =
    if 2 ≤ r.val ∧ r.val ≤ 7 then w (wordPlace s.cfg.csaLayout.lower (r.val - 1)) else s.getA r

/-- The boundary after an instruction has read `rd` bytes of the CSA at `x` and written the `wr` low bytes of `v` there: the
debug signals of a read and a write are sent (log 14); a device gets its two events, and the bytes read where no memory is
are drawn (log 6 and 8). -/
def ContextBoundary (s t : State) (x : Word) (rd wr v : Nat) : Prop :=
  t.env = { s.env with
    outputs := (if csaKind s.cfg x = some .device then
        [.deviceStore x wr (v % 256 ^ wr) s.supervisor, .deviceLoad x rd s.supervisor] else []) ++
      accessSignals s .modify x ++ s.env.outputs
    freeCount := s.env.freeCount + if csaKind s.cfg x = some .storage then 0 else rd }

/-- The checks that an instruction's own save or restore makes of its CSA at `x`, in their order MPP, MPR, MPW, BUS (60 R971
a), and `done`, what it does where none of them traps. -/
def CsaChecked (i : Instr) (s : State) (x : Word) (done : Prop) : Prop :=
  (0xE0000000 ≤ x.toNat → Psw.io s.psw = 0 → exec i s = raise s .mpp) ∧
  (x.toNat < 0xE0000000 → ¬ Permitted s .read x → exec i s = raise s .mpr) ∧
  (x.toNat < 0xE0000000 → Permitted s .read x → ¬ Permitted s .write x → exec i s = raise s .mpw) ∧
  (Permitted s .modify x → x.toNat < 0x30000000 → csaKind s.cfg x = none → exec i s = raise s (.bus .bus)) ∧
  (Permitted s .modify x → (x.toNat < 0x30000000 → csaKind s.cfg x ≠ none) → done)

/-- Words side by side as one little-endian number, the first the lowest. -/
def wordsValue (l : List Word) : Nat := l.foldr (fun w n => w.toNat + 2 ^ 32 * n) 0

/-- FCX names the limit CSA (60 R967). -/
def AtLimit (s : State) : Prop := pointer s.fcx = pointer s.csfr.lcx

/-- The call depth counter has `w` bits and holds `cnt`: CDC is 6 - w ones, a zero and the `w` bits (10 R72). -/
def HasCounter (psw : Word) (w cnt : Nat) : Prop :=
  w ≤ 6 ∧ cnt < 2 ^ w ∧ psw.toNat % 2 ^ 7 = 2 ^ 7 - 2 ^ (w + 1) + cnt

/-- `call_depth_overflow` (47 R770). -/
def CallOverflows (psw : Word) : Prop := psw.getLsbD 7 = true ∧ ∃ w, HasCounter psw w (2 ^ w - 1)

/-- The PSW after a call (47 R769 step 5): CDC counts if CDE = 1 and counting is not disabled, CDE is 1. -/
def CallCounted (s t : State) : Prop :=
  (∀ k, 8 ≤ k → t.psw.getLsbD k = s.psw.getLsbD k) ∧ t.psw.getLsbD 7 = true ∧
  t.psw.toNat % 2 ^ 7 =
    if s.psw.getLsbD 7 = true ∧ s.psw.toNat % 2 ^ 7 ≠ 127 then s.psw.toNat % 2 ^ 7 + 1 else s.psw.toNat % 2 ^ 7

/-- The state after a call to `target` (47 R769 steps 3 to 7). -/
def Called (s t : State) (target : Word) : Prop :=
  ContextStored s t s.upperContext ∧ ListsAfterSave s t true ∧ DataKept s t ∧ AddressIs s t 11 (s.pc + 4) ∧
    CallCounted s t ∧ t.icr = s.icr ∧ SystemKept s t ∧ t.pc = target ∧
    ContextBoundary s t (csaAddress s.fcx) 4 64 (wordsValue s.upperContext)

/-- A call (47 R769): FCU, CDO, the checks of the CSA, then the call, followed by FCD where the save used the limit CSA. -/
def CallTo (i : Instr) (s : State) (target : Word) : Prop :=
  (pointer s.fcx = 0 → exec i s = raise s .fcu) ∧
  (pointer s.fcx ≠ 0 → CallOverflows s.psw → exec i s = raise s .cdo) ∧
  (pointer s.fcx ≠ 0 → ¬ CallOverflows s.psw → CsaChecked i s (csaAddress s.fcx)
    ((¬ AtLimit s → RunsTo i s fun t => Called s t target) ∧
      (AtLimit s → ∃ t, Called s t target ∧ exec i s = takeTrap t .fcd target)))

/-- The state after a lower context save (49 R872): ICR is `icr`. -/
def LowerSaved (s t : State) (icr len : Word) : Prop :=
  ContextStored s t s.lowerContext ∧ ListsAfterSave s t false ∧ DataKept s t ∧ AddressKept s t ∧ t.psw = s.psw ∧
    t.icr = icr ∧ SystemKept s t ∧ t.pc = s.pc + len ∧
    ContextBoundary s t (csaAddress s.fcx) 4 64 (wordsValue s.lowerContext)

/-- A save of the lower context (49 R872): FCU, the checks of the CSA, then the save, followed by FCD where it used the
limit CSA. -/
def SaveLowerTo (i : Instr) (s : State) (icr len : Word) : Prop :=
  (pointer s.fcx = 0 → exec i s = raise s .fcu) ∧
  (pointer s.fcx ≠ 0 → CsaChecked i s (csaAddress s.fcx)
    ((¬ AtLimit s → RunsTo i s fun t => LowerSaved s t icr len) ∧
      (AtLimit s → ∃ t, LowerSaved s t icr len ∧ exec i s = takeTrap t .fcd (s.pc + len))))

/-- Word `k` of the saved context that PCXI names. -/
def savedWord (s : State) (k : Nat) : Word := csaWord s (csaAddress s.pcxi) 64 k

/-- The state after RET or RFE (49 R880 steps 4 to 7). -/
def Returned (s t : State) : Prop :=
  UpperLoaded s t (savedWord s) ∧ ListsAfterRestore s t ∧
    t.psw = savedWord s (wordPlace s.cfg.csaLayout.upper 0) &&& 0xF8003FFF ∧
    Icr.ie t.icr = Pcxi.pie s.pcxi ∧ Icr.ccpn t.icr = Pcxi.pcpn s.pcxi ∧
    (∀ k, 9 ≤ k → t.icr.getLsbD k = s.icr.getLsbD k) ∧ SystemKept s t ∧
    t.pc = BitVec.ofNat 32 ((s.getA 11).toNat / 2 * 2) ∧
    ContextBoundary s t (csaAddress s.pcxi) 64 4 s.fcx.toNat

/-- RET or RFE where its test of the call depth does not trap: CSU, CTYP, the checks of the CSA, then the return. -/
def ReturnTo (i : Instr) (s : State) : Prop :=
  (pointer s.pcxi = 0 → exec i s = raise s .csu) ∧
  (pointer s.pcxi ≠ 0 → Pcxi.ul s.pcxi = false → exec i s = raise s .ctyp) ∧
  (pointer s.pcxi ≠ 0 → Pcxi.ul s.pcxi = true → CsaChecked i s (csaAddress s.pcxi) (RunsTo i s (Returned s)))

/-- The state after RSLCX (49 R873): A11 is loaded too. -/
def LowerRestored (s t : State) : Prop :=
  (∀ r : Reg, t.getD r =
    if r.val < 8 then savedWord s (wordPlace s.cfg.csaLayout.lower (r.val + 7)) else s.getD r) ∧
  (∀ r : Reg, t.getA r =
    if r = 11 then savedWord s (wordPlace s.cfg.csaLayout.lower 0)
    else if 2 ≤ r.val ∧ r.val ≤ 7 then savedWord s (wordPlace s.cfg.csaLayout.lower (r.val - 1)) else s.getA r) ∧
  ListsAfterRestore s t ∧ t.psw = s.psw ∧ t.icr = s.icr ∧ SystemKept s t ∧ t.pc = s.pc + 4 ∧
    ContextBoundary s t (csaAddress s.pcxi) 64 4 s.fcx.toNat

/-- A lower context is restored (49 R873): CSU, CTYP, the checks of the CSA, then the restore. -/
def RestoreLowerTo (i : Instr) (s : State) : Prop :=
  (pointer s.pcxi = 0 → exec i s = raise s .csu) ∧
  (pointer s.pcxi ≠ 0 → Pcxi.ul s.pcxi = true → exec i s = raise s .ctyp) ∧
  (pointer s.pcxi ≠ 0 → Pcxi.ul s.pcxi = false → CsaChecked i s (csaAddress s.pcxi) (RunsTo i s (LowerRestored s)))

/-- BISR (49 R874): PRIV outside Supervisor, else the save of the lower context with IE = 1 and CCPN = `n`. -/
def BisrTo (i : Instr) (s : State) (n : BitVec 8) (len : Word) : Prop :=
  (Psw.io s.psw ≠ 2 → exec i s = raise s .priv) ∧
  (Psw.io s.psw = 2 → ∃ icr : Word, Icr.ie icr = true ∧ Icr.ccpn icr = n ∧
    (∀ k, 9 ≤ k → icr.getLsbD k = s.icr.getLsbD k) ∧ SaveLowerTo i s icr len)

/-! ## Core special function registers (10 R75, R76; 49 R900 to R902) -/

/-- The offsets below 0x1000 that name a register by the default map (10 R75, 92 D2). -/
def csfrTable : List (Nat × CsfrName) :=
  [(0x00, .pcxi), (0x04, .psw), (0x08, .pc), (0x0C, .fcx), (0x10, .lcx), (0x14, .isp), (0x18, .icr), (0x1C,
    .biv), (0x20, .btv), (0x24, .syscon), (0x28, .pmucon), (0x2C, .dmucon), (0x30, .dbgsr), (0x34, .gprwb),
    (0x38, .exevt), (0x3C, .swevt), (0x40, .crevt), (0x44, .tr0evt), (0x48, .tr1evt)]

/-- The offset of a range register: 0x100 for each set, 8 for each pair and 4 for each mode register (10 R75). -/
def rangeOffset (q : RangeAddr) : Nat :=
  (if q.part = .mode then 0x3000 else 0x1000) + (if q.code then 0x1000 else 0) + 0x100 * q.set +
    (match q.part with | .lower => 8 * q.num | .upper => 8 * q.num + 4 | .mode => 4 * q.num)

/-- The range register has an offset of its own: sixteen sets, and the 0x100 bytes of a set hold its entries. -/
def RangeReachable (q : RangeAddr) : Prop := q.set < 16 ∧ (if q.part = .mode then q.num < 64 else q.num < 32)

/-- The set and the entry of a range register exist, and the entry is `e`. -/
def EntryAt (s : State) (q : RangeAddr) (e : RangeEntry) : Prop :=
  ∃ set, (if q.code then s.codeSets else s.dataSets)[q.set]? = some set ∧ set[q.num]? = some e

/-- The value of a part of an entry; the upper bits of a mode register read as zero (10 R75). -/
def partValue (e : RangeEntry) : RangePart → Word
  | .lower => e.lower
  | .upper => e.upper
  | .mode => BitVec.ofNat 32 e.mode.toNat

/-- The entry with a part written; of a code mode register the bits 7, 5, 3 and 0 exist (10 R124). -/
def withPart (e : RangeEntry) (code : Bool) (part : RangePart) (x : Word) : RangeEntry :=
  match part with
  | .lower => { e with lower := x }
  | .upper => { e with upper := x }
  | .mode => { e with mode := BitVec.ofNat 8 x.toNat &&& (if code then 0xA9 else 0xFF) }

/-- Bit `k` of the register at the offset is locked by ENDINIT (10 R107). -/
def LockedBit (s : State) (off k : Nat) : Prop :=
  s.csfr.syscon.getLsbD 0 = true ∧
    ∃ l, l ∈ s.cfg.endinitLocked ∧ l.offset.toNat = off ∧ l.bits.getLsbD k = true

/-- What a write of `v` offers to a register that reads as `old`: the locked bits stay. -/
def Offered (s : State) (off : Nat) (old v x : Word) : Prop :=
  ∀ k, k < 32 → (LockedBit s off k → x.getLsbD k = old.getLsbD k) ∧ (¬ LockedBit s off k → x.getLsbD k = v.getLsbD k)

/-- The tables with one entry replaced. -/
def replaceEntry (sets : List (List RangeEntry)) (q : RangeAddr) (e : RangeEntry) : List (List RangeEntry) :=
  sets.set q.set ((sets.getD q.set []).set q.num e)

/-- The state with one range register written. -/
def withRange (s : State) (q : RangeAddr) (e : RangeEntry) : State :=
  if q.code then { s with codeSets := replaceEntry s.codeSets q e } else { s with dataSets := replaceEntry s.dataSets q e }

/-- The map in force puts the register `r` at the offset `n` (10 R75): by the default map, or as the first row of that offset
in a map that the parameters give. -/
def PlacedAt (c : Config) (n : Nat) (r : CsfrName) : Prop :=
  match c.csfrMap with
  | none => (n, r) ∈ csfrTable ∨ ∃ q, r = .range q ∧ RangeReachable q ∧ rangeOffset q = n
  | some rows => ∃ front row rest, rows = front ++ row :: rest ∧ row.offset.toNat = n ∧ row.reg = r ∧
      ∀ x, x ∈ front → x.offset.toNat ≠ n

/-- The register `r` exists and reads as `v` (10 R75, 49 R900): a range register exists with its entry. -/
def CsfrHolds (s : State) (r : CsfrName) (v : Word) : Prop :=
  match r with
  | .pcxi => v = s.pcxi
  | .psw => v = s.psw
  | .pc => v = s.pc
  | .fcx => v = s.fcx
  | .lcx => v = s.csfr.lcx
  | .isp => v = s.csfr.isp
  | .icr => v = s.icr
  | .biv => v = s.csfr.biv
  | .btv => v = s.csfr.btv
  | .syscon => v = s.csfr.syscon
  | .pmucon => v = s.csfr.pmucon
  | .dmucon => v = s.csfr.dmucon
  | .dbgsr => v = s.csfr.dbgsr
  | .gprwb => v = s.csfr.gprwb
  | .exevt => v = s.csfr.exevt
  | .swevt => v = s.csfr.swevt
  | .crevt => v = s.csfr.crevt
  | .tr0evt => v = s.csfr.tr0evt
  | .tr1evt => v = s.csfr.tr1evt
  | .range q => ∃ e, EntryAt s q e ∧ v = partValue e q.part

/-- What a write that offers `x` to the register `r` leaves (49 R902): the reserved bits and PIPN keep out, the PC takes
nothing, ENDINIT is only set (92 D17, log 29). -/
def CsfrWritten (s : State) (r : CsfrName) (x : Word) (t : State) : Prop :=
  match r with
  | .pcxi => t = { s with pcxi := x &&& 0xFFCFFFFF }
  | .psw => t = { s with psw := x &&& 0xF8003FFF }
  | .pc => t = s
  | .fcx => t = { s with fcx := x &&& 0x000FFFFF }
  | .lcx => t = { s with csfr.lcx := x &&& 0x000FFFFF }
  | .icr => t = { s with icr := (s.icr &&& 0x00FF0000) ||| (x &&& 0x030001FF) }
  | .syscon => t = { s with csfr.syscon := (x &&& 3) ||| (s.csfr.syscon &&& 1) }
  | .isp => t = { s with csfr.isp := x }
  | .biv => t = { s with csfr.biv := x }
  | .btv => t = { s with csfr.btv := x }
  | .pmucon => t = { s with csfr.pmucon := x }
  | .dmucon => t = { s with csfr.dmucon := x }
  | .dbgsr => t = { s with csfr.dbgsr := x }
  | .gprwb => t = { s with csfr.gprwb := x }
  | .exevt => t = { s with csfr.exevt := x }
  | .swevt => t = { s with csfr.swevt := x }
  | .crevt => t = { s with csfr.crevt := x }
  | .tr0evt => t = { s with csfr.tr0evt := x }
  | .tr1evt => t = { s with csfr.tr1evt := x }
  | .range q => ∃ e, EntryAt s q e ∧ t = withRange s q (withPart e q.code q.part x)

/-- No register stands at the offset (10 R76), or none that exists. -/
def Unmapped (s : State) (off : Nat) : Prop := ∀ r v, PlacedAt s.cfg off r → ¬ CsfrHolds s r v

/-! ## Traps and interrupts (60 R935 to R976) -/

/-- The state after a trap or interrupt entry but for D15, the pc and ICR.CCPN (60 R975, R976): the upper context saved, A11
the return address, A10 the interrupt stack pointer if PSW.IS was 0, PSW at its entry value with the flags kept, IE = 0. -/
def Entered (s t : State) (ret : Word) : Prop :=
  ContextStored s t s.upperContext ∧ ListsAfterSave s t true ∧
  (∀ r, t.getA r = if r = 11 then ret else if r = 10 ∧ Psw.is s.psw = false then s.csfr.isp else s.getA r) ∧
  (∀ k, 27 ≤ k → t.psw.getLsbD k = s.psw.getLsbD k) ∧ t.psw.extractLsb' 0 27 = 0xB80 ∧
  Icr.ie t.icr = false ∧ (∀ k, 9 ≤ k → t.icr.getLsbD k = s.icr.getLsbD k) ∧ SystemKept s t

/-- The state after the entry of the trap with class `cls` and number `tin` (60 R975). -/
def TrapEntered (s t : State) (cls tin : Nat) (ret : Word) : Prop :=
  Entered s t ret ∧ DataIs s t 15 (BitVec.ofNat 32 tin) ∧ Icr.ccpn t.icr = Icr.ccpn s.icr ∧
    t.pc = BitVec.ofNat 32 ((s.csfr.btv ||| BitVec.ofNat 32 (32 * cls)).toNat / 2 * 2) ∧ t.env = s.env

/-- Table 7 (60 R936 to R942): the traps with their class and number. -/
def trapTable : List (Trap × Nat × Nat) :=
  [(.priv, 1, 1), (.mpr, 1, 2), (.mpw, 1, 3), (.mpx, 1, 4), (.mpp, 1, 5), (.mpn, 1, 6), (.grwp, 1, 7),
    (.iopc, 2, 1), (.uopc, 2, 2), (.opd, 2, 3), (.aln, 2, 4), (.mem, 2, 5),
    (.fcd, 3, 1), (.cdo, 3, 2), (.cdu, 3, 3), (.fcu, 3, 4), (.csu, 3, 5), (.ctyp, 3, 6), (.nest, 3, 7),
    (.bus .prvp, 4, 1), (.bus .bus, 4, 2), (.bus .pari, 4, 3), (.bus .blto, 4, 4), (.bus .pkey, 4, 5),
    (.ovf, 5, 1), (.sovf, 5, 2), (.nmi, 7, 0)]

/-- The state after the entry of the pending interrupt (60 R976): CCPN := PIPN, the entry address BIV | (PIPN << 5), the
acknowledge to the host; D15 is not written. -/
def InterruptEntered (s t : State) : Prop :=
  Entered s t s.pc ∧ DataKept s t ∧ Icr.ccpn t.icr = Icr.pipn s.icr ∧
    t.pc = BitVec.ofNat 32 ((s.csfr.biv ||| BitVec.ofNat 32 (32 * (Icr.pipn s.icr).toNat)).toNat / 2 * 2) ∧
    t.env = { s.env with outputs := .intAck (Icr.pipn s.icr) :: s.env.outputs }

/-- An interrupt is accepted (60 R960). -/
def InterruptAccepted (s : State) : Prop := Icr.ie s.icr = true ∧ (Icr.ccpn s.icr).toNat < (Icr.pipn s.icr).toNat

/-! ## The boundary before an instruction, and the fetch (60 R979, R980; 20 R185) -/

/-- After the host has presented what it presents, `u` is the state, no reset was presented, and PSW.IO is a legal level. -/
def Presented (s u : State) : Prop := u = s.takeInput ∧ s.resetPresented = false ∧ Psw.io u.psw ≠ 3

/-- At this boundary no entry is made. -/
def NoEntry (u : State) : Prop := u.env.nmiPending = false ∧ u.env.trapsPending = [] ∧ ¬ InterruptAccepted u

/-- The ranges permit a fetch at `pc` (20 R183): mode bit 7, XE. -/
def FetchInRange (u : State) : Prop := u.csfr.syscon.getLsbD 1 = true → InRange u.codeSets u.psw 7 u.pc

/-- The address lies in the CSFR area (20 R147). -/
def InCsfrArea (x : Word) : Prop := 0x2FFFC000 ≤ x.toNat ∧ x.toNat ≤ 0x2FFFFFFF

/-- The fetch at `pc` passes every check of 20 R185. -/
def FetchOk (u : State) : Prop :=
  u.pc.toNat < 0xE0000000 ∧ ¬ InCsfrArea u.pc ∧ FetchInRange u ∧
    (u.pc.toNat < 0x30000000 → memKind u.cfg u.pc ≠ none)

/-- The four bytes fetched at `pc` as a word: memory, or free bytes where `pc` is no memory (93 U4, 60 R1000; log 6, 33). -/
def wordFetched (u : State) : Word :=
  if memKind u.cfg u.pc = some .storage then wordAt u.mem u.pc else BitVec.ofNat 32 (freeBytes u.env.freeCount 4)

/-- The host marks the form of the word as unimplemented (30 R235). -/
def MarkedUnimplemented (u : State) (w : Word) : Prop := ∃ m, m ∈ u.cfg.unimplemented ∧ w &&& m.mask = m.value

/-- The state in which a fetched instruction runs: the signals of the fetch are sent (10 R124, log 14), and where `pc` is no
memory the bytes of the instruction are drawn (log 6). -/
def fetchedState (u : State) : State :=
  { u with env := { u.env with
      outputs := (u.fetchSignals u.pc).reverse ++ u.env.outputs
      freeCount := u.env.freeCount +
        if memKind u.cfg u.pc = some .storage then 0 else lengthBy u.cfg.opcodeMap (wordFetched u) } }

/-! ## The invariant -/

/-- What every state a run reaches satisfies and every step keeps: the memory is in its canonical form, the bits that do not
exist read as zero (10 R58, R74, R81, R82, R95, R106, R124), and the pc is even (10 R53). -/
def Inv (s : State) : Prop :=
  Memory.wf s.mem = true ∧
  s.psw &&& 0x07FFC000 = 0 ∧
  s.pcxi &&& 0x00300000 = 0 ∧
  s.fcx &&& 0xFFF00000 = 0 ∧
  s.csfr.lcx &&& 0xFFF00000 = 0 ∧
  s.icr &&& 0xFC00FE00 = 0 ∧
  s.csfr.syscon &&& 0xFFFFFFFC = 0 ∧
  (∀ set, set ∈ s.codeSets → ∀ e, e ∈ set → e.mode &&& 0x56 = 0) ∧
  s.pc.getLsbD 0 = false ∧
  s.cfg.resetPc.getLsbD 0 = false

end Sys2Proof.Machine
end

