-- ==== Sys2Proof/Certificates/Slice0/Obligations.lean ====
section
/-! DEFINITION. Certificates/Slice0/Obligations.lean: the statements about the machine, one Prop each, in the words of Safety.lean. -/

open Sys2Proof Sys2Proof.Machine

/-- MOV, MOV.U, MOVH, CMOV, CMOVN, SEL and SELN write their destination and nothing else. (R301, R302, R303, R335, R336,
R337, R338) -/
def Obligations.MovesAndSelects : Prop :=
  ∀ (s : State) (c d a b : Reg) (k4 : BitVec 4) (k8 : BitVec 8) (k9 : BitVec 9) (k16 : BitVec 16),
    MovesTo (.movRlc c k16) s c 4 (BitVec.ofInt 32 k16.toInt) ∧
    MovesTo (.movRr c b) s c 4 (s.getD b) ∧
    MovesTo (.movSc k8) s 15 2 (BitVec.ofNat 32 k8.toNat) ∧
    MovesTo (.movSrc a k4) s a 2 (BitVec.ofInt 32 k4.toInt) ∧
    MovesTo (.movSrr a b) s a 2 (s.getD b) ∧
    MovesTo (.movURlc c k16) s c 4 (BitVec.ofNat 32 k16.toNat) ∧
    MovesTo (.movhRlc c k16) s c 4 (BitVec.ofNat 32 (k16.toNat * 2 ^ 16)) ∧
    (s.getD 15 ≠ 0 → MovesTo (.cmovSrc a k4) s a 2 (BitVec.ofInt 32 k4.toInt)) ∧
    (s.getD 15 = 0 → JumpsTo (.cmovSrc a k4) s (s.pc + 2)) ∧
    (s.getD 15 ≠ 0 → MovesTo (.cmovSrr a b) s a 2 (s.getD b)) ∧
    (s.getD 15 = 0 → JumpsTo (.cmovSrr a b) s (s.pc + 2)) ∧
    (s.getD 15 = 0 → MovesTo (.cmovnSrc a k4) s a 2 (BitVec.ofInt 32 k4.toInt)) ∧
    (s.getD 15 ≠ 0 → JumpsTo (.cmovnSrc a k4) s (s.pc + 2)) ∧
    (s.getD 15 = 0 → MovesTo (.cmovnSrr a b) s a 2 (s.getD b)) ∧
    (s.getD 15 ≠ 0 → JumpsTo (.cmovnSrr a b) s (s.pc + 2)) ∧
    MovesTo (.selRcr c d a k9) s c 4 (if s.getD d = 0 then BitVec.ofInt 32 k9.toInt else s.getD a) ∧
    MovesTo (.selRrr c d a b) s c 4 (if s.getD d = 0 then s.getD b else s.getD a) ∧
    MovesTo (.selnRcr c d a k9) s c 4 (if s.getD d = 0 then s.getD a else BitVec.ofInt 32 k9.toInt) ∧
    MovesTo (.selnRrr c d a b) s c 4 (if s.getD d = 0 then s.getD a else s.getD b)

/-- MAX, MIN and SAT in every form write the larger, the smaller or the nearest value and no flag. (R323, R324, R325,
R326, R327, R328, R329, R330) -/
def Obligations.MinMaxSaturate : Prop :=
  ∀ (s : State) (c a b : Reg) (k9 : BitVec 9),
    MovesTo (.maxRc c a k9) s c 4 (BitVec.ofInt 32 (max (s.sD a) k9.toInt)) ∧
    MovesTo (.maxRr c a b) s c 4 (BitVec.ofInt 32 (max (s.sD a) (s.sD b))) ∧
    MovesTo (.maxURc c a k9) s c 4 (BitVec.ofInt 32 (max (s.uD a) (k9.toNat % 256 : Nat))) ∧
    MovesTo (.maxURr c a b) s c 4 (BitVec.ofInt 32 (max (s.uD a) (s.uD b))) ∧
    MovesTo (.minRc c a k9) s c 4 (BitVec.ofInt 32 (min (s.sD a) k9.toInt)) ∧
    MovesTo (.minRr c a b) s c 4 (BitVec.ofInt 32 (min (s.sD a) (s.sD b))) ∧
    MovesTo (.minURc c a k9) s c 4 (BitVec.ofInt 32 (min (s.uD a) (k9.toNat % 256 : Nat))) ∧
    MovesTo (.minURr c a b) s c 4 (BitVec.ofInt 32 (min (s.uD a) (s.uD b))) ∧
    MovesTo (.satBRr c a) s c 4 (BitVec.ofInt 32 (clampSigned 8 (s.sD a))) ∧
    MovesTo (.satBSr a) s a 2 (BitVec.ofInt 32 (clampSigned 8 (s.sD a))) ∧
    MovesTo (.satBuRr c a) s c 4 (BitVec.ofInt 32 (clampUnsigned 8 (s.uD a))) ∧
    MovesTo (.satBuSr a) s a 2 (BitVec.ofInt 32 (clampUnsigned 8 (s.uD a))) ∧
    MovesTo (.satHRr c a) s c 4 (BitVec.ofInt 32 (clampSigned 16 (s.sD a))) ∧
    MovesTo (.satHSr a) s a 2 (BitVec.ofInt 32 (clampSigned 16 (s.sD a))) ∧
    MovesTo (.satHuRr c a) s c 4 (BitVec.ofInt 32 (clampUnsigned 16 (s.uD a))) ∧
    MovesTo (.satHuSr a) s a 2 (BitVec.ofInt 32 (clampUnsigned 16 (s.uD a)))

/-- ADD, ADDI, ADDIH, ADDX, ADDC, SUB, SUBX, SUBC, RSUB, ABS and ABSDIF: result, C, V, SV, AV, SAV and frame. An
inference of the spec itself: C after SUBX and SUBC is the carry out of x + ~y + c (92 D16). (R304, R305, R306,
R307, R308, R311, R316, R319, R321) -/
def Obligations.SignedAddSubtract : Prop :=
  ∀ (s : State) (c a b : Reg) (k4 : BitVec 4) (k9 : BitVec 9) (k16 : BitVec 16),
    SignedTo (.addRc c a k9) s c 4 (s.sD a + k9.toInt) ∧
    SignedTo (.addRr c a b) s c 4 (s.sD a + s.sD b) ∧
    SignedTo (.addSrc a k4) s a 2 (s.sD a + k4.toInt) ∧
    SignedTo (.addSrcD15 a k4) s 15 2 (s.sD a + k4.toInt) ∧
    SignedTo (.addSrr a b) s a 2 (s.sD a + s.sD b) ∧
    SignedTo (.addSrrD15 a b) s 15 2 (s.sD a + s.sD b) ∧
    SignedTo (.addiRlc c a k16) s c 4 (s.sD a + k16.toInt) ∧
    SignedTo (.addihRlc c a k16) s c 4 (s.sD a + k16.toInt * 2 ^ 16) ∧
    SignedCarryTo (.addxRc c a k9) s c 4 (s.sD a + k9.toInt)
      (2 ^ 32 ≤ (s.getD a).toNat + (BitVec.ofInt 32 k9.toInt).toNat) ∧
    SignedCarryTo (.addxRr c a b) s c 4 (s.sD a + s.sD b) (2 ^ 32 ≤ (s.getD a).toNat + (s.getD b).toNat) ∧
    SignedCarryTo (.addcRc c a k9) s c 4 (s.sD a + k9.toInt + (Psw.c s.psw).toNat)
      (2 ^ 32 ≤ (s.getD a).toNat + (BitVec.ofInt 32 k9.toInt).toNat + (Psw.c s.psw).toNat) ∧
    SignedCarryTo (.addcRr c a b) s c 4 (s.sD a + s.sD b + (Psw.c s.psw).toNat)
      (2 ^ 32 ≤ (s.getD a).toNat + (s.getD b).toNat + (Psw.c s.psw).toNat) ∧
    SignedTo (.subRr c a b) s c 4 (s.sD a - s.sD b) ∧
    SignedTo (.subSrr a b) s a 2 (s.sD a - s.sD b) ∧
    SignedTo (.subSrrD15 a b) s 15 2 (s.sD a - s.sD b) ∧
    SignedCarryTo (.subxRr c a b) s c 4 (s.sD a - s.sD b) ((s.getD b).toNat ≤ (s.getD a).toNat) ∧
    SignedCarryTo (.subcRr c a b) s c 4 (s.sD a - s.sD b + (Psw.c s.psw).toNat - 1)
      ((s.getD b).toNat + 1 ≤ (s.getD a).toNat + (Psw.c s.psw).toNat) ∧
    SignedTo (.rsubRc c a k9) s c 4 (k9.toInt - s.sD a) ∧
    SignedTo (.rsubSr a) s a 2 (-(s.sD a)) ∧
    SignedTo (.absRr c a) s c 4 |s.sD a| ∧
    SignedTo (.absdifRc c a k9) s c 4 |s.sD a - k9.toInt| ∧
    SignedTo (.absdifRr c a b) s c 4 |s.sD a - s.sD b|

/-- ADDS, SUBS, RSUBS, ABSS, ABSDIFS and the unsigned forms: saturated result, flags and frame. An inference of the spec
itself: AV of a saturating instruction comes from the value written (92 D15). (R309, R310, R314, R315, R317, R318,
R320, R322) -/
def Obligations.SaturatingAddSubtract : Prop :=
  ∀ (s : State) (c a b : Reg) (k9 : BitVec 9),
    SignedSatTo (.addsRc c a k9) s c 4 (s.sD a + k9.toInt) ∧
    SignedSatTo (.addsRr c a b) s c 4 (s.sD a + s.sD b) ∧
    UnsignedSatTo (.addsURc c a k9) s c 4 (s.uD a + (k9.toNat % 256 : Nat)) ∧
    UnsignedSatTo (.addsURr c a b) s c 4 (s.uD a + s.uD b) ∧
    SignedSatTo (.subsRr c a b) s c 4 (s.sD a - s.sD b) ∧
    SignedSatTo (.subsSrr a b) s a 2 (s.sD a - s.sD b) ∧
    UnsignedSatTo (.subsURr c a b) s c 4 (s.uD a - s.uD b) ∧
    SignedSatTo (.rsubsRc c a k9) s c 4 (k9.toInt - s.sD a) ∧
    UnsignedSatTo (.rsubsURc c a k9) s c 4 ((k9.toNat % 256 : Nat) - s.uD a) ∧
    SignedSatTo (.abssRr c a) s c 4 |s.sD a| ∧
    SignedSatTo (.absdifsRc c a k9) s c 4 |s.sD a - k9.toInt| ∧
    SignedSatTo (.absdifsRr c a b) s c 4 |s.sD a - s.sD b|

/-- CADD, CADDN, CSUB and CSUBN: the selected result, its flags and frame. An inference of the spec itself: the flags
where the condition selects the unchanged value are those of that value (92 D27). (R331, R332, R333, R334) -/
def Obligations.ConditionalAddSubtract : Prop :=
  ∀ (s : State) (c d a b : Reg) (k4 : BitVec 4) (k9 : BitVec 9),
    SignedTo (.caddRcr c d a k9) s c 4 (if s.getD d = 0 then s.sD a else s.sD a + k9.toInt) ∧
    SignedTo (.caddRrr c d a b) s c 4 (if s.getD d = 0 then s.sD a else s.sD a + s.sD b) ∧
    SignedTo (.caddSrc a k4) s a 2 (if s.getD 15 = 0 then s.sD a else s.sD a + k4.toInt) ∧
    SignedTo (.caddSrr a b) s a 2 (if s.getD 15 = 0 then s.sD a else s.sD a + s.sD b) ∧
    SignedTo (.caddnRcr c d a k9) s c 4 (if s.getD d = 0 then s.sD a + k9.toInt else s.sD a) ∧
    SignedTo (.caddnRrr c d a b) s c 4 (if s.getD d = 0 then s.sD a + s.sD b else s.sD a) ∧
    SignedTo (.caddnSrc a k4) s a 2 (if s.getD 15 = 0 then s.sD a + k4.toInt else s.sD a) ∧
    SignedTo (.caddnSrr a b) s a 2 (if s.getD 15 = 0 then s.sD a + s.sD b else s.sD a) ∧
    SignedTo (.csubRrr c d a b) s c 4 (if s.getD d = 0 then s.sD a else s.sD a - s.sD b) ∧
    SignedTo (.csubnRrr c d a b) s c 4 (if s.getD d = 0 then s.sD a - s.sD b else s.sD a)

/-- MUL, MADD and MSUB with a 32-bit result, plain and saturating: result, flags and frame. An inference of the spec
itself: AV of a saturating instruction comes from the value written (92 D15). (R382, R383, R384, R387, R388, R389,
R394, R395, R396) -/
def Obligations.MultiplyWord : Prop :=
  ∀ (s : State) (c d a b : Reg) (k9 : BitVec 9),
    SignedTo (.mulRc c a k9) s c 4 (s.sD a * k9.toInt) ∧
    SignedTo (.mulRr c a b) s c 4 (s.sD a * s.sD b) ∧
    SignedTo (.mulSrr a b) s a 2 (s.sD a * s.sD b) ∧
    SignedSatTo (.mulsRc c a k9) s c 4 (s.sD a * k9.toInt) ∧
    SignedSatTo (.mulsRr c a b) s c 4 (s.sD a * s.sD b) ∧
    UnsignedSatTo (.mulsURc c a k9) s c 4 (s.uD a * (k9.toNat % 256 : Nat)) ∧
    UnsignedSatTo (.mulsURr c a b) s c 4 (s.uD a * s.uD b) ∧
    SignedTo (.maddRcr c d a k9) s c 4 (s.sD d + s.sD a * k9.toInt) ∧
    SignedTo (.maddRrr c d a b) s c 4 (s.sD d + s.sD a * s.sD b) ∧
    SignedSatTo (.maddsRcr c d a k9) s c 4 (s.sD d + s.sD a * k9.toInt) ∧
    SignedSatTo (.maddsRrr c d a b) s c 4 (s.sD d + s.sD a * s.sD b) ∧
    UnsignedSatTo (.maddsURcr c d a k9) s c 4 (s.uD d + s.uD a * (k9.toNat % 256 : Nat)) ∧
    UnsignedSatTo (.maddsURrr c d a b) s c 4 (s.uD d + s.uD a * s.uD b) ∧
    SignedTo (.msubRcr c d a k9) s c 4 (s.sD d - s.sD a * k9.toInt) ∧
    SignedTo (.msubRrr c d a b) s c 4 (s.sD d - s.sD a * s.sD b) ∧
    SignedSatTo (.msubsRcr c d a k9) s c 4 (s.sD d - s.sD a * k9.toInt) ∧
    SignedSatTo (.msubsRrr c d a b) s c 4 (s.sD d - s.sD a * s.sD b) ∧
    UnsignedSatTo (.msubsURcr c d a k9) s c 4 (s.uD d - s.uD a * (k9.toNat % 256 : Nat)) ∧
    UnsignedSatTo (.msubsURrr c d a b) s c 4 (s.uD d - s.uD a * s.uD b)

/-- MULM, MADDM, MSUBM and their unsigned and saturating forms: the 64-bit result, flags and frame. An inference of the
spec itself: AV of a saturating instruction comes from the value written (92 D15). (R385, R386, R390, R391, R392,
R393, R397, R398, R399, R400) -/
def Obligations.MultiplyPair : Prop :=
  ∀ (s : State) (c d a b : Reg) (k9 : BitVec 9),
    (¬ IsOdd c → ArithPairTo (.mulmRc c a k9) s c 4 (BitVec.ofInt 64 (s.sD a * k9.toInt)) False
      (TopBitsDiffer (BitVec.ofInt 64 (s.sD a * k9.toInt)))) ∧
    (¬ IsOdd c → ArithPairTo (.mulmRr c a b) s c 4 (BitVec.ofInt 64 (s.sD a * s.sD b)) False
      (TopBitsDiffer (BitVec.ofInt 64 (s.sD a * s.sD b)))) ∧
    (¬ IsOdd c → ArithPairTo (.mulmURc c a k9) s c 4 (BitVec.ofInt 64 (s.uD a * (k9.toNat % 256 : Nat))) False
      (TopBitsDiffer (BitVec.ofInt 64 (s.uD a * (k9.toNat % 256 : Nat))))) ∧
    (¬ IsOdd c → ArithPairTo (.mulmURr c a b) s c 4 (BitVec.ofInt 64 (s.uD a * s.uD b)) False
      (TopBitsDiffer (BitVec.ofInt 64 (s.uD a * s.uD b)))) ∧
    (¬ IsOdd c → ¬ IsOdd d → SignedPairTo (.maddmRcr c d a k9) s c (signedPair s d + s.sD a * k9.toInt)) ∧
    (¬ IsOdd c → ¬ IsOdd d → SignedPairTo (.maddmRrr c d a b) s c (signedPair s d + s.sD a * s.sD b)) ∧
    (¬ IsOdd c → ¬ IsOdd d → UnsignedPairTo (.maddmURcr c d a k9) s c (unsignedPair s d + s.uD a * (k9.toNat % 256 : Nat))) ∧
    (¬ IsOdd c → ¬ IsOdd d → UnsignedPairTo (.maddmURrr c d a b) s c (unsignedPair s d + s.uD a * s.uD b)) ∧
    (¬ IsOdd c → ¬ IsOdd d → SignedSatPairTo (.maddmsRcr c d a k9) s c (signedPair s d + s.sD a * k9.toInt)) ∧
    (¬ IsOdd c → ¬ IsOdd d → SignedSatPairTo (.maddmsRrr c d a b) s c (signedPair s d + s.sD a * s.sD b)) ∧
    (¬ IsOdd c → ¬ IsOdd d → UnsignedSatPairTo (.maddmsURcr c d a k9) s c (unsignedPair s d + s.uD a * (k9.toNat % 256 : Nat))) ∧
    (¬ IsOdd c → ¬ IsOdd d → UnsignedSatPairTo (.maddmsURrr c d a b) s c (unsignedPair s d + s.uD a * s.uD b)) ∧
    (¬ IsOdd c → ¬ IsOdd d → SignedPairTo (.msubmRcr c d a k9) s c (signedPair s d - s.sD a * k9.toInt)) ∧
    (¬ IsOdd c → ¬ IsOdd d → SignedPairTo (.msubmRrr c d a b) s c (signedPair s d - s.sD a * s.sD b)) ∧
    (¬ IsOdd c → ¬ IsOdd d → UnsignedPairTo (.msubmURcr c d a k9) s c (unsignedPair s d - s.uD a * (k9.toNat % 256 : Nat))) ∧
    (¬ IsOdd c → ¬ IsOdd d → UnsignedPairTo (.msubmURrr c d a b) s c (unsignedPair s d - s.uD a * s.uD b)) ∧
    (¬ IsOdd c → ¬ IsOdd d → SignedSatPairTo (.msubmsRcr c d a k9) s c (signedPair s d - s.sD a * k9.toInt)) ∧
    (¬ IsOdd c → ¬ IsOdd d → SignedSatPairTo (.msubmsRrr c d a b) s c (signedPair s d - s.sD a * s.sD b)) ∧
    (¬ IsOdd c → ¬ IsOdd d → UnsignedSatPairTo (.msubmsURcr c d a k9) s c (unsignedPair s d - s.uD a * (k9.toNat % 256 : Nat))) ∧
    (¬ IsOdd c → ¬ IsOdd d → UnsignedSatPairTo (.msubmsURrr c d a b) s c (unsignedPair s d - s.uD a * s.uD b))

/-- The six DVINIT instructions: the extended, shifted and filled dividend, V, SV and the frame. An inference of the
spec itself: the overflow conditions, the fill bits and the flags written (92 D28). (R422) -/
def Obligations.DivideInitialize : Prop :=
  ∀ (s : State) (c a b : Reg),
    (¬ IsOdd c → DivideInitTo (.dvinitRr c a b) s c (s.sD a)
      (|s.sD b| ≤ if s.sD a < 0 then -((s.sD a) / 2 ^ 32) - 1 else (s.sD a) / 2 ^ 32)) ∧
    (¬ IsOdd c → DivideInitTo (.dvinitURr c a b) s c (s.uD a)
      (s.uD b ≤ s.uD a / 2 ^ 32)) ∧
    (¬ IsOdd c → DivideInitTo (.dvinitHRr c a b) s c (s.sD a * 2 ^ 16 + (if (s.sD a < 0 ↔ s.sD b < 0) then 0 else 2 ^ 16 - 1))
      (|s.sD b| ≤ if s.sD a * 2 ^ 16 + (if (s.sD a < 0 ↔ s.sD b < 0) then 0 else 2 ^ 16 - 1) < 0 then -((s.sD a * 2 ^ 16 + (if (s.sD a < 0 ↔ s.sD b < 0) then 0 else 2 ^ 16 - 1)) / 2 ^ 32) - 1 else (s.sD a * 2 ^ 16 + (if (s.sD a < 0 ↔ s.sD b < 0) then 0 else 2 ^ 16 - 1)) / 2 ^ 32)) ∧
    (¬ IsOdd c → DivideInitTo (.dvinitHuRr c a b) s c (s.uD a * 2 ^ 16)
      (s.uD b ≤ s.uD a * 2 ^ 16 / 2 ^ 32)) ∧
    (¬ IsOdd c → DivideInitTo (.dvinitBRr c a b) s c (s.sD a * 2 ^ 24 + (if (s.sD a < 0 ↔ s.sD b < 0) then 0 else 2 ^ 24 - 1))
      (|s.sD b| ≤ if s.sD a * 2 ^ 24 + (if (s.sD a < 0 ↔ s.sD b < 0) then 0 else 2 ^ 24 - 1) < 0 then -((s.sD a * 2 ^ 24 + (if (s.sD a < 0 ↔ s.sD b < 0) then 0 else 2 ^ 24 - 1)) / 2 ^ 32) - 1 else (s.sD a * 2 ^ 24 + (if (s.sD a < 0 ↔ s.sD b < 0) then 0 else 2 ^ 24 - 1)) / 2 ^ 32)) ∧
    (¬ IsOdd c → DivideInitTo (.dvinitBuRr c a b) s c (s.uD a * 2 ^ 24)
      (s.uD b ≤ s.uD a * 2 ^ 24 / 2 ^ 32))

/-- DVSTEP, DVSTEP.U and DVADJ in both formats: the pair they leave, V of DVADJ, and the frame. An inference of the spec
itself: DVADJ clears V and leaves SV, AV and SAV (92 D28). (R425, R426) -/
def Obligations.DivideStepAndAdjust : Prop :=
  ∀ (s : State) (c d b : Reg),
    (¬ IsOdd c → ¬ IsOdd d → ∀ r q, signedStepResult (s.sD (d + 1)) (s.uD d) (s.sD b) = (r, q) →
      MovesPairTo (.dvstepRrr c d b) s c 4 (BitVec.ofInt 32 r ++ BitVec.ofInt 32 q)) ∧
    (¬ IsOdd d → ∀ r q, signedStepResult (s.sD (d + 1)) (s.uD d) (s.sD b) = (r, q) →
      MovesPairTo (.dvstepSrr d b) s d 2 (BitVec.ofInt 32 r ++ BitVec.ofInt 32 q)) ∧
    (¬ IsOdd c → ¬ IsOdd d → ∀ r q,
      unsignedSteps (s.getD b).toNat 8 ((s.getD (d + 1)).toNat, (s.getD d).toNat) = (r, q) →
      MovesPairTo (.dvstepURrr c d b) s c 4 (BitVec.ofNat 32 r ++ BitVec.ofNat 32 q)) ∧
    (¬ IsOdd d → ∀ r q,
      unsignedSteps (s.getD b).toNat 8 ((s.getD (d + 1)).toNat, (s.getD d).toNat) = (r, q) →
      MovesPairTo (.dvstepUSrr d b) s d 2 (BitVec.ofNat 32 r ++ BitVec.ofNat 32 q)) ∧
    (∀ hi lo r q : Int, hi = s.sD (d + 1) → lo = s.uD d →
      r = (if hi < 0 ∧ (hi = s.sD b ∨ BitVec.ofInt 32 hi = BitVec.ofInt 32 (-s.sD b)) then 0 else hi) →
      q = (if (¬(hi < 0 ↔ s.sD b < 0) ∧ ¬(hi < 0 ∧ BitVec.ofInt 32 hi = BitVec.ofInt 32 (-s.sD b))) ∨
        (hi < 0 ∧ hi = s.sD b) then lo + 1 else lo) →
      (¬ IsOdd c → ¬ IsOdd d → RunsTo (.dvadjRrr c d b) s fun t =>
        PairIs s t c (BitVec.ofInt 32 r ++ BitVec.ofInt 32 q) ∧ AddressKept s t ∧
        (∀ k, t.psw.getLsbD k = if k = 30 then false else s.psw.getLsbD k) ∧ t.pc = s.pc + 4 ∧ RestKept s t) ∧
      (¬ IsOdd d → RunsTo (.dvadjSrr d b) s fun t =>
        PairIs s t d (BitVec.ofInt 32 r ++ BitVec.ofInt 32 q) ∧ AddressKept s t ∧
        (∀ k, t.psw.getLsbD k = if k = 30 then false else s.psw.getLsbD k) ∧ t.pc = s.pc + 2 ∧ RestKept s t))

/-- DVINIT.U and four DVSTEP.U leave the quotient and the remainder of an unsigned division. (R429) -/
def Obligations.UnsignedDivisionSequence : Prop :=
  ∀ (s : State) (c a b : Reg), ¬ IsOdd c → b ≠ c → b ≠ c + 1 → s.getD b ≠ 0 →
    ∃ t0 t1 t2 t3 t4, exec (.dvinitURr c a b) s = .next t0 ∧ exec (.dvstepURrr c c b) t0 = .next t1 ∧
      exec (.dvstepURrr c c b) t1 = .next t2 ∧ exec (.dvstepURrr c c b) t2 = .next t3 ∧
      exec (.dvstepURrr c c b) t3 = .next t4 ∧
      (t4.getD c).toNat = (s.getD a).toNat / (s.getD b).toNat ∧
      (t4.getD (c + 1)).toNat = (s.getD a).toNat % (s.getD b).toNat ∧
      (∀ r, r ≠ c → r ≠ c + 1 → t4.getD r = s.getD r) ∧ MemoryKept s t4

/-- AND, ANDN, NAND, NOR, NOT, OR, ORN, XNOR, XOR bit by bit, and CLZ, CLO, CLS by the run they count. (R441, R442,
R443, R444, R445, R446, R447, R448, R449, R451, R452, R453) -/
def Obligations.LogicAndCount : Prop :=
  ∀ (s : State) (c a b : Reg) (k8 : BitVec 8) (k9 : BitVec 9),
    BitwiseTo (.andRc c a k9) s c 4 (· && ·) (s.getD a) (BitVec.ofNat 32 (k9.toNat % 256)) ∧
    BitwiseTo (.andRr c a b) s c 4 (· && ·) (s.getD a) (s.getD b) ∧
    BitwiseTo (.andSc k8) s 15 2 (· && ·) (s.getD 15) (BitVec.ofNat 32 k8.toNat) ∧
    BitwiseTo (.andSrr a b) s a 2 (· && ·) (s.getD a) (s.getD b) ∧
    BitwiseTo (.andnRc c a k9) s c 4 (fun x y => x && !y) (s.getD a) (BitVec.ofNat 32 (k9.toNat % 256)) ∧
    BitwiseTo (.andnRr c a b) s c 4 (fun x y => x && !y) (s.getD a) (s.getD b) ∧
    BitwiseTo (.nandRc c a k9) s c 4 (fun x y => !(x && y)) (s.getD a) (BitVec.ofNat 32 (k9.toNat % 256)) ∧
    BitwiseTo (.nandRr c a b) s c 4 (fun x y => !(x && y)) (s.getD a) (s.getD b) ∧
    BitwiseTo (.norRc c a k9) s c 4 (fun x y => !(x || y)) (s.getD a) (BitVec.ofNat 32 (k9.toNat % 256)) ∧
    BitwiseTo (.norRr c a b) s c 4 (fun x y => !(x || y)) (s.getD a) (s.getD b) ∧
    BitwiseTo (.orRc c a k9) s c 4 (· || ·) (s.getD a) (BitVec.ofNat 32 (k9.toNat % 256)) ∧
    BitwiseTo (.orRr c a b) s c 4 (· || ·) (s.getD a) (s.getD b) ∧
    BitwiseTo (.orSc k8) s 15 2 (· || ·) (s.getD 15) (BitVec.ofNat 32 k8.toNat) ∧
    BitwiseTo (.orSrr a b) s a 2 (· || ·) (s.getD a) (s.getD b) ∧
    BitwiseTo (.ornRc c a k9) s c 4 (fun x y => x || !y) (s.getD a) (BitVec.ofNat 32 (k9.toNat % 256)) ∧
    BitwiseTo (.ornRr c a b) s c 4 (fun x y => x || !y) (s.getD a) (s.getD b) ∧
    BitwiseTo (.xnorRc c a k9) s c 4 (fun x y => !(x ^^ y)) (s.getD a) (BitVec.ofNat 32 (k9.toNat % 256)) ∧
    BitwiseTo (.xnorRr c a b) s c 4 (fun x y => !(x ^^ y)) (s.getD a) (s.getD b) ∧
    BitwiseTo (.xorRc c a k9) s c 4 (· ^^ ·) (s.getD a) (BitVec.ofNat 32 (k9.toNat % 256)) ∧
    BitwiseTo (.xorRr c a b) s c 4 (· ^^ ·) (s.getD a) (s.getD b) ∧
    BitsTo (.notSr a) s a 2 (fun k => !(s.getD a).getLsbD k) ∧
    (∃ n, LeadingRun (s.getD a) 0 false n ∧ MovesTo (.clzRr c a) s c 4 (BitVec.ofNat 32 n)) ∧
    (∃ n, LeadingRun (s.getD a) 0 true n ∧ MovesTo (.cloRr c a) s c 4 (BitVec.ofNat 32 n)) ∧
    (∃ n, LeadingRun (s.getD a) 1 ((s.getD a).getLsbD 31) n ∧ MovesTo (.clsRr c a) s c 4 (BitVec.ofNat 32 n))

/-- SH, SHA and SHAS in every form: the shifted value, C, V, SV, AV, SAV and the frame. An inference of the spec itself:
V of SHA is the general definition of V applied to the shift (42 R470); AV of a saturating instruction comes from
the value written (92 D15). (R468, R469) -/
def Obligations.ShiftWord : Prop :=
  ∀ (s : State) (c a b : Reg) (k4 : BitVec 4) (k9 : BitVec 9),
    MovesTo (.shRc c a k9) s c 4 (BitVec.ofInt 32 (shifted (s.uD a) (signedField 6 k9.toNat))) ∧
    SignedCarryTo (.shaRc c a k9) s c 4 (shifted (s.sD a) (signedField 6 k9.toNat))
      (ShiftsOut (s.uD a) (signedField 6 k9.toNat)) ∧
    SignedSatTo (.shasRc c a k9) s c 4 (shifted (s.sD a) (signedField 6 k9.toNat)) ∧
    MovesTo (.shRr c a b) s c 4 (BitVec.ofInt 32 (shifted (s.uD a) (signedField 6 (s.getD b).toNat))) ∧
    SignedCarryTo (.shaRr c a b) s c 4 (shifted (s.sD a) (signedField 6 (s.getD b).toNat))
      (ShiftsOut (s.uD a) (signedField 6 (s.getD b).toNat)) ∧
    SignedSatTo (.shasRr c a b) s c 4 (shifted (s.sD a) (signedField 6 (s.getD b).toNat)) ∧
    MovesTo (.shSrc a k4) s a 2 (BitVec.ofInt 32 (shifted (s.uD a) k4.toInt)) ∧
    SignedCarryTo (.shaSrc a k4) s a 2 (shifted (s.sD a) k4.toInt)
      (ShiftsOut (s.uD a) k4.toInt)

/-- EXTR, EXTR.U, DEXTR, INSERT and IMASK in every form, bit by bit. (R480, R481, R482, R483, R484, R485) -/
def Obligations.BitFields : Prop :=
  ∀ (s : State) (c d a b : Reg) (k4 : BitVec 4) (p w : BitVec 5),
    BitsTo (.extrRrpw c a p w) s c 4 (fun k => decide (w.toNat ≠ 0) && (s.getD a).getLsbD (p.toNat + min k (w.toNat - 1))) ∧
    (¬ IsOdd d → BitsTo (.extrRrrr c a d) s c 4
      (fun k => decide ((s.getD (d + 1)).toNat % 32 ≠ 0) && (s.getD a).getLsbD ((s.getD d).toNat % 32 + min k ((s.getD (d + 1)).toNat % 32 - 1)))) ∧
    BitsTo (.extrRrrw c a d w) s c 4
      (fun k => decide (w.toNat ≠ 0) && (s.getD a).getLsbD ((s.getD d).toNat % 32 + min k (w.toNat - 1))) ∧
    BitsTo (.extrURrpw c a p w) s c 4 (fun k => decide (k < w.toNat) && (s.getD a).getLsbD (p.toNat + k)) ∧
    (¬ IsOdd d → BitsTo (.extrURrrr c a d) s c 4
      (fun k => decide (k < (s.getD (d + 1)).toNat % 32) && (s.getD a).getLsbD ((s.getD d).toNat % 32 + k))) ∧
    BitsTo (.extrURrrw c a d w) s c 4
      (fun k => decide (k < w.toNat) && (s.getD a).getLsbD ((s.getD d).toNat % 32 + k)) ∧
    BitsTo (.dextrRrpw c a b p) s c 4
      (fun k => if p.toNat ≤ k then (s.getD a).getLsbD (k - p.toNat) else (s.getD b).getLsbD (32 + k - p.toNat)) ∧
    BitsTo (.dextrRrrr c a b d) s c 4
      (fun k => if (s.getD d).toNat % 32 ≤ k then (s.getD a).getLsbD (k - (s.getD d).toNat % 32) else (s.getD b).getLsbD (32 + k - (s.getD d).toNat % 32)) ∧
    BitsTo (.insertRcpw c a k4 p w) s c 4
      (fun k => if p.toNat ≤ k ∧ k < p.toNat + w.toNat then (BitVec.ofNat 32 k4.toNat).getLsbD (k - p.toNat)
        else (s.getD a).getLsbD k) ∧
    (¬ IsOdd d → BitsTo (.insertRcrr c a k4 d) s c 4
      (fun k => if (s.getD d).toNat % 32 ≤ k ∧ k < (s.getD d).toNat % 32 + (s.getD (d + 1)).toNat % 32 then (BitVec.ofNat 32 k4.toNat).getLsbD (k - (s.getD d).toNat % 32)
        else (s.getD a).getLsbD k)) ∧
    BitsTo (.insertRcrw c a k4 d w) s c 4
      (fun k => if (s.getD d).toNat % 32 ≤ k ∧ k < (s.getD d).toNat % 32 + w.toNat then (BitVec.ofNat 32 k4.toNat).getLsbD (k - (s.getD d).toNat % 32)
        else (s.getD a).getLsbD k) ∧
    BitsTo (.insertRrpw c a b p w) s c 4
      (fun k => if p.toNat ≤ k ∧ k < p.toNat + w.toNat then (s.getD b).getLsbD (k - p.toNat)
        else (s.getD a).getLsbD k) ∧
    (¬ IsOdd d → BitsTo (.insertRrrr c a b d) s c 4
      (fun k => if (s.getD d).toNat % 32 ≤ k ∧ k < (s.getD d).toNat % 32 + (s.getD (d + 1)).toNat % 32 then (s.getD b).getLsbD (k - (s.getD d).toNat % 32)
        else (s.getD a).getLsbD k)) ∧
    BitsTo (.insertRrrw c a b d w) s c 4
      (fun k => if (s.getD d).toNat % 32 ≤ k ∧ k < (s.getD d).toNat % 32 + w.toNat then (s.getD b).getLsbD (k - (s.getD d).toNat % 32)
        else (s.getD a).getLsbD k) ∧
    (¬ IsOdd c → ∃ m v : Word, MovesPairTo (.imaskRcpw c k4 p w) s c 4 (m ++ v) ∧
      (∀ k, k < 32 → m.getLsbD k = decide (p.toNat ≤ k ∧ k < p.toNat + w.toNat)) ∧
      (∀ k, k < 32 → v.getLsbD k = (decide (p.toNat ≤ k) && (BitVec.ofNat 32 k4.toNat).getLsbD (k - p.toNat)))) ∧
    (¬ IsOdd c → ∃ m v : Word, MovesPairTo (.imaskRcrw c k4 d w) s c 4 (m ++ v) ∧
      (∀ k, k < 32 → m.getLsbD k = decide ((s.getD d).toNat % 32 ≤ k ∧ k < (s.getD d).toNat % 32 + w.toNat)) ∧
      (∀ k, k < 32 → v.getLsbD k = (decide ((s.getD d).toNat % 32 ≤ k) && (BitVec.ofNat 32 k4.toNat).getLsbD (k - (s.getD d).toNat % 32)))) ∧
    (¬ IsOdd c → ∃ m v : Word, MovesPairTo (.imaskRrpw c b p w) s c 4 (m ++ v) ∧
      (∀ k, k < 32 → m.getLsbD k = decide (p.toNat ≤ k ∧ k < p.toNat + w.toNat)) ∧
      (∀ k, k < 32 → v.getLsbD k = (decide (p.toNat ≤ k) && (s.getD b).getLsbD (k - p.toNat)))) ∧
    (¬ IsOdd c → ∃ m v : Word, MovesPairTo (.imaskRrrw c b d w) s c 4 (m ++ v) ∧
      (∀ k, k < 32 → m.getLsbD k = decide ((s.getD d).toNat % 32 ≤ k ∧ k < (s.getD d).toNat % 32 + w.toNat)) ∧
      (∀ k, k < 32 → v.getLsbD k = (decide ((s.getD d).toNat % 32 ≤ k) && (s.getD b).getLsbD (k - (s.getD d).toNat % 32))))

/-- MUL.Q, MADD.Q and MSUB.Q with rounding and saturation: result, flags and frame for a shift of 0 or 1. An inference
of the spec itself: AV of a saturating instruction comes from the value written (92 D15). (R504, R505, R508, R509,
R510, R511, R518, R519, R520, R521) -/
def Obligations.FractionalWord : Prop :=
  ∀ (s : State) (c d a b : Reg) (n : BitVec 2),
    (n.toNat < 2 → ArithTo (.mulQRr c a b n) s c 4 (BitVec.ofInt 32 (qProduct (highInt s a) (highInt s b) n)) False CarryKept) ∧
    (n.toNat < 2 → SignedTo (.mulrQRr c a b n) s c 4 (rounded (qProduct (highInt s a) (highInt s b) n))) ∧
    (n.toNat < 2 → SignedTo (.maddQRrr c d a b n) s c 4 (s.sD d + qProduct (highInt s a) (highInt s b) n)) ∧
    (n.toNat < 2 → SignedSatTo (.maddsQRrr c d a b n) s c 4 (s.sD d + qProduct (highInt s a) (highInt s b) n)) ∧
    (n.toNat < 2 → SignedTo (.maddrQRrr c d a b n) s c 4 (rounded (s.sD d + qProduct (highInt s a) (highInt s b) n))) ∧
    (n.toNat < 2 → ArithTo (.maddrsQRrr c d a b n) s c 4
      (BitVec.ofInt 32 (clampSigned 32 (rounded (s.sD d + qProduct (highInt s a) (highInt s b) n)) / 2 ^ 16 * 2 ^ 16))
      (OutsideSigned 32 (rounded (s.sD d + qProduct (highInt s a) (highInt s b) n))) CarryKept) ∧
    (n.toNat < 2 → SignedTo (.msubQRrr c d a b n) s c 4 (s.sD d - qProduct (highInt s a) (highInt s b) n)) ∧
    (n.toNat < 2 → SignedSatTo (.msubsQRrr c d a b n) s c 4 (s.sD d - qProduct (highInt s a) (highInt s b) n)) ∧
    (n.toNat < 2 → SignedTo (.msubrQRrr c d a b n) s c 4 (rounded (s.sD d - qProduct (highInt s a) (highInt s b) n))) ∧
    (n.toNat < 2 → ArithTo (.msubrsQRrr c d a b n) s c 4
      (BitVec.ofInt 32 (clampSigned 32 (rounded (s.sD d - qProduct (highInt s a) (highInt s b) n)) / 2 ^ 16 * 2 ^ 16))
      (OutsideSigned 32 (rounded (s.sD d - qProduct (highInt s a) (highInt s b) n))) CarryKept)

/-- MUL.H, MADD.H and MSUB.H with rounding and saturation: both results, flags and frame for a shift of 0 or 1. An
inference of the spec itself: AV of a saturating instruction comes from the value written (92 D15). (R506, R507,
R513, R514, R515, R516, R523, R524, R525, R526) -/
def Obligations.FractionalPair : Prop :=
  ∀ (s : State) (c d a b : Reg) (n : BitVec 2),
    (n.toNat < 2 → ¬ IsOdd c → ArithPairTo (.mulHRr c a b n) s c 4 (BitVec.ofInt 32 (qProduct (highInt s a) (highInt s b) n) ++ BitVec.ofInt 32 (qProduct (lowInt s a) (lowInt s b) n)) False
      (TopBitsDiffer (BitVec.ofInt 32 (qProduct (highInt s a) (highInt s b) n)) ∨
        TopBitsDiffer (BitVec.ofInt 32 (qProduct (lowInt s a) (lowInt s b) n)))) ∧
    (n.toNat < 2 → TwoHighTo (.mulrHRr c a b n) s c id (rounded (qProduct (highInt s a) (highInt s b) n)) (rounded (qProduct (lowInt s a) (lowInt s b) n))) ∧
    (n.toNat < 2 → ¬ IsOdd c → ¬ IsOdd d → TwoWordsTo (.maddHRrr c d a b n) s c id (s.sD (d + 1) + qProduct (highInt s a) (highInt s b) n) (s.sD d + qProduct (lowInt s a) (lowInt s b) n)) ∧
    (n.toNat < 2 → ¬ IsOdd c → ¬ IsOdd d → TwoWordsTo (.maddsHRrr c d a b n) s c (clampSigned 32) (s.sD (d + 1) + qProduct (highInt s a) (highInt s b) n)
      (s.sD d + qProduct (lowInt s a) (lowInt s b) n)) ∧
    (n.toNat < 2 → ¬ IsOdd d → TwoHighTo (.maddrHRrr c d a b n) s c id (rounded (s.sD (d + 1) + qProduct (highInt s a) (highInt s b) n))
      (rounded (s.sD d + qProduct (lowInt s a) (lowInt s b) n))) ∧
    (n.toNat < 2 → ¬ IsOdd d → TwoHighTo (.maddrsHRrr c d a b n) s c (clampSigned 32) (rounded (s.sD (d + 1) + qProduct (highInt s a) (highInt s b) n))
      (rounded (s.sD d + qProduct (lowInt s a) (lowInt s b) n))) ∧
    (n.toNat < 2 → ¬ IsOdd c → ¬ IsOdd d → TwoWordsTo (.msubHRrr c d a b n) s c id (s.sD (d + 1) - qProduct (highInt s a) (highInt s b) n) (s.sD d - qProduct (lowInt s a) (lowInt s b) n)) ∧
    (n.toNat < 2 → ¬ IsOdd c → ¬ IsOdd d → TwoWordsTo (.msubsHRrr c d a b n) s c (clampSigned 32) (s.sD (d + 1) - qProduct (highInt s a) (highInt s b) n)
      (s.sD d - qProduct (lowInt s a) (lowInt s b) n)) ∧
    (n.toNat < 2 → ¬ IsOdd d → TwoHighTo (.msubrHRrr c d a b n) s c id (rounded (s.sD (d + 1) - qProduct (highInt s a) (highInt s b) n))
      (rounded (s.sD d - qProduct (lowInt s a) (lowInt s b) n))) ∧
    (n.toNat < 2 → ¬ IsOdd d → TwoHighTo (.msubrsHRrr c d a b n) s c (clampSigned 32) (rounded (s.sD (d + 1) - qProduct (highInt s a) (highInt s b) n))
      (rounded (s.sD d - qProduct (lowInt s a) (lowInt s b) n)))

/-- MADDM.Q, MADDM.H, MSUBM.Q and MSUBM.H: the 64-bit accumulator, its flags and the frame. An inference of the spec
itself: the sum of the two products of the .H forms is exact (92 D29). (R512, R522) -/
def Obligations.FractionalAccumulate : Prop :=
  ∀ (s : State) (c d a b : Reg),
    (¬ IsOdd c → ¬ IsOdd d → SignedPairTo (.maddmQRrr c d a b) s c (signedPair s d + highInt s a * highInt s b * 2 ^ 16)) ∧
    (¬ IsOdd c → ¬ IsOdd d → SignedPairTo (.maddmHRrr c d a b) s c
      (signedPair s d + (highInt s a * highInt s b + lowInt s a * lowInt s b) * 2 ^ 16)) ∧
    (¬ IsOdd c → ¬ IsOdd d → SignedPairTo (.msubmQRrr c d a b) s c (signedPair s d - highInt s a * highInt s b * 2 ^ 16)) ∧
    (¬ IsOdd c → ¬ IsOdd d → SignedPairTo (.msubmHRrr c d a b) s c
      (signedPair s d - (highInt s a * highInt s b + lowInt s a * lowInt s b) * 2 ^ 16))

/-- A DSP multiply with a shift operand of 2 or 3 is refused, before the test for odd pairs (the choice of the model,
log 10). (R500) -/
def Obligations.FractionalShiftRefused : Prop :=
  ∀ (s : State) (c d a b : Reg) (n : BitVec 2),
    2 ≤ n.toNat →
    exec (.mulQRr c a b n) s = .refused .undefinedShiftField ∧
    exec (.mulrQRr c a b n) s = .refused .undefinedShiftField ∧
    exec (.mulHRr c a b n) s = .refused .undefinedShiftField ∧
    exec (.mulrHRr c a b n) s = .refused .undefinedShiftField ∧
    exec (.maddQRrr c d a b n) s = .refused .undefinedShiftField ∧
    exec (.maddHRrr c d a b n) s = .refused .undefinedShiftField ∧
    exec (.maddsQRrr c d a b n) s = .refused .undefinedShiftField ∧
    exec (.maddsHRrr c d a b n) s = .refused .undefinedShiftField ∧
    exec (.maddrQRrr c d a b n) s = .refused .undefinedShiftField ∧
    exec (.maddrHRrr c d a b n) s = .refused .undefinedShiftField ∧
    exec (.maddrsQRrr c d a b n) s = .refused .undefinedShiftField ∧
    exec (.maddrsHRrr c d a b n) s = .refused .undefinedShiftField ∧
    exec (.msubQRrr c d a b n) s = .refused .undefinedShiftField ∧
    exec (.msubHRrr c d a b n) s = .refused .undefinedShiftField ∧
    exec (.msubsQRrr c d a b n) s = .refused .undefinedShiftField ∧
    exec (.msubsHRrr c d a b n) s = .refused .undefinedShiftField ∧
    exec (.msubrQRrr c d a b n) s = .refused .undefinedShiftField ∧
    exec (.msubrHRrr c d a b n) s = .refused .undefinedShiftField ∧
    exec (.msubrsQRrr c d a b n) s = .refused .undefinedShiftField ∧
    exec (.msubrsHRrr c d a b n) s = .refused .undefinedShiftField

/-- ABS, ABSDIF, ADD, SUB, SHA on packed bytes and halfwords: every element, V, SV, AV, SAV and frame. An inference of
the spec itself: plain packed additions and subtractions take their elements as signed for V (92 D30, 44 R553), V of
SHA is the general definition of V applied to the shift (44 R592); AV of a saturating instruction comes from the
value written (92 D15). (R555, R556, R557, R558, R560, R561, R562, R563, R564, R565) -/
def Obligations.PackedArithmetic : Prop :=
  ∀ (s : State) (c a b : Reg) (k9 : BitVec 9),
    BytesTo (.absBRr c a) s c (fun k => BitVec.ofInt 8 (|(sElem 8 (s.getD a) k)|))
      (fun k => OutsideSigned 8 (|(sElem 8 (s.getD a) k)|)) ∧
    HalvesTo (.absHRr c a) s c (fun k => BitVec.ofInt 16 (|(sElem 16 (s.getD a) k)|))
      (fun k => OutsideSigned 16 (|(sElem 16 (s.getD a) k)|)) ∧
    BytesTo (.abssBRr c a) s c (fun k => BitVec.ofInt 8 (clampSigned 8 (|(sElem 8 (s.getD a) k)|)))
      (fun k => OutsideSigned 8 (|(sElem 8 (s.getD a) k)|)) ∧
    HalvesTo (.abssHRr c a) s c (fun k => BitVec.ofInt 16 (clampSigned 16 (|(sElem 16 (s.getD a) k)|)))
      (fun k => OutsideSigned 16 (|(sElem 16 (s.getD a) k)|)) ∧
    BytesTo (.absdifBRr c a b) s c (fun k => BitVec.ofInt 8 (|(sElem 8 (s.getD a) k) - (sElem 8 (s.getD b) k)|))
      (fun k => OutsideSigned 8 (|(sElem 8 (s.getD a) k) - (sElem 8 (s.getD b) k)|)) ∧
    HalvesTo (.absdifHRr c a b) s c (fun k => BitVec.ofInt 16 (|(sElem 16 (s.getD a) k) - (sElem 16 (s.getD b) k)|))
      (fun k => OutsideSigned 16 (|(sElem 16 (s.getD a) k) - (sElem 16 (s.getD b) k)|)) ∧
    BytesTo (.absdifsBRr c a b) s c (fun k => BitVec.ofInt 8 (clampSigned 8 (|(sElem 8 (s.getD a) k) - (sElem 8 (s.getD b) k)|)))
      (fun k => OutsideSigned 8 (|(sElem 8 (s.getD a) k) - (sElem 8 (s.getD b) k)|)) ∧
    HalvesTo (.absdifsHRr c a b) s c (fun k => BitVec.ofInt 16 (clampSigned 16 (|(sElem 16 (s.getD a) k) - (sElem 16 (s.getD b) k)|)))
      (fun k => OutsideSigned 16 (|(sElem 16 (s.getD a) k) - (sElem 16 (s.getD b) k)|)) ∧
    BytesTo (.addBRr c a b) s c (fun k => BitVec.ofInt 8 ((sElem 8 (s.getD a) k) + (sElem 8 (s.getD b) k)))
      (fun k => OutsideSigned 8 ((sElem 8 (s.getD a) k) + (sElem 8 (s.getD b) k))) ∧
    HalvesTo (.addHRr c a b) s c (fun k => BitVec.ofInt 16 ((sElem 16 (s.getD a) k) + (sElem 16 (s.getD b) k)))
      (fun k => OutsideSigned 16 ((sElem 16 (s.getD a) k) + (sElem 16 (s.getD b) k))) ∧
    BytesTo (.addsBRr c a b) s c (fun k => BitVec.ofInt 8 (clampSigned 8 ((sElem 8 (s.getD a) k) + (sElem 8 (s.getD b) k))))
      (fun k => OutsideSigned 8 ((sElem 8 (s.getD a) k) + (sElem 8 (s.getD b) k))) ∧
    HalvesTo (.addsHRr c a b) s c (fun k => BitVec.ofInt 16 (clampSigned 16 ((sElem 16 (s.getD a) k) + (sElem 16 (s.getD b) k))))
      (fun k => OutsideSigned 16 ((sElem 16 (s.getD a) k) + (sElem 16 (s.getD b) k))) ∧
    BytesTo (.addsBuRr c a b) s c (fun k => BitVec.ofInt 8 (clampUnsigned 8 ((uElem 8 (s.getD a) k) + (uElem 8 (s.getD b) k))))
      (fun k => OutsideUnsigned 8 ((uElem 8 (s.getD a) k) + (uElem 8 (s.getD b) k))) ∧
    HalvesTo (.addsHuRr c a b) s c (fun k => BitVec.ofInt 16 (clampUnsigned 16 ((uElem 16 (s.getD a) k) + (uElem 16 (s.getD b) k))))
      (fun k => OutsideUnsigned 16 ((uElem 16 (s.getD a) k) + (uElem 16 (s.getD b) k))) ∧
    BytesTo (.subBRr c a b) s c (fun k => BitVec.ofInt 8 ((sElem 8 (s.getD a) k) - (sElem 8 (s.getD b) k)))
      (fun k => OutsideSigned 8 ((sElem 8 (s.getD a) k) - (sElem 8 (s.getD b) k))) ∧
    HalvesTo (.subHRr c a b) s c (fun k => BitVec.ofInt 16 ((sElem 16 (s.getD a) k) - (sElem 16 (s.getD b) k)))
      (fun k => OutsideSigned 16 ((sElem 16 (s.getD a) k) - (sElem 16 (s.getD b) k))) ∧
    BytesTo (.subsBRr c a b) s c (fun k => BitVec.ofInt 8 (clampSigned 8 ((sElem 8 (s.getD a) k) - (sElem 8 (s.getD b) k))))
      (fun k => OutsideSigned 8 ((sElem 8 (s.getD a) k) - (sElem 8 (s.getD b) k))) ∧
    HalvesTo (.subsHRr c a b) s c (fun k => BitVec.ofInt 16 (clampSigned 16 ((sElem 16 (s.getD a) k) - (sElem 16 (s.getD b) k))))
      (fun k => OutsideSigned 16 ((sElem 16 (s.getD a) k) - (sElem 16 (s.getD b) k))) ∧
    BytesTo (.subsBuRr c a b) s c (fun k => BitVec.ofInt 8 (clampUnsigned 8 ((uElem 8 (s.getD a) k) - (uElem 8 (s.getD b) k))))
      (fun k => OutsideUnsigned 8 ((uElem 8 (s.getD a) k) - (uElem 8 (s.getD b) k))) ∧
    HalvesTo (.subsHuRr c a b) s c (fun k => BitVec.ofInt 16 (clampUnsigned 16 ((uElem 16 (s.getD a) k) - (uElem 16 (s.getD b) k))))
      (fun k => OutsideUnsigned 16 ((uElem 16 (s.getD a) k) - (uElem 16 (s.getD b) k))) ∧
    BytesTo (.shaBRc c a k9) s c (fun k => BitVec.ofInt 8 (shifted (sElem 8 (s.getD a) k) (signedField 4 k9.toNat)))
      (fun k => OutsideSigned 8 (shifted (sElem 8 (s.getD a) k) (signedField 4 k9.toNat))) ∧
    BytesTo (.shaBRr c a b) s c (fun k => BitVec.ofInt 8 (shifted (sElem 8 (s.getD a) k) (signedField 4 (s.getD b).toNat)))
      (fun k => OutsideSigned 8 (shifted (sElem 8 (s.getD a) k) (signedField 4 (s.getD b).toNat))) ∧
    HalvesTo (.shaHRc c a k9) s c (fun k => BitVec.ofInt 16 (shifted (sElem 16 (s.getD a) k) (signedField 5 k9.toNat)))
      (fun k => OutsideSigned 16 (shifted (sElem 16 (s.getD a) k) (signedField 5 k9.toNat))) ∧
    HalvesTo (.shaHRr c a b) s c (fun k => BitVec.ofInt 16 (shifted (sElem 16 (s.getD a) k) (signedField 5 (s.getD b).toNat)))
      (fun k => OutsideSigned 16 (shifted (sElem 16 (s.getD a) k) (signedField 5 (s.getD b).toNat)))

/-- MAX, MIN, CLZ, CLO, CLS and SH on packed bytes and halfwords: every element, no flag, and the frame. (R570, R571,
R572, R573, R580, R581, R582, R591) -/
def Obligations.PackedSelectAndCount : Prop :=
  ∀ (s : State) (c a b : Reg) (k9 : BitVec 9),
    MovesTo (.maxBRr c a b) s c 4
      (ofBytes fun k => BitVec.ofInt 8 (max (sElem 8 (s.getD a) k) (sElem 8 (s.getD b) k))) ∧
    MovesTo (.maxBuRr c a b) s c 4
      (ofBytes fun k => BitVec.ofInt 8 (max (uElem 8 (s.getD a) k) (uElem 8 (s.getD b) k))) ∧
    MovesTo (.minBRr c a b) s c 4
      (ofBytes fun k => BitVec.ofInt 8 (min (sElem 8 (s.getD a) k) (sElem 8 (s.getD b) k))) ∧
    MovesTo (.minBuRr c a b) s c 4
      (ofBytes fun k => BitVec.ofInt 8 (min (uElem 8 (s.getD a) k) (uElem 8 (s.getD b) k))) ∧
    MovesTo (.shBRc c a k9) s c 4
      (ofBytes fun k => BitVec.ofInt 8 (shifted (uElem 8 (s.getD a) k) (signedField 4 k9.toNat))) ∧
    MovesTo (.shBRr c a b) s c 4
      (ofBytes fun k => BitVec.ofInt 8 (shifted (uElem 8 (s.getD a) k) (signedField 4 (s.getD b).toNat))) ∧
    (∃ m : Nat → Nat, (∀ k, k < 4 → LeadingRun (element 8 (s.getD a) k) 0 false (m k)) ∧
      MovesTo (.clzBRr c a) s c 4 (ofBytes fun k => BitVec.ofNat 8 (m k))) ∧
    (∃ m : Nat → Nat, (∀ k, k < 4 → LeadingRun (element 8 (s.getD a) k) 0 true (m k)) ∧
      MovesTo (.cloBRr c a) s c 4 (ofBytes fun k => BitVec.ofNat 8 (m k))) ∧
    (∃ m : Nat → Nat, (∀ k, k < 4 → LeadingRun (element 8 (s.getD a) k) 1 ((element 8 (s.getD a) k).getLsbD 7) (m k)) ∧
      MovesTo (.clsBRr c a) s c 4 (ofBytes fun k => BitVec.ofNat 8 (m k))) ∧
    MovesTo (.maxHRr c a b) s c 4
      (ofHalves fun k => BitVec.ofInt 16 (max (sElem 16 (s.getD a) k) (sElem 16 (s.getD b) k))) ∧
    MovesTo (.maxHuRr c a b) s c 4
      (ofHalves fun k => BitVec.ofInt 16 (max (uElem 16 (s.getD a) k) (uElem 16 (s.getD b) k))) ∧
    MovesTo (.minHRr c a b) s c 4
      (ofHalves fun k => BitVec.ofInt 16 (min (sElem 16 (s.getD a) k) (sElem 16 (s.getD b) k))) ∧
    MovesTo (.minHuRr c a b) s c 4
      (ofHalves fun k => BitVec.ofInt 16 (min (uElem 16 (s.getD a) k) (uElem 16 (s.getD b) k))) ∧
    MovesTo (.shHRc c a k9) s c 4
      (ofHalves fun k => BitVec.ofInt 16 (shifted (uElem 16 (s.getD a) k) (signedField 5 k9.toNat))) ∧
    MovesTo (.shHRr c a b) s c 4
      (ofHalves fun k => BitVec.ofInt 16 (shifted (uElem 16 (s.getD a) k) (signedField 5 (s.getD b).toNat))) ∧
    (∃ m : Nat → Nat, (∀ k, k < 2 → LeadingRun (element 16 (s.getD a) k) 0 false (m k)) ∧
      MovesTo (.clzHRr c a) s c 4 (ofHalves fun k => BitVec.ofNat 16 (m k))) ∧
    (∃ m : Nat → Nat, (∀ k, k < 2 → LeadingRun (element 16 (s.getD a) k) 0 true (m k)) ∧
      MovesTo (.cloHRr c a) s c 4 (ofHalves fun k => BitVec.ofNat 16 (m k))) ∧
    (∃ m : Nat → Nat, (∀ k, k < 2 → LeadingRun (element 16 (s.getD a) k) 1 ((element 16 (s.getD a) k).getLsbD 15) (m k)) ∧
      MovesTo (.clsHRr c a) s c 4 (ofHalves fun k => BitVec.ofNat 16 (m k)))

/-- EQ, NE, LT, LT.U, GE, GE.U and the .W forms of EQ, LT and LT.U: the result and the frame. (R622, R623, R624, R625,
R626, R627, R657, R664, R665) -/
def Obligations.CompareWords : Prop :=
  ∀ (s : State) (c a b : Reg) (k4 : BitVec 4) (k9 : BitVec 9),
    ComparesTo (.eqRc c a k9) s c 4 (s.getD a = BitVec.ofInt 32 k9.toInt) ∧
    ComparesTo (.eqRr c a b) s c 4 (s.getD a = s.getD b) ∧
    ComparesTo (.neRc c a k9) s c 4 (s.getD a ≠ BitVec.ofInt 32 k9.toInt) ∧
    ComparesTo (.neRr c a b) s c 4 (s.getD a ≠ s.getD b) ∧
    ComparesTo (.ltRc c a k9) s c 4 (s.sD a < k9.toInt) ∧
    ComparesTo (.ltRr c a b) s c 4 (s.sD a < s.sD b) ∧
    ComparesTo (.ltURc c a k9) s c 4 (s.uD a < (k9.toNat % 256 : Nat)) ∧
    ComparesTo (.ltURr c a b) s c 4 (s.uD a < s.uD b) ∧
    ComparesTo (.geRc c a k9) s c 4 (k9.toInt ≤ s.sD a) ∧
    ComparesTo (.geRr c a b) s c 4 (s.sD b ≤ s.sD a) ∧
    ComparesTo (.geURc c a k9) s c 4 ((k9.toNat % 256 : Nat) ≤ s.uD a) ∧
    ComparesTo (.geURr c a b) s c 4 (s.uD b ≤ s.uD a) ∧
    ComparesTo (.eqSrc a k4) s 15 2 (s.getD a = BitVec.ofInt 32 k4.toInt) ∧
    ComparesTo (.eqSrr a b) s 15 2 (s.getD a = s.getD b) ∧
    ComparesTo (.ltSrc a k4) s 15 2 (s.sD a < k4.toInt) ∧
    ComparesTo (.ltSrr a b) s 15 2 (s.sD a < s.sD b) ∧
    ComparesTo (.ltUSrc a k4) s 15 2 (s.uD a < (k4.toNat : Nat)) ∧
    ComparesTo (.ltUSrr a b) s 15 2 (s.uD a < s.uD b) ∧
    MovesTo (.eqWRr c a b) s c 4 (if s.getD a = s.getD b then 0xFFFFFFFF else 0) ∧
    MovesTo (.ltWRr c a b) s c 4 (if s.sD a < s.sD b then 0xFFFFFFFF else 0) ∧
    MovesTo (.ltWuRr c a b) s c 4 (if s.uD a < s.uD b then 0xFFFFFFFF else 0)

/-- EQ, LT, LT.U and EQANY on packed bytes and halfwords: every element and the frame. (R655, R656, R658, R659, R660,
R661, R662, R663) -/
def Obligations.ComparePacked : Prop :=
  ∀ (s : State) (c a b : Reg) (k9 : BitVec 9),
    MovesTo (.eqBRr c a b) s c 4
      (ofBytes fun k => if element 8 (s.getD a) k = element 8 (s.getD b) k then 0xFF else 0) ∧
    MovesTo (.ltBRr c a b) s c 4
      (ofBytes fun k => if sElem 8 (s.getD a) k < sElem 8 (s.getD b) k then 0xFF else 0) ∧
    MovesTo (.ltBuRr c a b) s c 4
      (ofBytes fun k => if uElem 8 (s.getD a) k < uElem 8 (s.getD b) k then 0xFF else 0) ∧
    ComparesTo (.eqanyBRr c a b) s c 4
      (∃ k, k < 4 ∧ element 8 (s.getD a) k = element 8 (s.getD b) k) ∧
    ComparesTo (.eqanyBRc c a k9) s c 4
      (∃ k, k < 4 ∧ element 8 (s.getD a) k = element 8 (BitVec.ofInt 32 k9.toInt) k) ∧
    MovesTo (.eqHRr c a b) s c 4
      (ofHalves fun k => if element 16 (s.getD a) k = element 16 (s.getD b) k then 0xFFFF else 0) ∧
    MovesTo (.ltHRr c a b) s c 4
      (ofHalves fun k => if sElem 16 (s.getD a) k < sElem 16 (s.getD b) k then 0xFFFF else 0) ∧
    MovesTo (.ltHuRr c a b) s c 4
      (ofHalves fun k => if uElem 16 (s.getD a) k < uElem 16 (s.getD b) k then 0xFFFF else 0) ∧
    ComparesTo (.eqanyHRr c a b) s c 4
      (∃ k, k < 2 ∧ element 16 (s.getD a) k = element 16 (s.getD b) k) ∧
    ComparesTo (.eqanyHRc c a k9) s c 4
      (∃ k, k < 2 ∧ element 16 (s.getD a) k = element 16 (BitVec.ofInt 32 k9.toInt) k)

/-- AND.EQ to AND.GE.U and OR.EQ to OR.GE.U: bit 0 accumulates the comparison, nothing else changes. (R629, R630, R631,
R632, R633, R634, R635, R636, R637, R638, R639, R640) -/
def Obligations.CompareAndOr : Prop :=
  ∀ (s : State) (c a b : Reg) (k9 : BitVec 9),
    AccumulatesTo (.andEqRc c a k9) s c (BitOf s c 0 ∧ s.getD a = BitVec.ofInt 32 k9.toInt) ∧
    AccumulatesTo (.andEqRr c a b) s c (BitOf s c 0 ∧ s.getD a = s.getD b) ∧
    AccumulatesTo (.andNeRc c a k9) s c (BitOf s c 0 ∧ s.getD a ≠ BitVec.ofInt 32 k9.toInt) ∧
    AccumulatesTo (.andNeRr c a b) s c (BitOf s c 0 ∧ s.getD a ≠ s.getD b) ∧
    AccumulatesTo (.andLtRc c a k9) s c (BitOf s c 0 ∧ s.sD a < k9.toInt) ∧
    AccumulatesTo (.andLtRr c a b) s c (BitOf s c 0 ∧ s.sD a < s.sD b) ∧
    AccumulatesTo (.andLtURc c a k9) s c (BitOf s c 0 ∧ s.uD a < (k9.toNat % 256 : Nat)) ∧
    AccumulatesTo (.andLtURr c a b) s c (BitOf s c 0 ∧ s.uD a < s.uD b) ∧
    AccumulatesTo (.andGeRc c a k9) s c (BitOf s c 0 ∧ k9.toInt ≤ s.sD a) ∧
    AccumulatesTo (.andGeRr c a b) s c (BitOf s c 0 ∧ s.sD b ≤ s.sD a) ∧
    AccumulatesTo (.andGeURc c a k9) s c (BitOf s c 0 ∧ (k9.toNat % 256 : Nat) ≤ s.uD a) ∧
    AccumulatesTo (.andGeURr c a b) s c (BitOf s c 0 ∧ s.uD b ≤ s.uD a) ∧
    AccumulatesTo (.orEqRc c a k9) s c (BitOf s c 0 ∨ s.getD a = BitVec.ofInt 32 k9.toInt) ∧
    AccumulatesTo (.orEqRr c a b) s c (BitOf s c 0 ∨ s.getD a = s.getD b) ∧
    AccumulatesTo (.orNeRc c a k9) s c (BitOf s c 0 ∨ s.getD a ≠ BitVec.ofInt 32 k9.toInt) ∧
    AccumulatesTo (.orNeRr c a b) s c (BitOf s c 0 ∨ s.getD a ≠ s.getD b) ∧
    AccumulatesTo (.orLtRc c a k9) s c (BitOf s c 0 ∨ s.sD a < k9.toInt) ∧
    AccumulatesTo (.orLtRr c a b) s c (BitOf s c 0 ∨ s.sD a < s.sD b) ∧
    AccumulatesTo (.orLtURc c a k9) s c (BitOf s c 0 ∨ s.uD a < (k9.toNat % 256 : Nat)) ∧
    AccumulatesTo (.orLtURr c a b) s c (BitOf s c 0 ∨ s.uD a < s.uD b) ∧
    AccumulatesTo (.orGeRc c a k9) s c (BitOf s c 0 ∨ k9.toInt ≤ s.sD a) ∧
    AccumulatesTo (.orGeRr c a b) s c (BitOf s c 0 ∨ s.sD b ≤ s.sD a) ∧
    AccumulatesTo (.orGeURc c a k9) s c (BitOf s c 0 ∨ (k9.toNat % 256 : Nat) ≤ s.uD a) ∧
    AccumulatesTo (.orGeURr c a b) s c (BitOf s c 0 ∨ s.uD b ≤ s.uD a)

/-- XOR.EQ to XOR.GE.U accumulate the comparison in bit 0, SH.EQ to SH.GE.U shift it in. (R641, R642, R643, R644, R645,
R646, R648, R649, R650, R651, R652, R653) -/
def Obligations.CompareXorShift : Prop :=
  ∀ (s : State) (c a b : Reg) (k9 : BitVec 9),
    AccumulatesTo (.xorEqRc c a k9) s c (¬ (BitOf s c 0 ↔ s.getD a = BitVec.ofInt 32 k9.toInt)) ∧
    AccumulatesTo (.xorEqRr c a b) s c (¬ (BitOf s c 0 ↔ s.getD a = s.getD b)) ∧
    AccumulatesTo (.xorNeRc c a k9) s c (¬ (BitOf s c 0 ↔ s.getD a ≠ BitVec.ofInt 32 k9.toInt)) ∧
    AccumulatesTo (.xorNeRr c a b) s c (¬ (BitOf s c 0 ↔ s.getD a ≠ s.getD b)) ∧
    AccumulatesTo (.xorLtRc c a k9) s c (¬ (BitOf s c 0 ↔ s.sD a < k9.toInt)) ∧
    AccumulatesTo (.xorLtRr c a b) s c (¬ (BitOf s c 0 ↔ s.sD a < s.sD b)) ∧
    AccumulatesTo (.xorLtURc c a k9) s c (¬ (BitOf s c 0 ↔ s.uD a < (k9.toNat % 256 : Nat))) ∧
    AccumulatesTo (.xorLtURr c a b) s c (¬ (BitOf s c 0 ↔ s.uD a < s.uD b)) ∧
    AccumulatesTo (.xorGeRc c a k9) s c (¬ (BitOf s c 0 ↔ k9.toInt ≤ s.sD a)) ∧
    AccumulatesTo (.xorGeRr c a b) s c (¬ (BitOf s c 0 ↔ s.sD b ≤ s.sD a)) ∧
    AccumulatesTo (.xorGeURc c a k9) s c (¬ (BitOf s c 0 ↔ (k9.toNat % 256 : Nat) ≤ s.uD a)) ∧
    AccumulatesTo (.xorGeURr c a b) s c (¬ (BitOf s c 0 ↔ s.uD b ≤ s.uD a)) ∧
    ShiftsInTo (.shEqRc c a k9) s c (s.getD a = BitVec.ofInt 32 k9.toInt) ∧
    ShiftsInTo (.shEqRr c a b) s c (s.getD a = s.getD b) ∧
    ShiftsInTo (.shNeRc c a k9) s c (s.getD a ≠ BitVec.ofInt 32 k9.toInt) ∧
    ShiftsInTo (.shNeRr c a b) s c (s.getD a ≠ s.getD b) ∧
    ShiftsInTo (.shLtRc c a k9) s c (s.sD a < k9.toInt) ∧
    ShiftsInTo (.shLtRr c a b) s c (s.sD a < s.sD b) ∧
    ShiftsInTo (.shLtURc c a k9) s c (s.uD a < (k9.toNat % 256 : Nat)) ∧
    ShiftsInTo (.shLtURr c a b) s c (s.uD a < s.uD b) ∧
    ShiftsInTo (.shGeRc c a k9) s c (k9.toInt ≤ s.sD a) ∧
    ShiftsInTo (.shGeRr c a b) s c (s.sD b ≤ s.sD a) ∧
    ShiftsInTo (.shGeURc c a k9) s c ((k9.toNat % 256 : Nat) ≤ s.uD a) ∧
    ShiftsInTo (.shGeURr c a b) s c (s.uD b ≤ s.uD a)

/-- AND.T, ANDN.T, NAND.T, NOR.T, OR.T, ORN.T, XNOR.T, XOR.T, INS.T and INSN.T: result and frame. (R668, R669, R670,
R671, R672, R673, R674, R675, R694, R695) -/
def Obligations.BitOperations : Prop :=
  ∀ (s : State) (c a b : Reg) (p1 p2 : BitVec 5),
    ComparesTo (.andTBit c a p1 b p2) s c 4 (BitOf s a p1.toNat ∧ BitOf s b p2.toNat) ∧
    ComparesTo (.andnTBit c a p1 b p2) s c 4 (BitOf s a p1.toNat ∧ ¬ BitOf s b p2.toNat) ∧
    ComparesTo (.nandTBit c a p1 b p2) s c 4 (¬ (BitOf s a p1.toNat ∧ BitOf s b p2.toNat)) ∧
    ComparesTo (.norTBit c a p1 b p2) s c 4 (¬ (BitOf s a p1.toNat ∨ BitOf s b p2.toNat)) ∧
    ComparesTo (.orTBit c a p1 b p2) s c 4 (BitOf s a p1.toNat ∨ BitOf s b p2.toNat) ∧
    ComparesTo (.ornTBit c a p1 b p2) s c 4 (BitOf s a p1.toNat ∨ ¬ BitOf s b p2.toNat) ∧
    ComparesTo (.xnorTBit c a p1 b p2) s c 4 ((BitOf s a p1.toNat ↔ BitOf s b p2.toNat)) ∧
    ComparesTo (.xorTBit c a p1 b p2) s c 4 (¬ (BitOf s a p1.toNat ↔ BitOf s b p2.toNat)) ∧
    BitsTo (.insTBit c a p1 b p2) s c 4
      (fun k => if k = p1.toNat then (s.getD b).getLsbD p2.toNat else (s.getD a).getLsbD k) ∧
    BitsTo (.insnTBit c a p1 b p2) s c 4
      (fun k => if k = p1.toNat then !(s.getD b).getLsbD p2.toNat else (s.getD a).getLsbD k)

/-- The two-operation .T instructions AND.*.T and OR.*.T, and SH.*.T: result and frame. (R677, R678, R679, R680, R681,
R682, R683, R684, R686, R687, R688, R689) -/
def Obligations.BitAccumulateShift : Prop :=
  ∀ (s : State) (c a b : Reg) (p1 p2 : BitVec 5),
    AccumulatesTo (.andAndTBit c a p1 b p2) s c (BitOf s c 0 ∧ (BitOf s a p1.toNat ∧ BitOf s b p2.toNat)) ∧
    AccumulatesTo (.andAndnTBit c a p1 b p2) s c (BitOf s c 0 ∧ (BitOf s a p1.toNat ∧ ¬ BitOf s b p2.toNat)) ∧
    AccumulatesTo (.andNorTBit c a p1 b p2) s c (BitOf s c 0 ∧ ¬ (BitOf s a p1.toNat ∨ BitOf s b p2.toNat)) ∧
    AccumulatesTo (.andOrTBit c a p1 b p2) s c (BitOf s c 0 ∧ (BitOf s a p1.toNat ∨ BitOf s b p2.toNat)) ∧
    AccumulatesTo (.orAndTBit c a p1 b p2) s c (BitOf s c 0 ∨ (BitOf s a p1.toNat ∧ BitOf s b p2.toNat)) ∧
    AccumulatesTo (.orAndnTBit c a p1 b p2) s c (BitOf s c 0 ∨ (BitOf s a p1.toNat ∧ ¬ BitOf s b p2.toNat)) ∧
    AccumulatesTo (.orNorTBit c a p1 b p2) s c (BitOf s c 0 ∨ ¬ (BitOf s a p1.toNat ∨ BitOf s b p2.toNat)) ∧
    AccumulatesTo (.orOrTBit c a p1 b p2) s c (BitOf s c 0 ∨ (BitOf s a p1.toNat ∨ BitOf s b p2.toNat)) ∧
    ShiftsInTo (.shAndTBit c a p1 b p2) s c (BitOf s a p1.toNat ∧ BitOf s b p2.toNat) ∧
    ShiftsInTo (.shAndnTBit c a p1 b p2) s c (BitOf s a p1.toNat ∧ ¬ BitOf s b p2.toNat) ∧
    ShiftsInTo (.shNandTBit c a p1 b p2) s c (¬ (BitOf s a p1.toNat ∧ BitOf s b p2.toNat)) ∧
    ShiftsInTo (.shNorTBit c a p1 b p2) s c (¬ (BitOf s a p1.toNat ∨ BitOf s b p2.toNat)) ∧
    ShiftsInTo (.shOrTBit c a p1 b p2) s c (BitOf s a p1.toNat ∨ BitOf s b p2.toNat) ∧
    ShiftsInTo (.shOrnTBit c a p1 b p2) s c (BitOf s a p1.toNat ∨ ¬ BitOf s b p2.toNat) ∧
    ShiftsInTo (.shXnorTBit c a p1 b p2) s c ((BitOf s a p1.toNat ↔ BitOf s b p2.toNat)) ∧
    ShiftsInTo (.shXorTBit c a p1 b p2) s c (¬ (BitOf s a p1.toNat ↔ BitOf s b p2.toNat))

/-- The instructions that write A[c]: the address computed, GRWP for a global register, and the frame. Choices it rests
on, of the spec (92, 93) and of the model (log): which writes want PSW.GW and take GRWP 92 D18 (log 36). (R45, R700,
R701, R702, R703, R705, R706, R708, R709, R714, R716, R718) -/
def Obligations.AddressArithmetic : Prop :=
  ∀ (s : State) (c d a b : Reg) (k8 : BitVec 8) (k9 : BitVec 9) (k16 : BitVec 16) (n : BitVec 2),
    AddressTo (.addARr c a b) s c 4 (s.getA a + s.getA b) ∧
    AddressTo (.addihARlc c a k16) s c 4 (s.getA a + BitVec.ofNat 32 (k16.toNat * 2 ^ 16)) ∧
    AddressTo (.addscARr c a b n) s c 4 (s.getA a + BitVec.ofNat 32 ((s.getD b).toNat * 2 ^ n.toNat)) ∧
    AddressTo (.addscASrrs a b n) s a 2 (s.getA a + BitVec.ofNat 32 ((s.getD b).toNat * 2 ^ n.toNat)) ∧
    AddressTo (.addscAtRr c a b) s c 4 (BitVec.ofInt 32 (((s.getA a).toNat + s.sD b / 8) / 4 * 4)) ∧
    AddressTo (.subARr c a b) s c 4 (s.getA a - s.getA b) ∧
    AddressTo (.subASc k8) s 10 2 (s.getA 10 - BitVec.ofNat 32 k8.toNat) ∧
    AddressTo (.subscARr c a b n) s c 4 (s.getA a - BitVec.ofNat 32 ((s.getD b).toNat * 2 ^ n.toNat)) ∧
    AddressTo (.movARr c b) s c 4 (s.getD b) ∧
    AddressTo (.movASrr a b) s a 2 (s.getD b) ∧
    AddressTo (.movAaRr c b) s c 4 (s.getA b) ∧
    AddressTo (.movAaSrr a b) s a 2 (s.getA b) ∧
    AddressTo (.movhARlc c k16) s c 4 (BitVec.ofNat 32 (k16.toNat * 2 ^ 16)) ∧
    AddressTo (.movzASr a) s a 2 (0) ∧
    AddressTo (.caddARcr c d a k9) s c 4 (if s.getD d ≠ 0 then s.getA a + BitVec.ofInt 32 k9.toInt else s.getA a) ∧
    AddressTo (.caddARrr c d a b) s c 4 (if s.getD d ≠ 0 then s.getA a + s.getA b else s.getA a) ∧
    AddressTo (.caddnARcr c d a k9) s c 4 (if s.getD d = 0 then s.getA a + BitVec.ofInt 32 k9.toInt else s.getA a) ∧
    AddressTo (.caddnARrr c d a b) s c 4 (if s.getD d = 0 then s.getA a + s.getA b else s.getA a) ∧
    AddressTo (.csubARrr c d a b) s c 4 (if s.getD d ≠ 0 then s.getA a - s.getA b else s.getA a) ∧
    AddressTo (.csubnARrr c d a b) s c 4 (if s.getD d = 0 then s.getA a - s.getA b else s.getA a) ∧
    AddressTo (.selARcr c d a k9) s c 4 (if s.getD d ≠ 0 then s.getA a else BitVec.ofInt 32 k9.toInt) ∧
    AddressTo (.selARrr c d a b) s c 4 (if s.getD d ≠ 0 then s.getA a else s.getA b) ∧
    AddressTo (.selnARcr c d a k9) s c 4 (if s.getD d = 0 then s.getA a else BitVec.ofInt 32 k9.toInt) ∧
    AddressTo (.selnARrr c d a b) s c 4 (if s.getD d = 0 then s.getA a else s.getA b)

/-- MOV.D, DIFSC.A and the address compares: the data register they write and the frame. (R707, R710, R721, R722, R723,
R724, R725, R726) -/
def Obligations.AddressToData : Prop :=
  ∀ (s : State) (c a b : Reg) (n : BitVec 2),
    MovesTo (.movDRr c b) s c 4 (s.getA b) ∧
    MovesTo (.movDSrr a b) s a 2 (s.getA b) ∧
    MovesTo (.difscARr c a b n) s c 4 (BitVec.ofInt 32 ((s.getA a - s.getA b).toInt / 2 ^ n.toNat)) ∧
    ComparesTo (.eqARr c a b) s c 4 (s.getA a = s.getA b) ∧
    ComparesTo (.neARr c a b) s c 4 (s.getA a ≠ s.getA b) ∧
    ComparesTo (.ltARr c a b) s c 4 ((s.getA a).toNat < (s.getA b).toNat) ∧
    ComparesTo (.geARr c a b) s c 4 ((s.getA b).toNat ≤ (s.getA a).toNat) ∧
    ComparesTo (.eqzARr c a) s c 4 (s.getA a = 0) ∧
    ComparesTo (.nezARr c a) s c 4 (s.getA a ≠ 0)

/-- J, JA, JI, JL, JLA and JLI: the target, the return address in A11, and the frame. (R742, R743, R744, R745, R746,
R747, R748) -/
def Obligations.Jumps : Prop :=
  ∀ (s : State) (b : Reg) (e8 : BitVec 8) (e24 : BitVec 24),
    JumpsTo (.jB e24) s (s.pc + BitVec.ofInt 32 (2 * e24.toInt)) ∧
    JumpsTo (.jSb e8) s (s.pc + BitVec.ofInt 32 (2 * e8.toInt)) ∧
    JumpsTo (.jaB e24) s (BitVec.ofNat 32 (e24.toNat / 2 ^ 20 * 2 ^ 28 + e24.toNat % 2 ^ 20 * 2)) ∧
    JumpsTo (.jiRr b) s (BitVec.ofNat 32 ((s.getA b).toNat / 2 * 2)) ∧
    JumpsTo (.jiSbr b) s (BitVec.ofNat 32 ((s.getA b).toNat / 2 * 2)) ∧
    LinksTo (.jlB e24) s (s.pc + BitVec.ofInt 32 (2 * e24.toInt)) ∧
    LinksTo (.jlaB e24) s (BitVec.ofNat 32 (e24.toNat / 2 ^ 20 * 2 ^ 28 + e24.toNat % 2 ^ 20 * 2)) ∧
    LinksTo (.jliRr b) s (BitVec.ofNat 32 ((s.getA b).toNat / 2 * 2))

/-- The conditional jumps on data registers: condition, target and frame. (R750, R751, R752, R753, R754, R755, R756,
R757, R758, R759, R760, R761) -/
def Obligations.ConditionalJumps : Prop :=
  ∀ (s : State) (a b : Reg) (k4 e4 : BitVec 4) (e8 : BitVec 8) (e15 : BitVec 15),
    BranchesTo (.jeqBrc a k4 e15) s (s.getD a = BitVec.ofInt 32 k4.toInt) (s.pc + BitVec.ofInt 32 (2 * e15.toInt)) 4 ∧
    BranchesTo (.jeqBrr a b e15) s (s.getD a = s.getD b) (s.pc + BitVec.ofInt 32 (2 * e15.toInt)) 4 ∧
    BranchesTo (.jeqSbc k4 e4) s (s.getD 15 = BitVec.ofInt 32 k4.toInt) (s.pc + BitVec.ofNat 32 (2 * e4.toNat)) 2 ∧
    BranchesTo (.jeqSbr b e4) s (s.getD 15 = s.getD b) (s.pc + BitVec.ofNat 32 (2 * e4.toNat)) 2 ∧
    BranchesTo (.jneBrc a k4 e15) s (s.getD a ≠ BitVec.ofInt 32 k4.toInt) (s.pc + BitVec.ofInt 32 (2 * e15.toInt)) 4 ∧
    BranchesTo (.jneBrr a b e15) s (s.getD a ≠ s.getD b) (s.pc + BitVec.ofInt 32 (2 * e15.toInt)) 4 ∧
    BranchesTo (.jneSbc k4 e4) s (s.getD 15 ≠ BitVec.ofInt 32 k4.toInt) (s.pc + BitVec.ofNat 32 (2 * e4.toNat)) 2 ∧
    BranchesTo (.jneSbr b e4) s (s.getD 15 ≠ s.getD b) (s.pc + BitVec.ofNat 32 (2 * e4.toNat)) 2 ∧
    BranchesTo (.jgeBrc a k4 e15) s (k4.toInt ≤ s.sD a) (s.pc + BitVec.ofInt 32 (2 * e15.toInt)) 4 ∧
    BranchesTo (.jgeBrr a b e15) s (s.sD b ≤ s.sD a) (s.pc + BitVec.ofInt 32 (2 * e15.toInt)) 4 ∧
    BranchesTo (.jgeUBrc a k4 e15) s ((k4.toNat : Nat) ≤ s.uD a) (s.pc + BitVec.ofInt 32 (2 * e15.toInt)) 4 ∧
    BranchesTo (.jgeUBrr a b e15) s (s.uD b ≤ s.uD a) (s.pc + BitVec.ofInt 32 (2 * e15.toInt)) 4 ∧
    BranchesTo (.jltBrc a k4 e15) s (s.sD a < k4.toInt) (s.pc + BitVec.ofInt 32 (2 * e15.toInt)) 4 ∧
    BranchesTo (.jltBrr a b e15) s (s.sD a < s.sD b) (s.pc + BitVec.ofInt 32 (2 * e15.toInt)) 4 ∧
    BranchesTo (.jltUBrc a k4 e15) s (s.uD a < (k4.toNat : Nat)) (s.pc + BitVec.ofInt 32 (2 * e15.toInt)) 4 ∧
    BranchesTo (.jltUBrr a b e15) s (s.uD a < s.uD b) (s.pc + BitVec.ofInt 32 (2 * e15.toInt)) 4 ∧
    BranchesTo (.jgezSbr b e4) s (0 ≤ s.sD b) (s.pc + BitVec.ofNat 32 (2 * e4.toNat)) 2 ∧
    BranchesTo (.jgtzSbr b e4) s (0 < s.sD b) (s.pc + BitVec.ofNat 32 (2 * e4.toNat)) 2 ∧
    BranchesTo (.jlezSbr b e4) s (s.sD b ≤ 0) (s.pc + BitVec.ofNat 32 (2 * e4.toNat)) 2 ∧
    BranchesTo (.jltzSbr b e4) s (s.sD b < 0) (s.pc + BitVec.ofNat 32 (2 * e4.toNat)) 2 ∧
    BranchesTo (.jnzSb e8) s (s.getD 15 ≠ 0) (s.pc + BitVec.ofInt 32 (2 * e8.toInt)) 2 ∧
    BranchesTo (.jnzSbr b e4) s (s.getD b ≠ 0) (s.pc + BitVec.ofNat 32 (2 * e4.toNat)) 2 ∧
    BranchesTo (.jzSb e8) s (s.getD 15 = 0) (s.pc + BitVec.ofInt 32 (2 * e8.toInt)) 2 ∧
    BranchesTo (.jzSbr b e4) s (s.getD b = 0) (s.pc + BitVec.ofNat 32 (2 * e4.toNat)) 2

/-- JNZ.T, JZ.T, the address jumps, JNED, JNEI and LOOP: condition, target, counter and frame. Choices it rests on, of
the spec (92, 93) and of the model (log): GRWP of the counter of LOOP 92 D18 (log 36). (R762, R763, R766, R767,
R768, R776, R777, R778, R779) -/
def Obligations.BitAddressAndLoopJumps : Prop :=
  ∀ (s : State) (a b : Reg) (k4 e4 : BitVec 4) (e15 : BitVec 15) (n5 : BitVec 5),
    BranchesTo (.jnzTBrn a n5 e15) s (BitOf s a n5.toNat) (s.pc + BitVec.ofInt 32 (2 * e15.toInt)) 4 ∧
    BranchesTo (.jnzTSbrn n5 e4) s (BitOf s 15 n5.toNat) (s.pc + BitVec.ofNat 32 (2 * e4.toNat)) 2 ∧
    BranchesTo (.jzTBrn a n5 e15) s (¬ BitOf s a n5.toNat) (s.pc + BitVec.ofInt 32 (2 * e15.toInt)) 4 ∧
    BranchesTo (.jzTSbrn n5 e4) s (¬ BitOf s 15 n5.toNat) (s.pc + BitVec.ofNat 32 (2 * e4.toNat)) 2 ∧
    BranchesTo (.jeqABrr a b e15) s (s.getA a = s.getA b) (s.pc + BitVec.ofInt 32 (2 * e15.toInt)) 4 ∧
    BranchesTo (.jneABrr a b e15) s (s.getA a ≠ s.getA b) (s.pc + BitVec.ofInt 32 (2 * e15.toInt)) 4 ∧
    BranchesTo (.jnzABrr a e15) s (s.getA a ≠ 0) (s.pc + BitVec.ofInt 32 (2 * e15.toInt)) 4 ∧
    BranchesTo (.jnzASbr b e4) s (s.getA b ≠ 0) (s.pc + BitVec.ofNat 32 (2 * e4.toNat)) 2 ∧
    BranchesTo (.jzABrr a e15) s (s.getA a = 0) (s.pc + BitVec.ofInt 32 (2 * e15.toInt)) 4 ∧
    BranchesTo (.jzASbr b e4) s (s.getA b = 0) (s.pc + BitVec.ofNat 32 (2 * e4.toNat)) 2 ∧
    CountsTo (.jnedBrc a k4 e15) s a (s.getD a - 1) (s.getD a ≠ BitVec.ofInt 32 k4.toInt)
      (s.pc + BitVec.ofInt 32 (2 * e15.toInt)) ∧
    CountsTo (.jnedBrr a b e15) s a (s.getD a - 1) (s.getD a ≠ s.getD b)
      (s.pc + BitVec.ofInt 32 (2 * e15.toInt)) ∧
    CountsTo (.jneiBrc a k4 e15) s a (s.getD a + 1) (s.getD a ≠ BitVec.ofInt 32 k4.toInt)
      (s.pc + BitVec.ofInt 32 (2 * e15.toInt)) ∧
    CountsTo (.jneiBrr a b e15) s a (s.getD a + 1) (s.getD a ≠ s.getD b)
      (s.pc + BitVec.ofInt 32 (2 * e15.toInt)) ∧
    (s.getA a = 0 → JumpsTo (.loopBrr a e15) s (s.pc + 4)) ∧
    (s.getA a ≠ 0 → AddressTo (.loopBrr a e15) s a (BitVec.ofInt 32 (2 * e15.toInt)) (s.getA a - 1)) ∧
    (s.getA b = 0 → JumpsTo (.loopSbr b e4) s (s.pc + 2)) ∧
    (s.getA b ≠ 0 → AddressTo (.loopSbr b e4) s b (BitVec.ofInt 32 (2 * e4.toNat - 32)) (s.getA b - 1))

/-- CALL, CALLA and CALLI: what is saved and where, PSW.CDC, A11, the target, and the traps FCU, CDO, MPP, MPR, MPW,
BUS, FCD. Choices it rests on, of the spec (92, 93) and of the model (log): FCU before CDO and the reading of the
call depth counter 92 D4, bit 0 of the target D19, FCD after the call with the target as return address D31, CCPN
and IE recorded by the save D32 (log 36); MPR before MPW D22 (log 20); BUS at the call D6 (log 25); the layout of
the CSA D3 (log 17); one access of 64 bytes (log 34); the signals (log 14); all that is said of a CSA that is no
memory (log 8, with 6 and 7). (R769, R770, R771, R772, R773, R966, R967, R971) -/
def Obligations.Calls : Prop :=
  ∀ (s : State) (b : Reg) (e24 : BitVec 24),
    CallTo (.callB e24) s (s.pc + BitVec.ofInt 32 (2 * e24.toInt)) ∧
    CallTo (.callaB e24) s (BitVec.ofNat 32 (e24.toNat / 2 ^ 20 * 2 ^ 28 + e24.toNat % 2 ^ 20 * 2)) ∧
    CallTo (.calliRr b) s (BitVec.ofNat 32 ((s.getA b).toNat / 2 * 2))

/-- RET and RFE: what is restored from where, the pc, ICR, the lists, and the traps CDU, NEST, CSU, CTYP, MPP, MPR, MPW,
BUS. Choices it rests on, of the spec (92, 93) and of the model (log): the order CDU or NEST, CSU, CTYP and the
reading of the counter 92 D4, ICR restored by RET D32, bit 0 of A11 D19 (log 36); reserved bits of PSW and PCXI D17
(log 29); MPR before MPW D22 (log 20); BUS at the return D6 (log 25); the layout of the CSA D3 (log 17); one access
of 64 bytes (log 34); the signals (log 14); all that is said of a CSA that is no memory (log 8, with 6 and 7).
(R774, R880, R966, R968, R969, R971) -/
def Obligations.Returns : Prop :=
  ∀ (s : State),
    ((∃ w, 1 ≤ w ∧ HasCounter s.psw w 0) →
      exec .retSys s = raise s .cdu ∧ exec .retSr s = raise s .cdu) ∧
    ((¬ ∃ w, 1 ≤ w ∧ HasCounter s.psw w 0) → ReturnTo .retSys s ∧ ReturnTo .retSr s) ∧
    ((∃ w cnt, cnt ≠ 0 ∧ HasCounter s.psw w cnt) →
      exec .rfeSys s = raise s .nest ∧ exec .rfeSr s = raise s .nest) ∧
    ((¬ ∃ w cnt, cnt ≠ 0 ∧ HasCounter s.psw w cnt) → ReturnTo .rfeSys s ∧ ReturnTo .rfeSr s)

/-- The addressing modes: effective address, segment base, register update, and the bytes of a circular access. Choices
it rests on, of the spec (92, 93) and of the model (log): a circular buffer with L = 0 or I >= L, its formulas as
printed and its bytes consecutive, 93 U5 (log 28); the wrap of the byte addresses modulo 2^32 (log 32). (R161, R162,
R163, R164, R165, R167, R168, R169, R170) -/
def Obligations.AddressingModes : Prop :=
  ∀ (s : State) (b : Reg) (o10 : BitVec 10) (o18 : BitVec 18),
    (AddrMode.abs o18).place s =
      ⟨BitVec.ofNat 32 (o18.toNat / 2 ^ 14 * 2 ^ 28 + o18.toNat % 2 ^ 14), none, none, none, true⟩ ∧
    (∀ off : Word, (AddrMode.base b off).place s = ⟨s.getA b + off, some (s.getA b), none, none, true⟩) ∧
    (∀ off : Word, (AddrMode.preInc b off).place s =
      ⟨s.getA b + off, some (s.getA b), none, some (b, s.getA b + off), true⟩) ∧
    (∀ off : Word, (AddrMode.postInc b off).place s =
      ⟨s.getA b, some (s.getA b), none, some (b, s.getA b + off), true⟩) ∧
    (∀ i l : Nat, i = (s.getA (b + 1)).toNat % 2 ^ 16 → l = (s.getA (b + 1)).toNat / 2 ^ 16 → ∃ j : Int,
      ((0 ≤ i + o10.toInt ∧ i + o10.toInt < l) → j = i + o10.toInt) ∧
      (i + o10.toInt < 0 → j = i + o10.toInt + l) ∧ (0 ≤ i + o10.toInt → l ≤ i + o10.toInt → j = i + o10.toInt - l) ∧
      (AddrMode.circ b o10).place s =
        ⟨s.getA b + BitVec.ofNat 32 i, some (s.getA b), some ⟨s.getA b, l, i⟩,
          some (b + 1, BitVec.ofInt 32 (l * 2 ^ 16 + j % 2 ^ 16)), decide (b.val % 2 = 0)⟩) ∧
    (∃ i m j : BitVec 16, i.toNat = (s.getA (b + 1)).toNat % 2 ^ 16 ∧ m.toNat = (s.getA (b + 1)).toNat / 2 ^ 16 ∧
      j.reverse = i.reverse + m.reverse ∧
      (AddrMode.brev b).place s = ⟨s.getA b + BitVec.ofNat 32 i.toNat, some (s.getA b), none,
        some (b + 1, m ++ j), decide (b.val % 2 = 0)⟩) ∧
    (∀ (q : Place) (n k : Nat),
      (∀ r, q.ring = some r → r.index < r.len → r.len < r.index + n →
        q.byteAddr n k = r.base + BitVec.ofNat 32 ((r.index + k) % r.len)) ∧
      ((∀ r, q.ring = some r → ¬ (r.index < r.len ∧ r.len < r.index + n)) → q.byteAddr n k = q.ea + BitVec.ofNat 32 k))

/-- The value an access reads: the bytes of memory at its addresses, the first the least significant. Choices it rests
on, of the spec (92, 93) and of the model (log): the kind at the effective address decides every byte (log 5); the
byte addresses wrap modulo 2^32 (log 32). (R140, R169, R802) -/
def Obligations.LoadedValue : Prop :=
  ∀ (s : State),
    (∀ (q : Place) (n : Nat), s.loadValue q n < 256 ^ n ∧
      (memKind s.cfg q.ea = some .storage → ∀ k, k < n →
        BitVec.ofNat 8 (s.loadValue q n / 256 ^ k) = Memory.read s.mem (q.byteAddr n k).toNat))

/-- LD.B, LD.BU, LD.H, LD.HU and LD.Q in every mode: the register loaded, the update, the frame, the trap taken. Choices
it rests on, of the spec (92, 93) and of the model (log): the order of the traps 92 D22 (log 20); the default
alignment table D7, any other one in its place (log 35); MPN D21, GRWP of the base update D18, OPD of an odd pair
D26 (log 36); BUS at the instruction D6 (log 25); free bytes (log 6); the kind at the first byte (log 5); the wrap
of byte addresses (log 32); the signals (log 14). (R802, R806, R807, R810, R811, R812, R842, R843, R844, R185, R143) -/
def Obligations.LoadBytesHalfwords : Prop :=
  ∀ (s : State) (a b : Reg) (o4 : BitVec 4) (o10 : BitVec 10) (o18 : BitVec 18),
    LoadsData (.ldBAbs a o18) s (.abs o18) s.cfg.align.ldB 1 4 a
      (fun v => BitVec.ofInt 32 (signedField 8 v)) ∧
    LoadsData (.ldBBoShort a b o10) s (.base b (BitVec.ofInt 32 o10.toInt)) s.cfg.align.ldB 1 4 a
      (fun v => BitVec.ofInt 32 (signedField 8 v)) ∧
    LoadsData (.ldBBoPreinc a b o10) s (.preInc b (BitVec.ofInt 32 o10.toInt)) s.cfg.align.ldB 1 4 a
      (fun v => BitVec.ofInt 32 (signedField 8 v)) ∧
    LoadsData (.ldBBoPostinc a b o10) s (.postInc b (BitVec.ofInt 32 o10.toInt)) s.cfg.align.ldB 1 4 a
      (fun v => BitVec.ofInt 32 (signedField 8 v)) ∧
    LoadsData (.ldBBoCirc a b o10) s (.circ b o10) s.cfg.align.ldB 1 4 a
      (fun v => BitVec.ofInt 32 (signedField 8 v)) ∧
    LoadsData (.ldBBoBrev a b) s (.brev b) s.cfg.align.ldB 1 4 a
      (fun v => BitVec.ofInt 32 (signedField 8 v)) ∧
    LoadsData (.ldBSlr a b) s (.base b 0) s.cfg.align.ldB 1 2 a
      (fun v => BitVec.ofInt 32 (signedField 8 v)) ∧
    LoadsData (.ldBSlrPostinc a b) s (.postInc b 1) s.cfg.align.ldB 1 2 a
      (fun v => BitVec.ofInt 32 (signedField 8 v)) ∧
    LoadsData (.ldBSlro a o4) s (.base 15 (BitVec.ofNat 32 o4.toNat)) s.cfg.align.ldB 1 2 a
      (fun v => BitVec.ofInt 32 (signedField 8 v)) ∧
    LoadsData (.ldBSro b o4) s (.base b (BitVec.ofNat 32 o4.toNat)) s.cfg.align.ldB 1 2 15
      (fun v => BitVec.ofInt 32 (signedField 8 v)) ∧
    LoadsData (.ldBuAbs a o18) s (.abs o18) s.cfg.align.ldBu 1 4 a
      (fun v => BitVec.ofNat 32 (v % 2 ^ 8)) ∧
    LoadsData (.ldBuBoShort a b o10) s (.base b (BitVec.ofInt 32 o10.toInt)) s.cfg.align.ldBu 1 4 a
      (fun v => BitVec.ofNat 32 (v % 2 ^ 8)) ∧
    LoadsData (.ldBuBoPreinc a b o10) s (.preInc b (BitVec.ofInt 32 o10.toInt)) s.cfg.align.ldBu 1 4 a
      (fun v => BitVec.ofNat 32 (v % 2 ^ 8)) ∧
    LoadsData (.ldBuBoPostinc a b o10) s (.postInc b (BitVec.ofInt 32 o10.toInt)) s.cfg.align.ldBu 1 4 a
      (fun v => BitVec.ofNat 32 (v % 2 ^ 8)) ∧
    LoadsData (.ldBuBoCirc a b o10) s (.circ b o10) s.cfg.align.ldBu 1 4 a
      (fun v => BitVec.ofNat 32 (v % 2 ^ 8)) ∧
    LoadsData (.ldBuBoBrev a b) s (.brev b) s.cfg.align.ldBu 1 4 a
      (fun v => BitVec.ofNat 32 (v % 2 ^ 8)) ∧
    LoadsData (.ldBuSlr a b) s (.base b 0) s.cfg.align.ldBu 1 2 a
      (fun v => BitVec.ofNat 32 (v % 2 ^ 8)) ∧
    LoadsData (.ldBuSlrPostinc a b) s (.postInc b 1) s.cfg.align.ldBu 1 2 a
      (fun v => BitVec.ofNat 32 (v % 2 ^ 8)) ∧
    LoadsData (.ldBuSlro a o4) s (.base 15 (BitVec.ofNat 32 o4.toNat)) s.cfg.align.ldBu 1 2 a
      (fun v => BitVec.ofNat 32 (v % 2 ^ 8)) ∧
    LoadsData (.ldBuSro b o4) s (.base b (BitVec.ofNat 32 o4.toNat)) s.cfg.align.ldBu 1 2 15
      (fun v => BitVec.ofNat 32 (v % 2 ^ 8)) ∧
    LoadsData (.ldHAbs a o18) s (.abs o18) s.cfg.align.ldH 2 4 a
      (fun v => BitVec.ofInt 32 (signedField 16 v)) ∧
    LoadsData (.ldHBoShort a b o10) s (.base b (BitVec.ofInt 32 o10.toInt)) s.cfg.align.ldH 2 4 a
      (fun v => BitVec.ofInt 32 (signedField 16 v)) ∧
    LoadsData (.ldHBoPreinc a b o10) s (.preInc b (BitVec.ofInt 32 o10.toInt)) s.cfg.align.ldH 2 4 a
      (fun v => BitVec.ofInt 32 (signedField 16 v)) ∧
    LoadsData (.ldHBoPostinc a b o10) s (.postInc b (BitVec.ofInt 32 o10.toInt)) s.cfg.align.ldH 2 4 a
      (fun v => BitVec.ofInt 32 (signedField 16 v)) ∧
    LoadsData (.ldHBoCirc a b o10) s (.circ b o10) s.cfg.align.ldH 2 4 a
      (fun v => BitVec.ofInt 32 (signedField 16 v)) ∧
    LoadsData (.ldHBoBrev a b) s (.brev b) s.cfg.align.ldH 2 4 a
      (fun v => BitVec.ofInt 32 (signedField 16 v)) ∧
    LoadsData (.ldHSlr a b) s (.base b 0) s.cfg.align.ldH 2 2 a
      (fun v => BitVec.ofInt 32 (signedField 16 v)) ∧
    LoadsData (.ldHSlrPostinc a b) s (.postInc b 2) s.cfg.align.ldH 2 2 a
      (fun v => BitVec.ofInt 32 (signedField 16 v)) ∧
    LoadsData (.ldHSlro a o4) s (.base 15 (BitVec.ofNat 32 o4.toNat)) s.cfg.align.ldH 2 2 a
      (fun v => BitVec.ofInt 32 (signedField 16 v)) ∧
    LoadsData (.ldHSro b o4) s (.base b (BitVec.ofNat 32 o4.toNat)) s.cfg.align.ldH 2 2 15
      (fun v => BitVec.ofInt 32 (signedField 16 v)) ∧
    LoadsData (.ldHuAbs a o18) s (.abs o18) s.cfg.align.ldHu 2 4 a
      (fun v => BitVec.ofNat 32 (v % 2 ^ 16)) ∧
    LoadsData (.ldHuBoShort a b o10) s (.base b (BitVec.ofInt 32 o10.toInt)) s.cfg.align.ldHu 2 4 a
      (fun v => BitVec.ofNat 32 (v % 2 ^ 16)) ∧
    LoadsData (.ldHuBoPreinc a b o10) s (.preInc b (BitVec.ofInt 32 o10.toInt)) s.cfg.align.ldHu 2 4 a
      (fun v => BitVec.ofNat 32 (v % 2 ^ 16)) ∧
    LoadsData (.ldHuBoPostinc a b o10) s (.postInc b (BitVec.ofInt 32 o10.toInt)) s.cfg.align.ldHu 2 4 a
      (fun v => BitVec.ofNat 32 (v % 2 ^ 16)) ∧
    LoadsData (.ldHuBoCirc a b o10) s (.circ b o10) s.cfg.align.ldHu 2 4 a
      (fun v => BitVec.ofNat 32 (v % 2 ^ 16)) ∧
    LoadsData (.ldHuBoBrev a b) s (.brev b) s.cfg.align.ldHu 2 4 a
      (fun v => BitVec.ofNat 32 (v % 2 ^ 16)) ∧
    LoadsData (.ldQAbs a o18) s (.abs o18) s.cfg.align.ldQ 2 4 a
      (fun v => BitVec.ofNat 32 (v % 2 ^ 16 * 2 ^ 16)) ∧
    LoadsData (.ldQBoShort a b o10) s (.base b (BitVec.ofInt 32 o10.toInt)) s.cfg.align.ldQ 2 4 a
      (fun v => BitVec.ofNat 32 (v % 2 ^ 16 * 2 ^ 16)) ∧
    LoadsData (.ldQBoPreinc a b o10) s (.preInc b (BitVec.ofInt 32 o10.toInt)) s.cfg.align.ldQ 2 4 a
      (fun v => BitVec.ofNat 32 (v % 2 ^ 16 * 2 ^ 16)) ∧
    LoadsData (.ldQBoPostinc a b o10) s (.postInc b (BitVec.ofInt 32 o10.toInt)) s.cfg.align.ldQ 2 4 a
      (fun v => BitVec.ofNat 32 (v % 2 ^ 16 * 2 ^ 16)) ∧
    LoadsData (.ldQBoCirc a b o10) s (.circ b o10) s.cfg.align.ldQ 2 4 a
      (fun v => BitVec.ofNat 32 (v % 2 ^ 16 * 2 ^ 16)) ∧
    LoadsData (.ldQBoBrev a b) s (.brev b) s.cfg.align.ldQ 2 4 a
      (fun v => BitVec.ofNat 32 (v % 2 ^ 16 * 2 ^ 16)) ∧
    AlignTable.source.ldB = 1 ∧
    AlignTable.source.ldBu = 1 ∧
    AlignTable.source.ldH = 2 ∧
    AlignTable.source.ldHu = 2 ∧
    AlignTable.source.ldQ = 2

/-- LD.W, LD.A, LD.D and LD.DA in every mode: the registers loaded, the update, the frame, the trap taken. Choices it
rests on, of the spec (92, 93) and of the model (log): the order of the traps 92 D22 (log 20); the default alignment
table D7, any other one in its place (log 35); MPN D21, GRWP of the base and of the destination D18, the loaded
value over the updated base D23, OPD of an odd pair D26 (log 36); BUS at the instruction D6 (log 25); free bytes
(log 6); the kind at the first byte (log 5); the wrap of byte addresses (log 32); the signals (log 14). (R802, R805,
R808, R809, R813, R841, R845, R185, R226, R45, R143) -/
def Obligations.LoadWordsAndPairs : Prop :=
  ∀ (s : State) (a b : Reg) (o4 : BitVec 4) (o10 : BitVec 10) (o16 : BitVec 16) (o18 : BitVec 18),
    LoadsData (.ldWAbs a o18) s (.abs o18) s.cfg.align.ldW 4 4 a (BitVec.ofNat 32) ∧
    LoadsData (.ldWBoShort a b o10) s (.base b (BitVec.ofInt 32 o10.toInt)) s.cfg.align.ldW 4 4 a (BitVec.ofNat 32) ∧
    LoadsData (.ldWBoPreinc a b o10) s (.preInc b (BitVec.ofInt 32 o10.toInt)) s.cfg.align.ldW 4 4 a (BitVec.ofNat 32) ∧
    LoadsData (.ldWBoPostinc a b o10) s (.postInc b (BitVec.ofInt 32 o10.toInt)) s.cfg.align.ldW 4 4 a (BitVec.ofNat 32) ∧
    LoadsData (.ldWBoCirc a b o10) s (.circ b o10) s.cfg.align.ldW 4 4 a (BitVec.ofNat 32) ∧
    LoadsData (.ldWBoBrev a b) s (.brev b) s.cfg.align.ldW 4 4 a (BitVec.ofNat 32) ∧
    LoadsData (.ldWBol a b o16) s (.base b (BitVec.ofInt 32 o16.toInt)) s.cfg.align.ldW 4 4 a (BitVec.ofNat 32) ∧
    LoadsData (.ldWSlr a b) s (.base b 0) s.cfg.align.ldW 4 2 a (BitVec.ofNat 32) ∧
    LoadsData (.ldWSlrPostinc a b) s (.postInc b 4) s.cfg.align.ldW 4 2 a (BitVec.ofNat 32) ∧
    LoadsData (.ldWSlro a o4) s (.base 15 (BitVec.ofNat 32 o4.toNat)) s.cfg.align.ldW 4 2 a (BitVec.ofNat 32) ∧
    LoadsData (.ldWSro b o4) s (.base b (BitVec.ofNat 32 o4.toNat)) s.cfg.align.ldW 4 2 15 (BitVec.ofNat 32) ∧
    LoadsAddress (.ldAAbs a o18) s (.abs o18) 4 a ∧
    LoadsAddress (.ldABoShort a b o10) s (.base b (BitVec.ofInt 32 o10.toInt)) 4 a ∧
    LoadsAddress (.ldABoPreinc a b o10) s (.preInc b (BitVec.ofInt 32 o10.toInt)) 4 a ∧
    LoadsAddress (.ldABoPostinc a b o10) s (.postInc b (BitVec.ofInt 32 o10.toInt)) 4 a ∧
    LoadsAddress (.ldABoCirc a b o10) s (.circ b o10) 4 a ∧
    LoadsAddress (.ldABoBrev a b) s (.brev b) 4 a ∧
    LoadsAddress (.ldABol a b o16) s (.base b (BitVec.ofInt 32 o16.toInt)) 4 a ∧
    LoadsAddress (.ldASlr a b) s (.base b 0) 2 a ∧
    LoadsAddress (.ldASlrPostinc a b) s (.postInc b 4) 2 a ∧
    LoadsAddress (.ldASlro a o4) s (.base 15 (BitVec.ofNat 32 o4.toNat)) 2 a ∧
    LoadsAddress (.ldASro b o4) s (.base b (BitVec.ofNat 32 o4.toNat)) 2 15 ∧
    LoadsPair (.ldDAbs a o18) s (.abs o18) a ∧
    LoadsPair (.ldDBoShort a b o10) s (.base b (BitVec.ofInt 32 o10.toInt)) a ∧
    LoadsPair (.ldDBoPreinc a b o10) s (.preInc b (BitVec.ofInt 32 o10.toInt)) a ∧
    LoadsPair (.ldDBoPostinc a b o10) s (.postInc b (BitVec.ofInt 32 o10.toInt)) a ∧
    LoadsPair (.ldDBoCirc a b o10) s (.circ b o10) a ∧
    LoadsPair (.ldDBoBrev a b) s (.brev b) a ∧
    LoadsAddressPair (.ldDaAbs a o18) s (.abs o18) a ∧
    LoadsAddressPair (.ldDaBoShort a b o10) s (.base b (BitVec.ofInt 32 o10.toInt)) a ∧
    LoadsAddressPair (.ldDaBoPreinc a b o10) s (.preInc b (BitVec.ofInt 32 o10.toInt)) a ∧
    LoadsAddressPair (.ldDaBoPostinc a b o10) s (.postInc b (BitVec.ofInt 32 o10.toInt)) a ∧
    LoadsAddressPair (.ldDaBoCirc a b o10) s (.circ b o10) a ∧
    LoadsAddressPair (.ldDaBoBrev a b) s (.brev b) a ∧
    AlignTable.source.ldW = 2 ∧
    AlignTable.source.ldA = 4 ∧
    AlignTable.source.ldD = 2 ∧
    AlignTable.source.ldDa = 4

/-- ST.A, ST.B, ST.D, ST.DA, ST.H, ST.Q and ST.W in every mode: the bytes stored, the update, the frame, the trap taken.
Choices it rests on, of the spec (92, 93) and of the model (log): the order of the traps 92 D22 (log 20); the
default alignment table D7, any other one in its place (log 35); MPN D21, GRWP of the base update D18, OPD of an odd
pair D26 (log 36); BUS at the instruction D6 (log 25); the store to a device as one event and the ignored write (log
7); the kind at the first byte (log 5); the wrap of byte addresses (log 32); the signals (log 14). (R803, R814,
R815, R816, R817, R818, R819, R820, R846, R847, R848, R849) -/
def Obligations.Stores : Prop :=
  ∀ (s : State) (a b : Reg) (o4 : BitVec 4) (o10 : BitVec 10) (o16 : BitVec 16) (o18 : BitVec 18),
    StoreForm (.stBAbs a o18) s (.abs o18) [] s.cfg.align.stB 1 4
      ((s.getD a).toNat) ∧
    StoreForm (.stBBoShort a b o10) s (.base b (BitVec.ofInt 32 o10.toInt)) [] s.cfg.align.stB 1 4
      ((s.getD a).toNat) ∧
    StoreForm (.stBBoPreinc a b o10) s (.preInc b (BitVec.ofInt 32 o10.toInt)) [] s.cfg.align.stB 1 4
      ((s.getD a).toNat) ∧
    StoreForm (.stBBoPostinc a b o10) s (.postInc b (BitVec.ofInt 32 o10.toInt)) [] s.cfg.align.stB 1 4
      ((s.getD a).toNat) ∧
    StoreForm (.stBBoCirc a b o10) s (.circ b o10) [] s.cfg.align.stB 1 4
      ((s.getD a).toNat) ∧
    StoreForm (.stBBoBrev a b) s (.brev b) [] s.cfg.align.stB 1 4
      ((s.getD a).toNat) ∧
    StoreForm (.stBSsr a b) s (.base b 0) [] s.cfg.align.stB 1 2 ((s.getD a).toNat) ∧
    StoreForm (.stBSsrPostinc a b) s (.postInc b 1) [] s.cfg.align.stB 1 2 ((s.getD a).toNat) ∧
    StoreForm (.stBSsro a o4) s (.base 15 (BitVec.ofNat 32 o4.toNat)) [] s.cfg.align.stB 1 2 ((s.getD a).toNat) ∧
    StoreForm (.stBSro b o4) s (.base b (BitVec.ofNat 32 o4.toNat)) [] s.cfg.align.stB 1 2 ((s.getD 15).toNat) ∧
    StoreForm (.stHAbs a o18) s (.abs o18) [] s.cfg.align.stH 2 4
      ((s.getD a).toNat) ∧
    StoreForm (.stHBoShort a b o10) s (.base b (BitVec.ofInt 32 o10.toInt)) [] s.cfg.align.stH 2 4
      ((s.getD a).toNat) ∧
    StoreForm (.stHBoPreinc a b o10) s (.preInc b (BitVec.ofInt 32 o10.toInt)) [] s.cfg.align.stH 2 4
      ((s.getD a).toNat) ∧
    StoreForm (.stHBoPostinc a b o10) s (.postInc b (BitVec.ofInt 32 o10.toInt)) [] s.cfg.align.stH 2 4
      ((s.getD a).toNat) ∧
    StoreForm (.stHBoCirc a b o10) s (.circ b o10) [] s.cfg.align.stH 2 4
      ((s.getD a).toNat) ∧
    StoreForm (.stHBoBrev a b) s (.brev b) [] s.cfg.align.stH 2 4
      ((s.getD a).toNat) ∧
    StoreForm (.stHSsr a b) s (.base b 0) [] s.cfg.align.stH 2 2 ((s.getD a).toNat) ∧
    StoreForm (.stHSsrPostinc a b) s (.postInc b 2) [] s.cfg.align.stH 2 2 ((s.getD a).toNat) ∧
    StoreForm (.stHSsro a o4) s (.base 15 (BitVec.ofNat 32 o4.toNat)) [] s.cfg.align.stH 2 2 ((s.getD a).toNat) ∧
    StoreForm (.stHSro b o4) s (.base b (BitVec.ofNat 32 o4.toNat)) [] s.cfg.align.stH 2 2 ((s.getD 15).toNat) ∧
    StoreForm (.stQAbs a o18) s (.abs o18) [] s.cfg.align.stQ 2 4
      ((s.getD a).toNat / 2 ^ 16) ∧
    StoreForm (.stQBoShort a b o10) s (.base b (BitVec.ofInt 32 o10.toInt)) [] s.cfg.align.stQ 2 4
      ((s.getD a).toNat / 2 ^ 16) ∧
    StoreForm (.stQBoPreinc a b o10) s (.preInc b (BitVec.ofInt 32 o10.toInt)) [] s.cfg.align.stQ 2 4
      ((s.getD a).toNat / 2 ^ 16) ∧
    StoreForm (.stQBoPostinc a b o10) s (.postInc b (BitVec.ofInt 32 o10.toInt)) [] s.cfg.align.stQ 2 4
      ((s.getD a).toNat / 2 ^ 16) ∧
    StoreForm (.stQBoCirc a b o10) s (.circ b o10) [] s.cfg.align.stQ 2 4
      ((s.getD a).toNat / 2 ^ 16) ∧
    StoreForm (.stQBoBrev a b) s (.brev b) [] s.cfg.align.stQ 2 4
      ((s.getD a).toNat / 2 ^ 16) ∧
    StoreForm (.stWAbs a o18) s (.abs o18) [] s.cfg.align.stW 4 4
      ((s.getD a).toNat) ∧
    StoreForm (.stWBoShort a b o10) s (.base b (BitVec.ofInt 32 o10.toInt)) [] s.cfg.align.stW 4 4
      ((s.getD a).toNat) ∧
    StoreForm (.stWBoPreinc a b o10) s (.preInc b (BitVec.ofInt 32 o10.toInt)) [] s.cfg.align.stW 4 4
      ((s.getD a).toNat) ∧
    StoreForm (.stWBoPostinc a b o10) s (.postInc b (BitVec.ofInt 32 o10.toInt)) [] s.cfg.align.stW 4 4
      ((s.getD a).toNat) ∧
    StoreForm (.stWBoCirc a b o10) s (.circ b o10) [] s.cfg.align.stW 4 4
      ((s.getD a).toNat) ∧
    StoreForm (.stWBoBrev a b) s (.brev b) [] s.cfg.align.stW 4 4
      ((s.getD a).toNat) ∧
    StoreForm (.stWBol a b o16) s (.base b (BitVec.ofInt 32 o16.toInt)) [] s.cfg.align.stW 4 4
      ((s.getD a).toNat) ∧
    StoreForm (.stWSsr a b) s (.base b 0) [] s.cfg.align.stW 4 2 ((s.getD a).toNat) ∧
    StoreForm (.stWSsrPostinc a b) s (.postInc b 4) [] s.cfg.align.stW 4 2 ((s.getD a).toNat) ∧
    StoreForm (.stWSsro a o4) s (.base 15 (BitVec.ofNat 32 o4.toNat)) [] s.cfg.align.stW 4 2 ((s.getD a).toNat) ∧
    StoreForm (.stWSro b o4) s (.base b (BitVec.ofNat 32 o4.toNat)) [] s.cfg.align.stW 4 2 ((s.getD 15).toNat) ∧
    StoreForm (.stAAbs a o18) s (.abs o18) [] s.cfg.align.stA 4 4
      ((s.getA a).toNat) ∧
    StoreForm (.stABoShort a b o10) s (.base b (BitVec.ofInt 32 o10.toInt)) [] s.cfg.align.stA 4 4
      ((s.getA a).toNat) ∧
    StoreForm (.stABoPreinc a b o10) s (.preInc b (BitVec.ofInt 32 o10.toInt)) [] s.cfg.align.stA 4 4
      ((s.getA a).toNat) ∧
    StoreForm (.stABoPostinc a b o10) s (.postInc b (BitVec.ofInt 32 o10.toInt)) [] s.cfg.align.stA 4 4
      ((s.getA a).toNat) ∧
    StoreForm (.stABoCirc a b o10) s (.circ b o10) [] s.cfg.align.stA 4 4
      ((s.getA a).toNat) ∧
    StoreForm (.stABoBrev a b) s (.brev b) [] s.cfg.align.stA 4 4
      ((s.getA a).toNat) ∧
    StoreForm (.stASsr a b) s (.base b 0) [] s.cfg.align.stA 4 2 ((s.getA a).toNat) ∧
    StoreForm (.stASsrPostinc a b) s (.postInc b 4) [] s.cfg.align.stA 4 2 ((s.getA a).toNat) ∧
    StoreForm (.stASsro a o4) s (.base 15 (BitVec.ofNat 32 o4.toNat)) [] s.cfg.align.stA 4 2 ((s.getA a).toNat) ∧
    StoreForm (.stASro b o4) s (.base b (BitVec.ofNat 32 o4.toNat)) [] s.cfg.align.stA 4 2 ((s.getA 15).toNat) ∧
    StoreForm (.stDAbs a o18) s (.abs o18) [a] s.cfg.align.stD 8 4
      ((s.getD (a + 1)).toNat * 2 ^ 32 + (s.getD a).toNat) ∧
    StoreForm (.stDBoShort a b o10) s (.base b (BitVec.ofInt 32 o10.toInt)) [a] s.cfg.align.stD 8 4
      ((s.getD (a + 1)).toNat * 2 ^ 32 + (s.getD a).toNat) ∧
    StoreForm (.stDBoPreinc a b o10) s (.preInc b (BitVec.ofInt 32 o10.toInt)) [a] s.cfg.align.stD 8 4
      ((s.getD (a + 1)).toNat * 2 ^ 32 + (s.getD a).toNat) ∧
    StoreForm (.stDBoPostinc a b o10) s (.postInc b (BitVec.ofInt 32 o10.toInt)) [a] s.cfg.align.stD 8 4
      ((s.getD (a + 1)).toNat * 2 ^ 32 + (s.getD a).toNat) ∧
    StoreForm (.stDBoCirc a b o10) s (.circ b o10) [a] s.cfg.align.stD 8 4
      ((s.getD (a + 1)).toNat * 2 ^ 32 + (s.getD a).toNat) ∧
    StoreForm (.stDBoBrev a b) s (.brev b) [a] s.cfg.align.stD 8 4
      ((s.getD (a + 1)).toNat * 2 ^ 32 + (s.getD a).toNat) ∧
    StoreForm (.stDaAbs a o18) s (.abs o18) [a] s.cfg.align.stDa 8 4
      ((s.getA (a + 1)).toNat * 2 ^ 32 + (s.getA a).toNat) ∧
    StoreForm (.stDaBoShort a b o10) s (.base b (BitVec.ofInt 32 o10.toInt)) [a] s.cfg.align.stDa 8 4
      ((s.getA (a + 1)).toNat * 2 ^ 32 + (s.getA a).toNat) ∧
    StoreForm (.stDaBoPreinc a b o10) s (.preInc b (BitVec.ofInt 32 o10.toInt)) [a] s.cfg.align.stDa 8 4
      ((s.getA (a + 1)).toNat * 2 ^ 32 + (s.getA a).toNat) ∧
    StoreForm (.stDaBoPostinc a b o10) s (.postInc b (BitVec.ofInt 32 o10.toInt)) [a] s.cfg.align.stDa 8 4
      ((s.getA (a + 1)).toNat * 2 ^ 32 + (s.getA a).toNat) ∧
    StoreForm (.stDaBoCirc a b o10) s (.circ b o10) [a] s.cfg.align.stDa 8 4
      ((s.getA (a + 1)).toNat * 2 ^ 32 + (s.getA a).toNat) ∧
    StoreForm (.stDaBoBrev a b) s (.brev b) [a] s.cfg.align.stDa 8 4
      ((s.getA (a + 1)).toNat * 2 ^ 32 + (s.getA a).toNat) ∧
    AlignTable.source.stB = 1 ∧
    AlignTable.source.stH = 2 ∧
    AlignTable.source.stQ = 2 ∧
    AlignTable.source.stW = 2 ∧
    AlignTable.source.stA = 4 ∧
    AlignTable.source.stD = 2 ∧
    AlignTable.source.stDa = 4

/-- ST.T, LDMST, SWAP.W, SWAP.A and LEA in every mode: the bytes written, the registers, the frame, the trap taken.
Choices it rests on, of the spec (92, 93) and of the model (log): both permissions, MPR before MPW, and the order of
the traps 92 D22 (log 20); the default alignment table D7, any other one in its place (log 35); MPN D21, GRWP D18,
the old word over the updated base D23, OPD of an odd pair D26 (log 36); BUS at the instruction D6 (log 25); free
bytes (log 6); the device events and the ignored write (log 7); the kind at the first byte (log 5); the wrap of byte
addresses (log 32); the signals (log 14). (R803, R821, R822, R823, R824, R830, R182, R185, R143) -/
def Obligations.ReadModifyWriteAndLea : Prop :=
  ∀ (s : State) (a b : Reg) (o10 : BitVec 10) (o16 : BitVec 16) (o18 : BitVec 18) (b3 : BitVec 3) (b1 : BitVec 1),
    ModifiesData (.stTAbsb o18 b3 b1) s (.abs o18) [] s.cfg.align.stT 1 (fun v => withBit v b3.toNat b1.toNat) (fun _ t => DataKept s t) ∧
    ModifiesData (.ldmstAbs a o18) s (.abs o18) [a] s.cfg.align.ldmst 4
      (fun v => ((BitVec.ofNat 32 v &&& ~~~s.getD (a + 1)) ||| (s.getD a &&& s.getD (a + 1))).toNat)
      (fun _ t => DataKept s t) ∧
    ModifiesData (.ldmstBoShort a b o10) s (.base b (BitVec.ofInt 32 o10.toInt)) [a] s.cfg.align.ldmst 4
      (fun v => ((BitVec.ofNat 32 v &&& ~~~s.getD (a + 1)) ||| (s.getD a &&& s.getD (a + 1))).toNat)
      (fun _ t => DataKept s t) ∧
    ModifiesData (.ldmstBoPreinc a b o10) s (.preInc b (BitVec.ofInt 32 o10.toInt)) [a] s.cfg.align.ldmst 4
      (fun v => ((BitVec.ofNat 32 v &&& ~~~s.getD (a + 1)) ||| (s.getD a &&& s.getD (a + 1))).toNat)
      (fun _ t => DataKept s t) ∧
    ModifiesData (.ldmstBoPostinc a b o10) s (.postInc b (BitVec.ofInt 32 o10.toInt)) [a] s.cfg.align.ldmst 4
      (fun v => ((BitVec.ofNat 32 v &&& ~~~s.getD (a + 1)) ||| (s.getD a &&& s.getD (a + 1))).toNat)
      (fun _ t => DataKept s t) ∧
    ModifiesData (.ldmstBoCirc a b o10) s (.circ b o10) [a] s.cfg.align.ldmst 4
      (fun v => ((BitVec.ofNat 32 v &&& ~~~s.getD (a + 1)) ||| (s.getD a &&& s.getD (a + 1))).toNat)
      (fun _ t => DataKept s t) ∧
    ModifiesData (.ldmstBoBrev a b) s (.brev b) [a] s.cfg.align.ldmst 4
      (fun v => ((BitVec.ofNat 32 v &&& ~~~s.getD (a + 1)) ||| (s.getD a &&& s.getD (a + 1))).toNat)
      (fun _ t => DataKept s t) ∧
    ModifiesData (.swapWAbs a o18) s (.abs o18) [] s.cfg.align.swapW 4 (fun _ => (s.getD a).toNat)
      (fun v t => DataIs s t a (BitVec.ofNat 32 v)) ∧
    ModifiesData (.swapWBoShort a b o10) s (.base b (BitVec.ofInt 32 o10.toInt)) [] s.cfg.align.swapW 4 (fun _ => (s.getD a).toNat)
      (fun v t => DataIs s t a (BitVec.ofNat 32 v)) ∧
    ModifiesData (.swapWBoPreinc a b o10) s (.preInc b (BitVec.ofInt 32 o10.toInt)) [] s.cfg.align.swapW 4 (fun _ => (s.getD a).toNat)
      (fun v t => DataIs s t a (BitVec.ofNat 32 v)) ∧
    ModifiesData (.swapWBoPostinc a b o10) s (.postInc b (BitVec.ofInt 32 o10.toInt)) [] s.cfg.align.swapW 4 (fun _ => (s.getD a).toNat)
      (fun v t => DataIs s t a (BitVec.ofNat 32 v)) ∧
    ModifiesData (.swapWBoCirc a b o10) s (.circ b o10) [] s.cfg.align.swapW 4 (fun _ => (s.getD a).toNat)
      (fun v t => DataIs s t a (BitVec.ofNat 32 v)) ∧
    ModifiesData (.swapWBoBrev a b) s (.brev b) [] s.cfg.align.swapW 4 (fun _ => (s.getD a).toNat)
      (fun v t => DataIs s t a (BitVec.ofNat 32 v)) ∧
    SwapsAddress (.swapAAbs a o18) s (.abs o18) a ∧
    SwapsAddress (.swapABoShort a b o10) s (.base b (BitVec.ofInt 32 o10.toInt)) a ∧
    SwapsAddress (.swapABoPreinc a b o10) s (.preInc b (BitVec.ofInt 32 o10.toInt)) a ∧
    SwapsAddress (.swapABoPostinc a b o10) s (.postInc b (BitVec.ofInt 32 o10.toInt)) a ∧
    SwapsAddress (.swapABoCirc a b o10) s (.circ b o10) a ∧
    SwapsAddress (.swapABoBrev a b) s (.brev b) a ∧
    LeaForm (.leaAbs a o18) s (.abs o18) a ∧
    LeaForm (.leaBoShort a b o10) s (.base b (BitVec.ofInt 32 o10.toInt)) a ∧
    LeaForm (.leaBoPreinc a b o10) s (.preInc b (BitVec.ofInt 32 o10.toInt)) a ∧
    LeaForm (.leaBoPostinc a b o10) s (.postInc b (BitVec.ofInt 32 o10.toInt)) a ∧
    LeaForm (.leaBoCirc a b o10) s (.circ b o10) a ∧
    LeaForm (.leaBoBrev a b) s (.brev b) a ∧
    LeaForm (.leaBol a b o16) s (.base b (BitVec.ofInt 32 o16.toInt)) a ∧
    AlignTable.source.stT = 1 ∧
    AlignTable.source.ldmst = 2 ∧
    AlignTable.source.swapW = 2 ∧
    AlignTable.source.swapA = 4

/-- SVLCX, BISR and RSLCX: what is saved or restored and where, ICR, the lists, and PRIV, FCU, FCD, CSU, CTYP, MPP, MPR,
MPW, BUS. Choices it rests on, of the spec (92, 93) and of the model (log): BISR saves the old ICR 92 D34, CCPN and
IE recorded by every save D32, FCD after the operation D31, the order of the traps of RSLCX D4 (log 36); reserved
bits of PCXI D17 (log 29); MPR before MPW D22 (log 20); BUS at the instruction D6 (log 25); the layout of the CSA D3
(log 17); one access of 64 bytes (log 34); the signals (log 14); all that is said of a CSA that is no memory (log 8,
with 6 and 7). (R872, R873, R874, R966, R967, R968, R971) -/
def Obligations.LowerContextSaves : Prop :=
  ∀ (s : State) (k8 : BitVec 8) (k9 : BitVec 9),
    SaveLowerTo .svlcxSys s s.icr 4 ∧
    BisrTo (.bisrRc k9) s (BitVec.ofNat 8 k9.toNat) 4 ∧
    BisrTo (.bisrSc k8) s k8 2 ∧
    RestoreLowerTo .rslcxSys s

/-- STUCX, STLCX, LDUCX and LDLCX: the block at EA, the registers loaded, the frame, the trap taken. Choices it rests
on, of the spec (92, 93) and of the model (log): the layout of the words 92 D3 (log 17); the order of the traps D22
(log 20); no check for on-chip memory D35, MPN D21 (log 36); BUS at the instruction D6 (log 25); one access of 64
bytes (log 34); the device events and the ignored write (log 7); free bytes (log 6); the kind at the first byte (log
5); the wrap of byte addresses (log 32); the signals (log 14). (R875, R876, R877, R878, R879, R965) -/
def Obligations.ContextMemory : Prop :=
  ∀ (s : State) (b : Reg) (o10 : BitVec 10) (o18 : BitVec 18),
    StoreForm (.stucxAbs o18) s (.abs o18) [] 64 64 4 (wordsValue s.upperContext) ∧
    StoreForm (.stlcxAbs o18) s (.abs o18) [] 64 64 4 (wordsValue s.lowerContext) ∧
    LoadForm (.lducxAbs o18) s (.abs o18) [] [] 64 64 4
      (fun v t => UpperLoaded s t fun k => BitVec.ofNat 32 (v / 2 ^ (32 * k))) ∧
    LoadForm (.ldlcxAbs o18) s (.abs o18) [] [] 64 64 4
      (fun v t => LowerLoaded s t fun k => BitVec.ofNat 32 (v / 2 ^ (32 * k))) ∧
    StoreForm (.stucxBoShort b o10) s (.base b (BitVec.ofInt 32 o10.toInt)) [] 64 64 4 (wordsValue s.upperContext) ∧
    StoreForm (.stlcxBoShort b o10) s (.base b (BitVec.ofInt 32 o10.toInt)) [] 64 64 4 (wordsValue s.lowerContext) ∧
    LoadForm (.lducxBoShort b o10) s (.base b (BitVec.ofInt 32 o10.toInt)) [] [] 64 64 4
      (fun v t => UpperLoaded s t fun k => BitVec.ofNat 32 (v / 2 ^ (32 * k))) ∧
    LoadForm (.ldlcxBoShort b o10) s (.base b (BitVec.ofInt 32 o10.toInt)) [] [] 64 64 4
      (fun v t => LowerLoaded s t fun k => BitVec.ofNat 32 (v / 2 ^ (32 * k))) ∧
    LaidOut s.cfg.csaLayout.upper s.upperContext s.pcxi (upperSaved s) ∧
    LaidOut s.cfg.csaLayout.lower s.lowerContext s.pcxi (lowerSaved s)

/-- MFCR: the register at every offset, 0 where none stands, refusal of a non-aligned offset, and the frame. Choices it
rests on, of the spec (92, 93) and of the model (log): the offsets 92 D2 (log 16); 0 where no register is D20 (log
30); reserved bits read 0 D17 (log 29). (R900, R75, R76) -/
def Obligations.CoreRegisterRead : Prop :=
  ∀ (s : State) (c : Reg) (k16 : BitVec 16),
    (k16.toNat % 4 = 0 → ∀ r v, PlacedAt s.cfg k16.toNat r → CsfrHolds s r v → MovesTo (.mfcrRlc c k16) s c 4 v) ∧
    (k16.toNat % 4 = 0 → Unmapped s k16.toNat → MovesTo (.mfcrRlc c k16) s c 4 0) ∧
    (k16.toNat % 4 ≠ 0 → exec (.mfcrRlc c k16) s = .refused .unalignedCsfrOffset)

/-- MTCR: PRIV outside Supervisor; what a write leaves in every register, by its field rules; the frame. Choices it
rests on, of the spec (92, 93) and of the model (log): the offsets 92 D2 (log 16); no effect where no register is
D20 (log 30); reserved bits and the PC D17 (log 29); the bits ENDINIT locks D10 (log 22). (R901, R902, R75, R76,
R107, R124) -/
def Obligations.CoreRegisterWrite : Prop :=
  ∀ (s : State) (a : Reg) (k16 : BitVec 16),
    (Psw.io s.psw ≠ 2 → exec (.mtcrRlc k16 a) s = raise s .priv) ∧
    (Psw.io s.psw = 2 →
      (k16.toNat % 4 = 0 → ∀ r old, PlacedAt s.cfg k16.toNat r → CsfrHolds s r old →
        ∃ x u, Offered s k16.toNat old (s.getD a) x ∧ CsfrWritten s r x u ∧
          exec (.mtcrRlc k16 a) s = .next { u with pc := s.pc + 4 }) ∧
      (k16.toNat % 4 = 0 → Unmapped s k16.toNat →
        exec (.mtcrRlc k16 a) s = .next { s with pc := s.pc + 4 }) ∧
      (k16.toNat % 4 ≠ 0 → exec (.mtcrRlc k16 a) s = .refused .unalignedCsfrOffset))

/-- SYSCALL, TRAPV and TRAPSV: class, TIN and return address of the trap, and the untaken case. Choices it rests on, of
the spec (92, 93) and of the model (log): the number from const9[7:0] 92 D37, A10 from ISP on a trap D41, the flags
kept D42, the CSA not checked D39, CCPN and IE recorded D32, bit 0 of the entry address D19 (log 36); the layout of
the CSA D3 (log 17); what counts as memory for the CSA (log 8). (R885, R905, R906, R940, R941, R975) -/
def Obligations.SystemCallAndOverflowTraps : Prop :=
  ∀ (s : State) (k9 : BitVec 9),
    exec (.syscallRc k9) s = takeTrap s (.sys (BitVec.ofNat 8 k9.toNat)) (s.pc + 4) ∧
    (FreeArea s → ¬ AtLimit s → RunsTo (.syscallRc k9) s fun t => TrapEntered s t 6 (k9.toNat % 256) (s.pc + 4)) ∧
    (Psw.v s.psw = true → exec .trapvSys s = raise s .ovf) ∧
    (Psw.v s.psw = true → FreeArea s → ¬ AtLimit s → RunsTo .trapvSys s fun t => TrapEntered s t 5 1 s.pc) ∧
    (Psw.v s.psw = false → JumpsTo .trapvSys s (s.pc + 4)) ∧
    (Psw.sv s.psw = true → exec .trapsvSys s = raise s .sovf) ∧
    (Psw.sv s.psw = true → FreeArea s → ¬ AtLimit s → RunsTo .trapsvSys s fun t => TrapEntered s t 5 2 s.pc) ∧
    (Psw.sv s.psw = false → JumpsTo .trapsvSys s (s.pc + 4))

/-- NOP, DSYNC and ISYNC only advance the pc; RSTV clears V, SV, AV and SAV and nothing else. Choices it rests on, of
the spec (92, 93) and of the model (log): DSYNC and ISYNC change no state but the pc 92 D24 (log 26). (R895, R896,
R897, R903) -/
def Obligations.PlainSystemInstructions : Prop :=
  ∀ (s : State),
    JumpsTo .nopSys s (s.pc + 4) ∧
    JumpsTo .nopSr s (s.pc + 2) ∧
    JumpsTo .dsyncSys s (s.pc + 4) ∧
    JumpsTo .isyncSys s (s.pc + 4) ∧
    RunsTo .rstvSys s (fun t => DataKept s t ∧ AddressKept s t ∧
      (∀ k, 27 ≤ k → k < 31 → t.psw.getLsbD k = false) ∧
      (∀ k, ¬ (27 ≤ k ∧ k < 31) → t.psw.getLsbD k = s.psw.getLsbD k) ∧ t.pc = s.pc + 4 ∧ RestKept s t)

/-- ENABLE and DISABLE: PRIV at User-0, else ICR.IE and nothing else; DEBUG: a NOP, or one event to the host. Choices it
rests on, of the spec (92, 93) and of the model (log): PRIV of ENABLE and DISABLE at User-0 only 92 D33, DEBUG as a
NOP unless DEBUG_MODE D36 (log 36). (R890, R891, R910) -/
def Obligations.InterruptEnableAndDebug : Prop :=
  ∀ (s : State),
    (Psw.io s.psw = 0 → exec .enableSys s = raise s .priv) ∧
    (Psw.io s.psw = 1 ∨ Psw.io s.psw = 2 → RunsTo .enableSys s fun t => DataKept s t ∧ AddressKept s t ∧ t.psw = s.psw ∧
      ListsKept s t ∧ Icr.ie t.icr = true ∧ (∀ k, k ≠ 8 → t.icr.getLsbD k = s.icr.getLsbD k) ∧ SystemKept s t ∧
      MemoryKept s t ∧ t.env = s.env ∧ t.pc = s.pc + 4) ∧
    (Psw.io s.psw = 0 → exec .disableSys s = raise s .priv) ∧
    (Psw.io s.psw = 1 ∨ Psw.io s.psw = 2 → RunsTo .disableSys s fun t => DataKept s t ∧ AddressKept s t ∧ t.psw = s.psw ∧
      ListsKept s t ∧ Icr.ie t.icr = false ∧ (∀ k, k ≠ 8 → t.icr.getLsbD k = s.icr.getLsbD k) ∧ SystemKept s t ∧
      MemoryKept s t ∧ t.env = s.env ∧ t.pc = s.pc + 4) ∧
    (s.cfg.debugMode = false → JumpsTo .debugSys s (s.pc + 4)) ∧
    (s.cfg.debugMode = true → RunsTo .debugSys s fun t => DataKept s t ∧ AddressKept s t ∧ t.psw = s.psw ∧
      ListsKept s t ∧ t.icr = s.icr ∧ SystemKept s t ∧ MemoryKept s t ∧
      t.env = { s.env with outputs := .debugEvent s.pc :: s.env.outputs } ∧ t.pc = s.pc + 4) ∧
    (s.cfg.debugMode = false → JumpsTo .debugSr s (s.pc + 2)) ∧
    (s.cfg.debugMode = true → RunsTo .debugSr s fun t => DataKept s t ∧ AddressKept s t ∧ t.psw = s.psw ∧
      ListsKept s t ∧ t.icr = s.icr ∧ SystemKept s t ∧ MemoryKept s t ∧
      t.env = { s.env with outputs := .debugEvent s.pc :: s.env.outputs } ∧ t.pc = s.pc + 2)

/-- The state after reset: the values the spec's decision D5 fixes. (R136, R1021, R1022) -/
def Obligations.ResetValues : Prop :=
  State.reset.pc = State.reset.cfg.resetPc ∧
  State.reset.cfg.resetPc = State.reset.cfg.resetBtv ∧
  State.reset.psw = 0x00000B80 ∧
  Psw.io State.reset.psw = 2 ∧
  Psw.is State.reset.psw = true ∧
  Psw.gw State.reset.psw = true ∧
  HasCounter State.reset.psw 6 0 ∧
  State.reset.pcxi = 0 ∧
  State.reset.fcx = 0 ∧
  State.reset.csfr.lcx = 0 ∧
  State.reset.icr = 0 ∧
  State.reset.csfr.isp = State.reset.cfg.resetIsp ∧
  State.reset.csfr.biv = State.reset.cfg.resetBiv ∧
  State.reset.csfr.btv = State.reset.cfg.resetBtv ∧
  State.reset.csfr.syscon.getLsbD 0 = false ∧
  State.reset.csfr.syscon.getLsbD 1 = false ∧
  State.reset.getD 15 = 0 ∧
  State.reset.env.nmiPending = false ∧
  State.reset.env.trapsPending = []

/-- The state after reset satisfies the invariant. Choices it rests on, of the spec (92, 93) and of the model (log): the
reset values 92 D5 (log 1, 2 and 3). (R136) -/
def Obligations.ResetSatisfiesInvariant : Prop :=
  Inv State.reset

/-- Every step keeps the invariant. Choices it rests on, of the spec (92, 93) and of the model (log): the reserved bits
92 D17 (log 29); bit 0 of every target D19 (log 36). (R53, R58, R74, R81, R83, R95, R105, R124, R145) -/
def Obligations.StepKeepsInvariant : Prop :=
  ∀ s t : State, Inv s → step s = .next t → Inv t

/-- Nine words of the spec's encoding vectors decode to the instructions it gives for them. Choices it rests on, of the
spec (92, 93) and of the model (log): the opcode map 92 D1 (log 15). (R207, R208, R221, R233) -/
def Obligations.DecodeWords : Prop :=
  decodeTableWord 32 0x0010D107 = some (.ldWAbs 1 0x34010) ∧
  decodeTableWord 32 0x08042133 = some (.ldWBol 1 2 0x8004) ∧
  decodeTableWord 32 0xF03C212D = some (.ldWBoShort 1 2 0x3FC) ∧
  decodeTableWord 32 0x0404222B = some (.ldABoPostinc 2 2 4) ∧
  decodeTableWord 32 0x0010D70F = some (.stTAbsb 0x34010 7 0) ∧
  decodeTableWord 32 0x3FFFF06B = some (.movRlc 3 0xFFFF) ∧
  decodeTableWord 16 0x8168 = some (.movSrc 1 8) ∧
  decodeTableWord 16 0x2148 = some (.ldWSlrPostinc 1 2) ∧
  decodeTableWord 16 0x43CA = some (.stWSsro 3 4)

/-- Decoding the bytes of an encoded instruction gives the instruction and the bytes after it. Choices it rests on, of
the spec (92, 93) and of the model (log): the opcode map 92 D1 (log 15). (R207, R208, R210, R221, R233) -/
def Obligations.DecodeEncode : Prop :=
  ∀ (i : Instr) (rest : List Byte), decodeBytes (encodeBytes i ++ rest) = .ok (i, rest)

/-- Bit 0 of an instruction word tells its length; length, decoding and encoding by any other legal opcode map. Choices
it rests on, of the spec (92, 93) and of the model (log): the default opcode map 92 D1, and the form of any other
one (log 15). (R201, R230, R231, R233) -/
def Obligations.DecodedLength : Prop :=
  (∀ (w : Word) (i : Instr), decodeWord w = .ok i → (encodeBytes i).length = if w.getLsbD 0 then 4 else 2) ∧
  (∀ (w v : Word), w.getLsbD 0 = false → v.toNat % 2 ^ 16 = w.toNat % 2 ^ 16 → decodeWord v = decodeWord w) ∧
  (∀ (m : OpcodeMap) (i : Instr) (w : Word), LegalMap m → encodeBy (some m) i = some w → decodeBy (some m) w = .ok i) ∧
  ∀ (m : OpcodeMap) (i : Instr) (w : Word), LegalMap m → decodeBy (some m) w = .ok i →
    (encodeBytes i).length = lengthBy (some m) w

/-- A step runs the decoded instruction. Choices it rests on, of the spec (92, 93) and of the model (log): the order of
the boundary 92 D13, D14 (log 12, 36) and D38 (log 36); the fetch judged at pc with all four bytes read there (log
33); free bytes (log 6); the signals of the fetch (log 14); the default opcode map D1 (log 15). (R979, R980, R201,
R185) -/
def Obligations.StepRunsDecoded : Prop :=
  ∀ (s u : State) (i : Instr), Presented s u → NoEntry u → FetchOk u →
    decodeBy u.cfg.opcodeMap (wordFetched u) = .ok i → ¬ MarkedUnimplemented u (wordFetched u) →
    step s = exec i (fetchedState u)

/-- MPX, MEM, BUS, IOPC and UOPC of the fetch and decode of an instruction, in their order. Choices it rests on, of the
spec (92, 93) and of the model (log): the order MPX, MEM, BUS 92 D22 (log 20); BUS at the instruction D6 (log 25);
IOPC and UOPC D26, after the fetch D38 (log 36); the fetch judged at pc (log 33); free bytes (log 6); the marks of
UOPC (log 21); the signals of the fetch (log 14); the default opcode map D1 (log 15). (R150, R154, R183, R185, R235,
R937, R980) -/
def Obligations.FetchAndDecodeTraps : Prop :=
  ∀ (s u : State) (i : Instr) (e : DecodeError), Presented s u → NoEntry u →
    (0xE0000000 ≤ u.pc.toNat → step s = raise u .mpx) ∧
    (InCsfrArea u.pc → step s = raise u .mem) ∧
    (u.pc.toNat < 0xE0000000 → ¬ InCsfrArea u.pc → ¬ FetchInRange u → step s = raise u .mpx) ∧
    (u.pc.toNat < 0x30000000 → ¬ InCsfrArea u.pc → FetchInRange u → memKind u.cfg u.pc = none →
      step s = raise u (.bus .bus)) ∧
    (FetchOk u → decodeBy u.cfg.opcodeMap (wordFetched u) = .error e → step s = raise (fetchedState u) .iopc) ∧
    (FetchOk u → decodeBy u.cfg.opcodeMap (wordFetched u) = .ok i → MarkedUnimplemented u (wordFetched u) →
      step s = raise (fetchedState u) .uopc)

/-- The entry at a boundary: NMI, then the oldest class 4 trap, then the interrupt, with what the interrupt entry does.
Choices it rests on, of the spec (92, 93) and of the model (log): NMI, then class 4, then interrupt, one entry a
boundary 92 D13, FCD after the entry D31, CCPN and IE recorded D32, the flags kept D42, the CSA not checked D39, bit
0 of the entry address D19 (log 36); the lists of what is presented and pending (log 12); the layout of the CSA D3
(log 17); what counts as memory for the CSA, and the stuck machine (log 8, 93 U7); an entry of FCD that is at the
limit again is that of TrapEntry (log 9). (R939, R942, R960, R964, R967, R971, R976, R979) -/
def Obligations.BoundaryEntries : Prop :=
  ∀ s u : State, Presented s u →
    (u.env.nmiPending = true →
      step s = takeTrap { u with env := { u.env with nmiPending := false } } .nmi u.pc) ∧
    (∀ c rest, u.env.nmiPending = false → u.env.trapsPending = c :: rest →
      step s = takeTrap { u with env := { u.env with trapsPending := rest } } (.bus c) u.pc) ∧
    (u.env.nmiPending = false → u.env.trapsPending = [] → InterruptAccepted u →
      (FreeArea u → ¬ AtLimit u → ∃ t, step s = .next t ∧ InterruptEntered u t) ∧
      (FreeArea u → AtLimit u → ∃ t, InterruptEntered u t ∧ step s = takeTrap t .fcd t.pc) ∧
      (¬ FreeArea u → step s = .fault .stuckContextEntry))

/-- What the host presents before a step: bus writes in order, PIPN, NMI and a class 4 trap. Choices it rests on, of the
spec (92, 93) and of the model (log): the events come between instructions 92 D14 in the form of log 12; the field
rules of a bus write to a CSFR (log 13), with the offsets D2 (log 16), no register D20 (log 30), reserved bits and
the PC D17 (log 29), ENDINIT D10 (log 22); a byte where no storage stands changes nothing (log 31). (R77, R152,
R902, R960, R979) -/
def Obligations.HostEvents : Prop :=
  (∀ s : State, s.env.inputs = [] → s.takeInput = s) ∧
  (∀ (s : State) (x : HostInput) (rest : List HostInput), s.env.inputs = x :: rest → x.writes = [] →
    s.takeInput = { s with
      icr := match x.pipn with
        | none => s.icr
        | some p => (s.icr &&& 0xFF00FFFF) ||| BitVec.ofNat 32 (p.toNat * 2 ^ 16)
      env := { s.env with
        inputs := rest
        nmiPending := x.nmi || s.env.nmiPending
        trapsPending := s.env.trapsPending ++ x.busTrap.toList } }) ∧
  (∀ (s : State) (x : HostInput) (rest : List HostInput) (b : BusWrite) (l : List BusWrite),
    s.env.inputs = x :: rest → x.writes = b :: l →
    s.takeInput = ({ s.busWrite b with env := { s.env with inputs := { x with writes := l } :: rest } }).takeInput) ∧
  (∀ (s : State) (a : Word) (v : Byte),
    ∃ m, s.busWrite (.byte a v) = { s with mem := m } ∧
      (memKind s.cfg a = some .storage → (∀ y, y ≠ a.toNat → Memory.read m y = Memory.read s.mem y) ∧
        (Memory.wf s.mem = true → Memory.read m a.toNat = v)) ∧
      (memKind s.cfg a ≠ some .storage → m = s.mem)) ∧
  (∀ (s : State) (v : Word) (k : BitVec 16),
    (k.toNat % 4 = 0 → ∀ r old, PlacedAt s.cfg k.toNat r → CsfrHolds s r old →
      ∃ x, Offered s k.toNat old v x ∧ CsfrWritten s r x (s.busWrite (.csfr k v))) ∧
    (k.toNat % 4 = 0 → Unmapped s k.toNat → s.busWrite (.csfr k v) = s) ∧
    (k.toNat % 4 ≠ 0 → s.busWrite (.csfr k v) = s))

/-- A reset presented before a step: the registers, the pc, the memory, what is dropped and what stays. Choices it rests
on, of the spec (92, 93) and of the model (log): the reset values 92 D5 (log 3); that PIPN, the memory, the
parameters and the rest of the boundary stay (log 27). (R107, R136, R1020, R1022) -/
def Obligations.ResetEvent : Prop :=
  ∀ s u : State, s.resetPresented = true → u = s.takeInput → ∃ t, step s = .next t ∧
    t.pc = u.cfg.resetPc ∧ t.psw = 0x00000B80 ∧ t.pcxi = 0 ∧ t.fcx = 0 ∧ t.csfr.lcx = 0 ∧ t.csfr.syscon = 0 ∧
    t.icr = u.icr &&& 0x00FF0000 ∧ t.csfr.isp = u.cfg.resetIsp ∧ t.csfr.biv = u.cfg.resetBiv ∧
    t.csfr.btv = u.cfg.resetBtv ∧ t.getD 15 = 0 ∧ t.cfg = u.cfg ∧ MemoryKept u t ∧
    t.env = { u.env with nmiPending := false, trapsPending := [] }

/-- A state with PSW.IO = 11 has no successor but a reset. Choices it rests on, of the spec (92, 93) and of the model
(log): no successor 93 U3; that this comes before an NMI or any other entry and that a reset is made all the same
(log 11). (R994) -/
def Obligations.ReservedIoRefused : Prop :=
  ∀ s : State, s.resetPresented = false → Psw.io s.takeInput.psw = 3 → step s = .refused .reservedIoLevel

/-- Taking a trap: class, number, entry address, what is saved, the default state, the limit CSA, and the stuck machine.
Choices it rests on, of the spec (92, 93) and of the model (log): FCD after the save 92 D31, CCPN and IE recorded
D32, the CSA not checked D39, A10 from ISP on a trap D41, the flags kept D42, bit 0 of the entry address D19 (log
36); the layout of the CSA D3 (log 17); the stuck machine where no memory is 93 U7 (log 8); entries of FCD at the
limit again (log 9). (R936, R937, R938, R939, R940, R941, R942, R963, R966, R967, R971, R975) -/
def Obligations.TrapEntry : Prop :=
  ∀ (s : State) (ret : Word) (n : BitVec 8) (x : Trap) (cls tin : Nat),
    (x, cls, tin) ∈ trapTable ∨ (x = .sys n ∧ cls = 6 ∧ tin = n.toNat) →
    (FreeArea s → ¬ AtLimit s → ∃ t, takeTrap s x ret = .next t ∧ TrapEntered s t cls tin ret) ∧
    (FreeArea s → AtLimit s → ∃ t, TrapEntered s t cls tin ret ∧
      (FreeArea t → ¬ AtLimit t → ∃ v, takeTrap s x ret = .next v ∧ TrapEntered t v 3 1 t.pc) ∧
      (FreeArea t → AtLimit t → ∃ v, TrapEntered t v 3 1 t.pc ∧
        (FreeArea v → ¬ AtLimit v → ∃ w, takeTrap s x ret = .next w ∧ TrapEntered v w 3 1 v.pc) ∧
        (FreeArea v → AtLimit v → takeTrap s x ret = .fault .endlessDepletion) ∧
        (¬ FreeArea v → takeTrap s x ret = .fault .stuckContextEntry)) ∧
      (¬ FreeArea t → takeTrap s x ret = .fault .stuckContextEntry)) ∧
    (¬ FreeArea s → takeTrap s x ret = .fault .stuckContextEntry)

/-- OPD for an odd pair operand of every register instruction. Choices it rests on, of the spec (92, 93) and of the
model (log): OPD of an odd pair 92 D26 (log 36); the refusal of n of 2 or 3 first (log 10). (R226, R500, R937, R980) -/
def Obligations.OddPairTraps : Prop :=
  ∀ (s : State) (c d a b : Reg) (k4 : BitVec 4) (k9 : BitVec 9) (n : BitVec 2) (p w : BitVec 5),
    (IsOdd c → exec (.mulmURc c a k9) s = raise s .opd) ∧
    (IsOdd c → exec (.mulmRc c a k9) s = raise s .opd) ∧
    (IsOdd c → exec (.imaskRcpw c k4 p w) s = raise s .opd) ∧
    (IsOdd c ∨ IsOdd d → exec (.maddmURcr c d a k9) s = raise s .opd) ∧
    (IsOdd c ∨ IsOdd d → exec (.maddmsURcr c d a k9) s = raise s .opd) ∧
    (IsOdd c ∨ IsOdd d → exec (.maddmsRcr c d a k9) s = raise s .opd) ∧
    (IsOdd c ∨ IsOdd d → exec (.maddmRcr c d a k9) s = raise s .opd) ∧
    (IsOdd c ∨ IsOdd d → exec (.msubmURcr c d a k9) s = raise s .opd) ∧
    (IsOdd c ∨ IsOdd d → exec (.msubmsURcr c d a k9) s = raise s .opd) ∧
    (IsOdd c ∨ IsOdd d → exec (.msubmsRcr c d a k9) s = raise s .opd) ∧
    (IsOdd c ∨ IsOdd d → exec (.msubmRcr c d a k9) s = raise s .opd) ∧
    (IsOdd d → exec (.insertRcrr c a k4 d) s = raise s .opd) ∧
    (IsOdd c → exec (.imaskRcrw c k4 d w) s = raise s .opd) ∧
    (IsOdd c → exec (.dvinitBuRr c a b) s = raise s .opd) ∧
    (IsOdd c → exec (.dvinitBRr c a b) s = raise s .opd) ∧
    (IsOdd c → exec (.dvinitHuRr c a b) s = raise s .opd) ∧
    (IsOdd c → exec (.dvinitHRr c a b) s = raise s .opd) ∧
    (IsOdd c → exec (.dvinitURr c a b) s = raise s .opd) ∧
    (IsOdd c → exec (.dvinitRr c a b) s = raise s .opd) ∧
    (n.toNat ≤ 1 → IsOdd c → exec (.mulHRr c a b n) s = raise s .opd) ∧
    (IsOdd c → exec (.mulmURr c a b) s = raise s .opd) ∧
    (IsOdd c → exec (.mulmRr c a b) s = raise s .opd) ∧
    (IsOdd c → exec (.imaskRrpw c b p w) s = raise s .opd) ∧
    (IsOdd c ∨ IsOdd d → exec (.dvadjRrr c d b) s = raise s .opd) ∧
    (IsOdd c ∨ IsOdd d → exec (.dvstepURrr c d b) s = raise s .opd) ∧
    (IsOdd c ∨ IsOdd d → exec (.dvstepRrr c d b) s = raise s .opd) ∧
    (n.toNat ≤ 1 → IsOdd c ∨ IsOdd d → exec (.maddHRrr c d a b n) s = raise s .opd) ∧
    (IsOdd c ∨ IsOdd d → exec (.maddmHRrr c d a b) s = raise s .opd) ∧
    (IsOdd c ∨ IsOdd d → exec (.maddmQRrr c d a b) s = raise s .opd) ∧
    (IsOdd c ∨ IsOdd d → exec (.maddmURrr c d a b) s = raise s .opd) ∧
    (IsOdd c ∨ IsOdd d → exec (.maddmsURrr c d a b) s = raise s .opd) ∧
    (IsOdd c ∨ IsOdd d → exec (.maddmsRrr c d a b) s = raise s .opd) ∧
    (IsOdd c ∨ IsOdd d → exec (.maddmRrr c d a b) s = raise s .opd) ∧
    (n.toNat ≤ 1 → IsOdd d → exec (.maddrHRrr c d a b n) s = raise s .opd) ∧
    (n.toNat ≤ 1 → IsOdd d → exec (.maddrsHRrr c d a b n) s = raise s .opd) ∧
    (n.toNat ≤ 1 → IsOdd c ∨ IsOdd d → exec (.maddsHRrr c d a b n) s = raise s .opd) ∧
    (n.toNat ≤ 1 → IsOdd c ∨ IsOdd d → exec (.msubHRrr c d a b n) s = raise s .opd) ∧
    (IsOdd c ∨ IsOdd d → exec (.msubmHRrr c d a b) s = raise s .opd) ∧
    (IsOdd c ∨ IsOdd d → exec (.msubmQRrr c d a b) s = raise s .opd) ∧
    (IsOdd c ∨ IsOdd d → exec (.msubmURrr c d a b) s = raise s .opd) ∧
    (IsOdd c ∨ IsOdd d → exec (.msubmsURrr c d a b) s = raise s .opd) ∧
    (IsOdd c ∨ IsOdd d → exec (.msubmsRrr c d a b) s = raise s .opd) ∧
    (IsOdd c ∨ IsOdd d → exec (.msubmRrr c d a b) s = raise s .opd) ∧
    (n.toNat ≤ 1 → IsOdd d → exec (.msubrHRrr c d a b n) s = raise s .opd) ∧
    (n.toNat ≤ 1 → IsOdd d → exec (.msubrsHRrr c d a b n) s = raise s .opd) ∧
    (n.toNat ≤ 1 → IsOdd c ∨ IsOdd d → exec (.msubsHRrr c d a b n) s = raise s .opd) ∧
    (IsOdd d → exec (.extrURrrr c a d) s = raise s .opd) ∧
    (IsOdd d → exec (.extrRrrr c a d) s = raise s .opd) ∧
    (IsOdd d → exec (.insertRrrr c a b d) s = raise s .opd) ∧
    (IsOdd c → exec (.imaskRrrw c b d w) s = raise s .opd) ∧
    (IsOdd a → exec (.dvadjSrr a b) s = raise s .opd) ∧
    (IsOdd a → exec (.dvstepUSrr a b) s = raise s .opd) ∧
    (IsOdd a → exec (.dvstepSrr a b) s = raise s .opd)

/-- No instruction but MTCR changes LCX, ISP, the vector bases, SYSCON, the debug registers, the ranges or the
parameters. (R76, R83, R90, R901, R902, R991) -/
def Obligations.OnlyMtcrWritesSystemRegisters : Prop :=
  ∀ (i : Instr) (s t : State), (Psw.io s.psw = 2 → ∀ k a, i ≠ .mtcrRlc k a) → exec i s = .next t → SystemKept s t
end

