-- ==== Sys2Proof/Laws/Flags.lean ====
section
/-! SUPPORT. Laws/Flags.lean: the bits of a word after a bit or a field is replaced, the five flags after each update of the PSW, and the results that carry them. -/

namespace Sys2Proof.Machine

open Sys2Proof

/-! ## Bits and fields -/

theorem getLsbD_setBit (x : Word) (i : Nat) (b : Bool) (k : Nat) (hi : i < 32) :
    (setBit x i b).getLsbD k = if k = i then b else x.getLsbD k := by
  unfold setBit
  by_cases hk : k = i
  · subst hk
    cases b <;> simp [hi]
  · cases b
    · by_cases h32 : k < 32
      · simp [hk, h32]
      · simp [hk, BitVec.getLsbD_of_ge x k (by omega)]
    · simp [hk, BitVec.getLsbD_twoPow, Ne.symm hk]

theorem getLsbD_setField (x : Word) (lo n : Nat) (v : BitVec n) (k : Nat) (h : lo + n ≤ 32) :
    (setField x lo n v).getLsbD k = if lo ≤ k ∧ k < lo + n then v.getLsbD (k - lo) else x.getLsbD k := by
  unfold setField
  by_cases hk : k < 32
  · by_cases h1 : lo ≤ k
    · by_cases h2 : k < lo + n
      · have : k - lo < n := by omega
        simp [h1, h2, hk, this, Nat.not_lt.2 h1]
      · have : ¬ k - lo < n := by omega
        simp [h1, h2, hk, this, Nat.not_lt.2 h1, BitVec.getLsbD_of_ge v (k - lo) (by omega)]
    · simp [h1, hk, Nat.lt_of_not_le h1]
  · have : ¬ (lo ≤ k ∧ k < lo + n) := by omega
    simp [this, BitVec.getLsbD_of_ge x k (by omega), hk]

/-! ## The flags after each update of the PSW -/

theorem Psw.getLsbD_setOverflow (p : Word) (v av : Bool) (k : Nat) :
    (Psw.setOverflow p v av).getLsbD k =
      if k = 27 then av || Psw.sav p else if k = 28 then av else if k = 29 then v || Psw.sv p
      else if k = 30 then v else p.getLsbD k := by
  unfold Psw.setOverflow
  rw [getLsbD_setBit _ _ _ _ (by omega), getLsbD_setBit _ _ _ _ (by omega), getLsbD_setBit _ _ _ _ (by omega),
    getLsbD_setBit _ _ _ _ (by omega)]

@[simp] theorem Psw.c_setOverflow (p : Word) (v av : Bool) : Psw.c (Psw.setOverflow p v av) = Psw.c p := by
  rw [Psw.c, Psw.getLsbD_setOverflow]; rfl
@[simp] theorem Psw.v_setOverflow (p : Word) (v av : Bool) : Psw.v (Psw.setOverflow p v av) = v := by
  rw [Psw.v, Psw.getLsbD_setOverflow]; rfl
@[simp] theorem Psw.sv_setOverflow (p : Word) (v av : Bool) : Psw.sv (Psw.setOverflow p v av) = (v || Psw.sv p) := by
  rw [Psw.sv, Psw.getLsbD_setOverflow]; rfl
@[simp] theorem Psw.av_setOverflow (p : Word) (v av : Bool) : Psw.av (Psw.setOverflow p v av) = av := by
  rw [Psw.av, Psw.getLsbD_setOverflow]; rfl
@[simp] theorem Psw.sav_setOverflow (p : Word) (v av : Bool) :
    Psw.sav (Psw.setOverflow p v av) = (av || Psw.sav p) := by
  rw [Psw.sav, Psw.getLsbD_setOverflow]; rfl

theorem Psw.getLsbD_setOverflow_low (p : Word) (v av : Bool) {k : Nat} (hk : k < 27) :
    (Psw.setOverflow p v av).getLsbD k = p.getLsbD k := by
  rw [Psw.getLsbD_setOverflow, if_neg (by omega), if_neg (by omega), if_neg (by omega), if_neg (by omega)]

theorem Psw.getLsbD_setC (p : Word) (b : Bool) (k : Nat) :
    (Psw.setC p b).getLsbD k = if k = 31 then b else p.getLsbD k := getLsbD_setBit p 31 b k (by omega)

@[simp] theorem Psw.c_setC (p : Word) (b : Bool) : Psw.c (Psw.setC p b) = b := by
  rw [Psw.c, Psw.getLsbD_setC]; rfl
@[simp] theorem Psw.v_setC (p : Word) (b : Bool) : Psw.v (Psw.setC p b) = Psw.v p := by
  rw [Psw.v, Psw.getLsbD_setC]; rfl
@[simp] theorem Psw.sv_setC (p : Word) (b : Bool) : Psw.sv (Psw.setC p b) = Psw.sv p := by
  rw [Psw.sv, Psw.getLsbD_setC]; rfl
@[simp] theorem Psw.av_setC (p : Word) (b : Bool) : Psw.av (Psw.setC p b) = Psw.av p := by
  rw [Psw.av, Psw.getLsbD_setC]; rfl
@[simp] theorem Psw.sav_setC (p : Word) (b : Bool) : Psw.sav (Psw.setC p b) = Psw.sav p := by
  rw [Psw.sav, Psw.getLsbD_setC]; rfl

theorem Psw.getLsbD_setV (p : Word) (v : Bool) (k : Nat) :
    (Psw.setV p v).getLsbD k = if k = 29 then v || Psw.sv p else if k = 30 then v else p.getLsbD k := by
  unfold Psw.setV
  rw [getLsbD_setBit _ _ _ _ (by omega), getLsbD_setBit _ _ _ _ (by omega)]

theorem Psw.getLsbD_clearOverflow (p : Word) (k : Nat) :
    (Psw.clearOverflow p).getLsbD k = if 27 ≤ k ∧ k ≤ 30 then false else p.getLsbD k := by
  unfold Psw.clearOverflow
  rw [getLsbD_setBit _ _ _ _ (by omega), getLsbD_setBit _ _ _ _ (by omega), getLsbD_setBit _ _ _ _ (by omega),
    getLsbD_setBit _ _ _ _ (by omega)]
  by_cases h : 27 ≤ k ∧ k ≤ 30
  · rw [if_pos h]
    have : k = 27 ∨ k = 28 ∨ k = 29 ∨ k = 30 := by omega
    rcases this with h | h | h | h <;> subst h <;> rfl
  · rw [if_neg h, if_neg (by omega), if_neg (by omega), if_neg (by omega), if_neg (by omega)]

/-- The PSW an entry makes keeps the five flags and has its default below (60 R963). -/
theorem Psw.getLsbD_entry (p : Word) (k : Nat) :
    (Psw.entry p).getLsbD k = if 27 ≤ k then p.getLsbD k else (0xB80 : Word).getLsbD k := by
  unfold Psw.entry
  by_cases h32 : k < 32
  · interval_cases k <;> simp
  · simp [BitVec.getLsbD_of_ge _ k (show 32 ≤ k by omega), show 27 ≤ k by omega]

/-! ## The results with flags -/

@[simp] theorem signedResult_value (n : Nat) (r : Int) : (signedResult n r).value = BitVec.ofInt n r := rfl
@[simp] theorem signedResult_v (n : Nat) (r : Int) : (signedResult n r).v = overflowSigned n r := rfl
@[simp] theorem signedResult_av (n : Nat) (r : Int) : (signedResult n r).av = advOverflow (BitVec.ofInt n r) := rfl
@[simp] theorem signedSatResult_value (n : Nat) (r : Int) :
    (signedSatResult n r).value = BitVec.ofInt n (ssov n r) := rfl
@[simp] theorem signedSatResult_v (n : Nat) (r : Int) : (signedSatResult n r).v = overflowSigned n r := rfl
@[simp] theorem signedSatResult_av (n : Nat) (r : Int) :
    (signedSatResult n r).av = advOverflow (BitVec.ofInt n (ssov n r)) := rfl
@[simp] theorem unsignedResult_value (n : Nat) (r : Int) : (unsignedResult n r).value = BitVec.ofInt n r := rfl
@[simp] theorem unsignedResult_v (n : Nat) (r : Int) : (unsignedResult n r).v = overflowUnsigned n r := rfl
@[simp] theorem unsignedResult_av (n : Nat) (r : Int) :
    (unsignedResult n r).av = advOverflow (BitVec.ofInt n r) := rfl
@[simp] theorem unsignedSatResult_value (n : Nat) (r : Int) :
    (unsignedSatResult n r).value = BitVec.ofInt n (suov n r) := rfl
@[simp] theorem unsignedSatResult_v (n : Nat) (r : Int) : (unsignedSatResult n r).v = overflowUnsigned n r := rfl
@[simp] theorem unsignedSatResult_av (n : Nat) (r : Int) :
    (unsignedSatResult n r).av = advOverflow (BitVec.ofInt n (suov n r)) := rfl

theorem overflowSigned_iff (n : Nat) (r : Int) :
    overflowSigned n r = true ↔ r < -(2 ^ (n - 1)) ∨ 2 ^ (n - 1) ≤ r := by
  simp only [overflowSigned, decide_eq_true_eq]
  omega

theorem overflowUnsigned_iff (n : Nat) (r : Int) : overflowUnsigned n r = true ↔ r < 0 ∨ 2 ^ n ≤ r := by
  simp only [overflowUnsigned, decide_eq_true_eq]
  omega

theorem advOverflow_iff {n : Nat} (x : BitVec n) :
    advOverflow x = true ↔ x.getLsbD (n - 1) ≠ x.getLsbD (n - 2) := by
  simp [advOverflow]

/-- Signed saturation is the nearest number of the range (00 R28). -/
theorem ssov_eq_clamp (n : Nat) (r : Int) :
    ssov n r = max (-(2 ^ (n - 1))) (min r (2 ^ (n - 1) - 1)) := by
  have : (0 : Int) < 2 ^ (n - 1) := by positivity
  unfold ssov
  split_ifs <;> omega

/-- Unsigned saturation is the nearest number of the range (00 R28). -/
theorem suov_eq_clamp (n : Nat) (r : Int) : suov n r = max 0 (min r (2 ^ n - 1)) := by
  have : (0 : Int) < 2 ^ n := by positivity
  unfold suov
  split_ifs <;> omega

/-- Signed saturation stays in the range. -/
theorem ssov_range (n : Nat) (r : Int) : -(2 ^ (n - 1)) ≤ ssov n r ∧ ssov n r ≤ 2 ^ (n - 1) - 1 := by
  have : (0 : Int) < 2 ^ (n - 1) := by positivity
  rw [ssov_eq_clamp]
  omega

/-- Unsigned saturation stays in the range. -/
theorem suov_range (n : Nat) (r : Int) : 0 ≤ suov n r ∧ suov n r ≤ 2 ^ n - 1 := by
  have : (0 : Int) < 2 ^ n := by positivity
  rw [suov_eq_clamp]
  omega

end Sys2Proof.Machine
end

