-- ==== Sys2Proof/Laws/Memory.lean ====
section
/-! SUPPORT. Laws/Memory.lean: the laws of the memory: every write keeps the canonical form, a read after a write gives the value written, other addresses keep theirs, and equal reads make equal memories. -/

namespace Sys2Proof.Machine

open Sys2Proof

/-! ## The canonical form -/

theorem Memory.wfFrom_cons {lo b : Nat} {v : Byte} {rest : List Host.Cell} :
    Memory.wfFrom lo ((b, v) :: rest) = true ↔
      lo ≤ b ∧ b < 2 ^ 32 ∧ v ≠ Memory.unlisted ∧ Memory.wfFrom (b + 1) rest = true := by
  simp [Memory.wfFrom, and_assoc]

theorem Memory.wfFrom_mono {lo lo' : Nat} (h : lo' ≤ lo) {m : List Host.Cell} (hm : Memory.wfFrom lo m = true) :
    Memory.wfFrom lo' m = true := by
  cases m with
  | nil => rfl
  | cons c rest =>
    obtain ⟨b, v⟩ := c
    rw [Memory.wfFrom_cons] at hm ⊢
    exact ⟨le_trans h hm.1, hm.2⟩

theorem Memory.read_below {lo x : Nat} (hx : x < lo) {m : List Host.Cell} (hm : Memory.wfFrom lo m = true) :
    Memory.read m x = Memory.unlisted := by
  induction m generalizing lo with
  | nil => rfl
  | cons c rest ih =>
    obtain ⟨b, v⟩ := c
    rw [Memory.wfFrom_cons] at hm
    have hb : x ≠ b := by omega
    simp only [Memory.read, if_neg hb]
    exact ih (lo := b + 1) (by omega) hm.2.2.2

theorem Memory.write_wfFrom {lo x : Nat} (v : Byte) (hlo : lo ≤ x) (hx : x < 2 ^ 32) {m : List Host.Cell}
    (hm : Memory.wfFrom lo m = true) : Memory.wfFrom lo (Memory.write m x v) = true := by
  induction m generalizing lo with
  | nil =>
    unfold Memory.write
    split
    · rfl
    · exact Memory.wfFrom_cons.2 ⟨hlo, hx, ‹_›, rfl⟩
  | cons c rest ih =>
    obtain ⟨b, w⟩ := c
    have hm' := Memory.wfFrom_cons.1 hm
    unfold Memory.write
    split
    · split
      · exact hm
      · exact Memory.wfFrom_cons.2 ⟨hlo, hx, ‹_›, Memory.wfFrom_cons.2 ⟨by omega, hm'.2⟩⟩
    · split
      · split
        · exact Memory.wfFrom_mono (by omega) hm'.2.2.2
        · exact Memory.wfFrom_cons.2 ⟨hlo, hx, ‹_›, by simp_all⟩
      · exact Memory.wfFrom_cons.2 ⟨hm'.1, hm'.2.1, hm'.2.2.1, ih (by omega) hm'.2.2.2⟩

/-- A write of one byte keeps the canonical form. -/
theorem Memory.write_wf {x : Nat} (v : Byte) (hx : x < 2 ^ 32) {m : List Host.Cell} (hm : Memory.wf m = true) :
    Memory.wf (Memory.write m x v) = true :=
  Memory.write_wfFrom v (Nat.zero_le x) hx hm

/-- A write of several bytes keeps the canonical form. -/
theorem Memory.writeBytes_wf (addr : Nat → Word) (v n : Nat) {m : List Host.Cell} (hm : Memory.wf m = true) :
    Memory.wf (Memory.writeBytes m addr v n) = true := by
  induction n with
  | zero => exact hm
  | succ n ih => exact Memory.write_wf _ (addr n).isLt ih

/-- The memory after reset has the canonical form. -/
theorem Memory.reset_wf : Memory.wf State.reset.mem = true := rfl

/-! ## Reading after writing -/

theorem Memory.read_write_same_from {lo x : Nat} (v : Byte) {m : List Host.Cell} (hm : Memory.wfFrom lo m = true) :
    Memory.read (Memory.write m x v) x = v := by
  induction m generalizing lo with
  | nil =>
    unfold Memory.write
    split <;> simp_all [Memory.read]
  | cons c rest ih =>
    obtain ⟨b, w⟩ := c
    have hm' := Memory.wfFrom_cons.1 hm
    unfold Memory.write
    split
    · split
      · rename_i h1 h2
        rw [h2]
        exact Memory.read_below h1 (Memory.wfFrom_cons.2 ⟨le_refl b, hm'.2⟩)
      · simp [Memory.read]
    · split
      · split
        · rename_i h1 h2 h3
          rw [h3]
          exact Memory.read_below (by omega) hm'.2.2.2
        · simp [Memory.read]
      · rename_i h1 h2
        simp only [Memory.read, if_neg h2]
        exact ih hm'.2.2.2

/-- A read after a write to the same address gives the byte written. -/
theorem Memory.read_write_same {x : Nat} (v : Byte) {m : List Host.Cell} (hm : Memory.wf m = true) :
    Memory.read (Memory.write m x v) x = v :=
  Memory.read_write_same_from v hm

/-- A write leaves every other address alone. -/
theorem Memory.read_write_other {x y : Nat} (h : y ≠ x) (v : Byte) (m : List Host.Cell) :
    Memory.read (Memory.write m x v) y = Memory.read m y := by
  induction m with
  | nil =>
    unfold Memory.write
    split <;> simp [Memory.read, h]
  | cons c rest ih =>
    obtain ⟨b, w⟩ := c
    unfold Memory.write
    split
    · split
      · rfl
      · simp [Memory.read, h]
    · split
      · rename_i h1 h2
        subst h2
        split <;> simp [Memory.read, h]
      · simp only [Memory.read, ih]

/-- A write of several bytes leaves every other address alone. -/
theorem Memory.read_writeBytes_other (m : List Host.Cell) (addr : Nat → Word) (v n x : Nat)
    (h : ∀ k < n, x ≠ (addr k).toNat) : Memory.read (Memory.writeBytes m addr v n) x = Memory.read m x := by
  induction n with
  | zero => rfl
  | succ n ih =>
    rw [Memory.writeBytes, Memory.read_write_other (h n (by omega))]
    exact ih fun k hk => h k (by omega)

/-- A write of several bytes at different addresses: byte `k` of the value stands at the `k`-th address. -/
theorem Memory.read_writeBytes_at {m : List Host.Cell} (hm : Memory.wf m = true) (addr : Nat → Word) (v n k : Nat)
    (hk : k < n) (h : ∀ i < n, ∀ j < n, addr i = addr j → i = j) :
    Memory.read (Memory.writeBytes m addr v n) (addr k).toNat = BitVec.ofNat 8 (v / 256 ^ k) := by
  induction n with
  | zero => omega
  | succ n ih =>
    rw [Memory.writeBytes]
    by_cases hkn : k = n
    · subst hkn
      exact Memory.read_write_same _ (Memory.writeBytes_wf addr v k hm)
    · rw [Memory.read_write_other]
      · exact ih (by omega) fun i hi j hj => h i (by omega) j (by omega)
      · intro he
        exact hkn (h k (by omega) n (by omega) (BitVec.eq_of_toNat_eq he))

theorem Memory.readBytes_lt (m : List Host.Cell) (addr : Nat → Word) (n : Nat) :
    Memory.readBytes m addr n < 256 ^ n := by
  induction n with
  | zero => simp [Memory.readBytes]
  | succ n ih =>
    have hb := (Memory.read m (addr n).toNat).isLt
    have h1 : (Memory.read m (addr n).toNat).toNat * 256 ^ n ≤ 255 * 256 ^ n :=
      Nat.mul_le_mul_right _ (by omega)
    have h2 : (256 : Nat) ^ (n + 1) = 256 * 256 ^ n := by rw [pow_succ, mul_comm]
    rw [Memory.readBytes, h2]
    omega

theorem Memory.readBytes_congr {m m' : List Host.Cell} (addr : Nat → Word) (n : Nat)
    (h : ∀ k < n, Memory.read m (addr k).toNat = Memory.read m' (addr k).toNat) :
    Memory.readBytes m addr n = Memory.readBytes m' addr n := by
  induction n with
  | zero => rfl
  | succ n ih => rw [Memory.readBytes, Memory.readBytes, ih fun k hk => h k (by omega), h n (by omega)]

/-- Reading back what was written at different addresses gives the low bytes of the value. -/
theorem Memory.readBytes_writeBytes {m : List Host.Cell} (hm : Memory.wf m = true) (addr : Nat → Word) (v n : Nat)
    (h : ∀ i < n, ∀ j < n, addr i = addr j → i = j) :
    Memory.readBytes (Memory.writeBytes m addr v n) addr n = v % 256 ^ n := by
  suffices hk : ∀ k ≤ n, Memory.readBytes (Memory.writeBytes m addr v n) addr k = v % 256 ^ k from hk n le_rfl
  intro k
  induction k with
  | zero => intro _; simp [Memory.readBytes, Nat.mod_one]
  | succ k ih =>
    intro hkn
    have hs : v % 256 ^ (k + 1) = v % 256 ^ k + v / 256 ^ k % 256 * 256 ^ k := by
      rw [pow_succ, Nat.mod_mul, mul_comm (256 ^ k) (v / 256 ^ k % 256)]
    rw [Memory.readBytes, ih (by omega), Memory.read_writeBytes_at hm addr v n k (by omega) h, BitVec.toNat_ofNat, hs]

/-- Two memories in canonical form that read alike are equal. -/
theorem Memory.ext_from {lo : Nat} {m m' : List Host.Cell} (hm : Memory.wfFrom lo m = true)
    (hm' : Memory.wfFrom lo m' = true) (h : ∀ x, Memory.read m x = Memory.read m' x) : m = m' := by
  induction m generalizing lo m' with
  | nil =>
    cases m' with
    | nil => rfl
    | cons c' rest' =>
      obtain ⟨b', v'⟩ := c'
      have hc := Memory.wfFrom_cons.1 hm'
      have := h b'
      simp only [Memory.read, if_pos] at this
      exact absurd this.symm hc.2.2.1
  | cons c rest ih =>
    obtain ⟨b, v⟩ := c
    have hc := Memory.wfFrom_cons.1 hm
    cases m' with
    | nil =>
      have := h b
      simp only [Memory.read, if_pos] at this
      exact absurd this hc.2.2.1
    | cons c' rest' =>
      obtain ⟨b', v'⟩ := c'
      have hc' := Memory.wfFrom_cons.1 hm'
      have hbb : b = b' := by
        rcases Nat.lt_trichotomy b b' with hlt | he | hlt
        · have h1 := h b
          rw [Memory.read_below hlt (Memory.wfFrom_cons.2 ⟨le_refl b', hc'.2⟩)] at h1
          simp only [Memory.read, if_pos] at h1
          exact absurd h1 hc.2.2.1
        · exact he
        · have h1 := h b'
          rw [Memory.read_below hlt (Memory.wfFrom_cons.2 ⟨le_refl b, hc.2⟩)] at h1
          simp only [Memory.read, if_pos] at h1
          exact absurd h1.symm hc'.2.2.1
      subst hbb
      have hv := h b
      simp only [Memory.read, if_pos] at hv
      subst hv
      have hr : rest = rest' := ih hc.2.2.2 hc'.2.2.2 fun x => by
        by_cases hx : x = b
        · subst hx
          rw [Memory.read_below (Nat.lt_succ_self x) hc.2.2.2, Memory.read_below (Nat.lt_succ_self x) hc'.2.2.2]
        · have := h x
          simpa only [Memory.read, if_neg hx] using this
      rw [hr]

/-- Equal memories are equal data: the canonical form is unique. -/
theorem Memory.ext {m m' : List Host.Cell} (hm : Memory.wf m = true) (hm' : Memory.wf m' = true)
    (h : ∀ x, Memory.read m x = Memory.read m' x) : m = m' :=
  Memory.ext_from hm hm' h

end Sys2Proof.Machine
end

