-- ==== Sys2Proof/Laws/State.lean ====
section
/-! SUPPORT. Laws/State.lean: what each update of the state does to each field: one lemma per field and update, true by rfl, so that no proof unfolds a record update. -/

namespace Sys2Proof.Machine

open Sys2Proof

/-! ## setD -/

@[simp] theorem State.setD_d (s : State) (r : Reg) (v : Word) : (s.setD r v).d = s.d.set r.val v r.isLt := rfl
@[simp] theorem State.setD_a (s : State) (r : Reg) (v : Word) : (s.setD r v).a = s.a := rfl
@[simp] theorem State.setD_pc (s : State) (r : Reg) (v : Word) : (s.setD r v).pc = s.pc := rfl
@[simp] theorem State.setD_psw (s : State) (r : Reg) (v : Word) : (s.setD r v).psw = s.psw := rfl
@[simp] theorem State.setD_pcxi (s : State) (r : Reg) (v : Word) : (s.setD r v).pcxi = s.pcxi := rfl
@[simp] theorem State.setD_fcx (s : State) (r : Reg) (v : Word) : (s.setD r v).fcx = s.fcx := rfl
@[simp] theorem State.setD_icr (s : State) (r : Reg) (v : Word) : (s.setD r v).icr = s.icr := rfl
@[simp] theorem State.setD_csfr (s : State) (r : Reg) (v : Word) : (s.setD r v).csfr = s.csfr := rfl
@[simp] theorem State.setD_dataSets (s : State) (r : Reg) (v : Word) : (s.setD r v).dataSets = s.dataSets := rfl
@[simp] theorem State.setD_codeSets (s : State) (r : Reg) (v : Word) : (s.setD r v).codeSets = s.codeSets := rfl
@[simp] theorem State.setD_mem (s : State) (r : Reg) (v : Word) : (s.setD r v).mem = s.mem := rfl
@[simp] theorem State.setD_env (s : State) (r : Reg) (v : Word) : (s.setD r v).env = s.env := rfl
@[simp] theorem State.setD_cfg (s : State) (r : Reg) (v : Word) : (s.setD r v).cfg = s.cfg := rfl

/-! ## setA -/

@[simp] theorem State.setA_d (s : State) (r : Reg) (v : Word) : (s.setA r v).d = s.d := rfl
@[simp] theorem State.setA_a (s : State) (r : Reg) (v : Word) : (s.setA r v).a = s.a.set r.val v r.isLt := rfl
@[simp] theorem State.setA_pc (s : State) (r : Reg) (v : Word) : (s.setA r v).pc = s.pc := rfl
@[simp] theorem State.setA_psw (s : State) (r : Reg) (v : Word) : (s.setA r v).psw = s.psw := rfl
@[simp] theorem State.setA_pcxi (s : State) (r : Reg) (v : Word) : (s.setA r v).pcxi = s.pcxi := rfl
@[simp] theorem State.setA_fcx (s : State) (r : Reg) (v : Word) : (s.setA r v).fcx = s.fcx := rfl
@[simp] theorem State.setA_icr (s : State) (r : Reg) (v : Word) : (s.setA r v).icr = s.icr := rfl
@[simp] theorem State.setA_csfr (s : State) (r : Reg) (v : Word) : (s.setA r v).csfr = s.csfr := rfl
@[simp] theorem State.setA_dataSets (s : State) (r : Reg) (v : Word) : (s.setA r v).dataSets = s.dataSets := rfl
@[simp] theorem State.setA_codeSets (s : State) (r : Reg) (v : Word) : (s.setA r v).codeSets = s.codeSets := rfl
@[simp] theorem State.setA_mem (s : State) (r : Reg) (v : Word) : (s.setA r v).mem = s.mem := rfl
@[simp] theorem State.setA_env (s : State) (r : Reg) (v : Word) : (s.setA r v).env = s.env := rfl
@[simp] theorem State.setA_cfg (s : State) (r : Reg) (v : Word) : (s.setA r v).cfg = s.cfg := rfl

/-! ## setE -/

@[simp] theorem State.setE_a (s : State) (r : Reg) (v : DWord) : (s.setE r v).a = s.a := rfl
@[simp] theorem State.setE_pc (s : State) (r : Reg) (v : DWord) : (s.setE r v).pc = s.pc := rfl
@[simp] theorem State.setE_psw (s : State) (r : Reg) (v : DWord) : (s.setE r v).psw = s.psw := rfl
@[simp] theorem State.setE_pcxi (s : State) (r : Reg) (v : DWord) : (s.setE r v).pcxi = s.pcxi := rfl
@[simp] theorem State.setE_fcx (s : State) (r : Reg) (v : DWord) : (s.setE r v).fcx = s.fcx := rfl
@[simp] theorem State.setE_icr (s : State) (r : Reg) (v : DWord) : (s.setE r v).icr = s.icr := rfl
@[simp] theorem State.setE_csfr (s : State) (r : Reg) (v : DWord) : (s.setE r v).csfr = s.csfr := rfl
@[simp] theorem State.setE_dataSets (s : State) (r : Reg) (v : DWord) : (s.setE r v).dataSets = s.dataSets := rfl
@[simp] theorem State.setE_codeSets (s : State) (r : Reg) (v : DWord) : (s.setE r v).codeSets = s.codeSets := rfl
@[simp] theorem State.setE_mem (s : State) (r : Reg) (v : DWord) : (s.setE r v).mem = s.mem := rfl
@[simp] theorem State.setE_env (s : State) (r : Reg) (v : DWord) : (s.setE r v).env = s.env := rfl
@[simp] theorem State.setE_cfg (s : State) (r : Reg) (v : DWord) : (s.setE r v).cfg = s.cfg := rfl

/-! ## setAPair -/

@[simp] theorem State.setAPair_d (s : State) (r : Reg) (v : DWord) : (s.setAPair r v).d = s.d := rfl
@[simp] theorem State.setAPair_pc (s : State) (r : Reg) (v : DWord) : (s.setAPair r v).pc = s.pc := rfl
@[simp] theorem State.setAPair_psw (s : State) (r : Reg) (v : DWord) : (s.setAPair r v).psw = s.psw := rfl
@[simp] theorem State.setAPair_pcxi (s : State) (r : Reg) (v : DWord) : (s.setAPair r v).pcxi = s.pcxi := rfl
@[simp] theorem State.setAPair_fcx (s : State) (r : Reg) (v : DWord) : (s.setAPair r v).fcx = s.fcx := rfl
@[simp] theorem State.setAPair_icr (s : State) (r : Reg) (v : DWord) : (s.setAPair r v).icr = s.icr := rfl
@[simp] theorem State.setAPair_csfr (s : State) (r : Reg) (v : DWord) : (s.setAPair r v).csfr = s.csfr := rfl
@[simp] theorem State.setAPair_dataSets (s : State) (r : Reg) (v : DWord) :
    (s.setAPair r v).dataSets = s.dataSets := rfl
@[simp] theorem State.setAPair_codeSets (s : State) (r : Reg) (v : DWord) :
    (s.setAPair r v).codeSets = s.codeSets := rfl
@[simp] theorem State.setAPair_mem (s : State) (r : Reg) (v : DWord) : (s.setAPair r v).mem = s.mem := rfl
@[simp] theorem State.setAPair_env (s : State) (r : Reg) (v : DWord) : (s.setAPair r v).env = s.env := rfl
@[simp] theorem State.setAPair_cfg (s : State) (r : Reg) (v : DWord) : (s.setAPair r v).cfg = s.cfg := rfl

/-! ## setPc -/

@[simp] theorem State.setPc_d (s : State) (v : Word) : (s.setPc v).d = s.d := rfl
@[simp] theorem State.setPc_a (s : State) (v : Word) : (s.setPc v).a = s.a := rfl
@[simp] theorem State.setPc_pc (s : State) (v : Word) : (s.setPc v).pc = v := rfl
@[simp] theorem State.setPc_psw (s : State) (v : Word) : (s.setPc v).psw = s.psw := rfl
@[simp] theorem State.setPc_pcxi (s : State) (v : Word) : (s.setPc v).pcxi = s.pcxi := rfl
@[simp] theorem State.setPc_fcx (s : State) (v : Word) : (s.setPc v).fcx = s.fcx := rfl
@[simp] theorem State.setPc_icr (s : State) (v : Word) : (s.setPc v).icr = s.icr := rfl
@[simp] theorem State.setPc_csfr (s : State) (v : Word) : (s.setPc v).csfr = s.csfr := rfl
@[simp] theorem State.setPc_dataSets (s : State) (v : Word) : (s.setPc v).dataSets = s.dataSets := rfl
@[simp] theorem State.setPc_codeSets (s : State) (v : Word) : (s.setPc v).codeSets = s.codeSets := rfl
@[simp] theorem State.setPc_mem (s : State) (v : Word) : (s.setPc v).mem = s.mem := rfl
@[simp] theorem State.setPc_env (s : State) (v : Word) : (s.setPc v).env = s.env := rfl
@[simp] theorem State.setPc_cfg (s : State) (v : Word) : (s.setPc v).cfg = s.cfg := rfl

/-! ## setPsw -/

@[simp] theorem State.setPsw_d (s : State) (v : Word) : (s.setPsw v).d = s.d := rfl
@[simp] theorem State.setPsw_a (s : State) (v : Word) : (s.setPsw v).a = s.a := rfl
@[simp] theorem State.setPsw_pc (s : State) (v : Word) : (s.setPsw v).pc = s.pc := rfl
@[simp] theorem State.setPsw_psw (s : State) (v : Word) : (s.setPsw v).psw = v := rfl
@[simp] theorem State.setPsw_pcxi (s : State) (v : Word) : (s.setPsw v).pcxi = s.pcxi := rfl
@[simp] theorem State.setPsw_fcx (s : State) (v : Word) : (s.setPsw v).fcx = s.fcx := rfl
@[simp] theorem State.setPsw_icr (s : State) (v : Word) : (s.setPsw v).icr = s.icr := rfl
@[simp] theorem State.setPsw_csfr (s : State) (v : Word) : (s.setPsw v).csfr = s.csfr := rfl
@[simp] theorem State.setPsw_dataSets (s : State) (v : Word) : (s.setPsw v).dataSets = s.dataSets := rfl
@[simp] theorem State.setPsw_codeSets (s : State) (v : Word) : (s.setPsw v).codeSets = s.codeSets := rfl
@[simp] theorem State.setPsw_mem (s : State) (v : Word) : (s.setPsw v).mem = s.mem := rfl
@[simp] theorem State.setPsw_env (s : State) (v : Word) : (s.setPsw v).env = s.env := rfl
@[simp] theorem State.setPsw_cfg (s : State) (v : Word) : (s.setPsw v).cfg = s.cfg := rfl

/-! ## advance -/

@[simp] theorem State.advance_d (s : State) (n : Word) : (s.advance n).d = s.d := rfl
@[simp] theorem State.advance_a (s : State) (n : Word) : (s.advance n).a = s.a := rfl
@[simp] theorem State.advance_pc (s : State) (n : Word) : (s.advance n).pc = s.pc + n := rfl
@[simp] theorem State.advance_psw (s : State) (n : Word) : (s.advance n).psw = s.psw := rfl
@[simp] theorem State.advance_pcxi (s : State) (n : Word) : (s.advance n).pcxi = s.pcxi := rfl
@[simp] theorem State.advance_fcx (s : State) (n : Word) : (s.advance n).fcx = s.fcx := rfl
@[simp] theorem State.advance_icr (s : State) (n : Word) : (s.advance n).icr = s.icr := rfl
@[simp] theorem State.advance_csfr (s : State) (n : Word) : (s.advance n).csfr = s.csfr := rfl
@[simp] theorem State.advance_dataSets (s : State) (n : Word) : (s.advance n).dataSets = s.dataSets := rfl
@[simp] theorem State.advance_codeSets (s : State) (n : Word) : (s.advance n).codeSets = s.codeSets := rfl
@[simp] theorem State.advance_mem (s : State) (n : Word) : (s.advance n).mem = s.mem := rfl
@[simp] theorem State.advance_env (s : State) (n : Word) : (s.advance n).env = s.env := rfl
@[simp] theorem State.advance_cfg (s : State) (n : Word) : (s.advance n).cfg = s.cfg := rfl

/-! ## emit -/

@[simp] theorem State.emit_d (s : State) (l : List HostOutput) : (s.emit l).d = s.d := rfl
@[simp] theorem State.emit_a (s : State) (l : List HostOutput) : (s.emit l).a = s.a := rfl
@[simp] theorem State.emit_pc (s : State) (l : List HostOutput) : (s.emit l).pc = s.pc := rfl
@[simp] theorem State.emit_psw (s : State) (l : List HostOutput) : (s.emit l).psw = s.psw := rfl
@[simp] theorem State.emit_pcxi (s : State) (l : List HostOutput) : (s.emit l).pcxi = s.pcxi := rfl
@[simp] theorem State.emit_fcx (s : State) (l : List HostOutput) : (s.emit l).fcx = s.fcx := rfl
@[simp] theorem State.emit_icr (s : State) (l : List HostOutput) : (s.emit l).icr = s.icr := rfl
@[simp] theorem State.emit_csfr (s : State) (l : List HostOutput) : (s.emit l).csfr = s.csfr := rfl
@[simp] theorem State.emit_dataSets (s : State) (l : List HostOutput) : (s.emit l).dataSets = s.dataSets := rfl
@[simp] theorem State.emit_codeSets (s : State) (l : List HostOutput) : (s.emit l).codeSets = s.codeSets := rfl
@[simp] theorem State.emit_mem (s : State) (l : List HostOutput) : (s.emit l).mem = s.mem := rfl
@[simp] theorem State.emit_env (s : State) (l : List HostOutput) :
    (s.emit l).env = { s.env with outputs := l.reverse ++ s.env.outputs } := rfl
@[simp] theorem State.emit_cfg (s : State) (l : List HostOutput) : (s.emit l).cfg = s.cfg := rfl

/-! ## drawFree -/

@[simp] theorem State.drawFree_d (s : State) (n : Nat) : (s.drawFree n).d = s.d := rfl
@[simp] theorem State.drawFree_a (s : State) (n : Nat) : (s.drawFree n).a = s.a := rfl
@[simp] theorem State.drawFree_pc (s : State) (n : Nat) : (s.drawFree n).pc = s.pc := rfl
@[simp] theorem State.drawFree_psw (s : State) (n : Nat) : (s.drawFree n).psw = s.psw := rfl
@[simp] theorem State.drawFree_pcxi (s : State) (n : Nat) : (s.drawFree n).pcxi = s.pcxi := rfl
@[simp] theorem State.drawFree_fcx (s : State) (n : Nat) : (s.drawFree n).fcx = s.fcx := rfl
@[simp] theorem State.drawFree_icr (s : State) (n : Nat) : (s.drawFree n).icr = s.icr := rfl
@[simp] theorem State.drawFree_csfr (s : State) (n : Nat) : (s.drawFree n).csfr = s.csfr := rfl
@[simp] theorem State.drawFree_dataSets (s : State) (n : Nat) : (s.drawFree n).dataSets = s.dataSets := rfl
@[simp] theorem State.drawFree_codeSets (s : State) (n : Nat) : (s.drawFree n).codeSets = s.codeSets := rfl
@[simp] theorem State.drawFree_mem (s : State) (n : Nat) : (s.drawFree n).mem = s.mem := rfl
@[simp] theorem State.drawFree_env (s : State) (n : Nat) :
    (s.drawFree n).env = { s.env with freeCount := s.env.freeCount + n } := rfl
@[simp] theorem State.drawFree_cfg (s : State) (n : Nat) : (s.drawFree n).cfg = s.cfg := rfl

/-! ## setMem -/

@[simp] theorem State.setMem_d (s : State) (m : List Host.Cell) : (s.setMem m).d = s.d := rfl
@[simp] theorem State.setMem_a (s : State) (m : List Host.Cell) : (s.setMem m).a = s.a := rfl
@[simp] theorem State.setMem_pc (s : State) (m : List Host.Cell) : (s.setMem m).pc = s.pc := rfl
@[simp] theorem State.setMem_psw (s : State) (m : List Host.Cell) : (s.setMem m).psw = s.psw := rfl
@[simp] theorem State.setMem_pcxi (s : State) (m : List Host.Cell) : (s.setMem m).pcxi = s.pcxi := rfl
@[simp] theorem State.setMem_fcx (s : State) (m : List Host.Cell) : (s.setMem m).fcx = s.fcx := rfl
@[simp] theorem State.setMem_icr (s : State) (m : List Host.Cell) : (s.setMem m).icr = s.icr := rfl
@[simp] theorem State.setMem_csfr (s : State) (m : List Host.Cell) : (s.setMem m).csfr = s.csfr := rfl
@[simp] theorem State.setMem_dataSets (s : State) (m : List Host.Cell) : (s.setMem m).dataSets = s.dataSets := rfl
@[simp] theorem State.setMem_codeSets (s : State) (m : List Host.Cell) : (s.setMem m).codeSets = s.codeSets := rfl
@[simp] theorem State.setMem_mem (s : State) (m : List Host.Cell) : (s.setMem m).mem = m := rfl
@[simp] theorem State.setMem_env (s : State) (m : List Host.Cell) : (s.setMem m).env = s.env := rfl
@[simp] theorem State.setMem_cfg (s : State) (m : List Host.Cell) : (s.setMem m).cfg = s.cfg := rfl

/-! ## setLists -/

@[simp] theorem State.setLists_d (s : State) (p f : Word) : (s.setLists p f).d = s.d := rfl
@[simp] theorem State.setLists_a (s : State) (p f : Word) : (s.setLists p f).a = s.a := rfl
@[simp] theorem State.setLists_pc (s : State) (p f : Word) : (s.setLists p f).pc = s.pc := rfl
@[simp] theorem State.setLists_psw (s : State) (p f : Word) : (s.setLists p f).psw = s.psw := rfl
@[simp] theorem State.setLists_pcxi (s : State) (p f : Word) : (s.setLists p f).pcxi = p := rfl
@[simp] theorem State.setLists_fcx (s : State) (p f : Word) : (s.setLists p f).fcx = f := rfl
@[simp] theorem State.setLists_icr (s : State) (p f : Word) : (s.setLists p f).icr = s.icr := rfl
@[simp] theorem State.setLists_csfr (s : State) (p f : Word) : (s.setLists p f).csfr = s.csfr := rfl
@[simp] theorem State.setLists_dataSets (s : State) (p f : Word) : (s.setLists p f).dataSets = s.dataSets := rfl
@[simp] theorem State.setLists_codeSets (s : State) (p f : Word) : (s.setLists p f).codeSets = s.codeSets := rfl
@[simp] theorem State.setLists_mem (s : State) (p f : Word) : (s.setLists p f).mem = s.mem := rfl
@[simp] theorem State.setLists_env (s : State) (p f : Word) : (s.setLists p f).env = s.env := rfl
@[simp] theorem State.setLists_cfg (s : State) (p f : Word) : (s.setLists p f).cfg = s.cfg := rfl

/-! ## setIcr -/

@[simp] theorem State.setIcr_d (s : State) (v : Word) : (s.setIcr v).d = s.d := rfl
@[simp] theorem State.setIcr_a (s : State) (v : Word) : (s.setIcr v).a = s.a := rfl
@[simp] theorem State.setIcr_pc (s : State) (v : Word) : (s.setIcr v).pc = s.pc := rfl
@[simp] theorem State.setIcr_psw (s : State) (v : Word) : (s.setIcr v).psw = s.psw := rfl
@[simp] theorem State.setIcr_pcxi (s : State) (v : Word) : (s.setIcr v).pcxi = s.pcxi := rfl
@[simp] theorem State.setIcr_fcx (s : State) (v : Word) : (s.setIcr v).fcx = s.fcx := rfl
@[simp] theorem State.setIcr_icr (s : State) (v : Word) : (s.setIcr v).icr = v := rfl
@[simp] theorem State.setIcr_csfr (s : State) (v : Word) : (s.setIcr v).csfr = s.csfr := rfl
@[simp] theorem State.setIcr_dataSets (s : State) (v : Word) : (s.setIcr v).dataSets = s.dataSets := rfl
@[simp] theorem State.setIcr_codeSets (s : State) (v : Word) : (s.setIcr v).codeSets = s.codeSets := rfl
@[simp] theorem State.setIcr_mem (s : State) (v : Word) : (s.setIcr v).mem = s.mem := rfl
@[simp] theorem State.setIcr_env (s : State) (v : Word) : (s.setIcr v).env = s.env := rfl
@[simp] theorem State.setIcr_cfg (s : State) (v : Word) : (s.setIcr v).cfg = s.cfg := rfl

/-! ## setCsfrs -/

@[simp] theorem State.setCsfrs_d (s : State) (c : Csfrs) : (s.setCsfrs c).d = s.d := rfl
@[simp] theorem State.setCsfrs_a (s : State) (c : Csfrs) : (s.setCsfrs c).a = s.a := rfl
@[simp] theorem State.setCsfrs_pc (s : State) (c : Csfrs) : (s.setCsfrs c).pc = s.pc := rfl
@[simp] theorem State.setCsfrs_psw (s : State) (c : Csfrs) : (s.setCsfrs c).psw = s.psw := rfl
@[simp] theorem State.setCsfrs_pcxi (s : State) (c : Csfrs) : (s.setCsfrs c).pcxi = s.pcxi := rfl
@[simp] theorem State.setCsfrs_fcx (s : State) (c : Csfrs) : (s.setCsfrs c).fcx = s.fcx := rfl
@[simp] theorem State.setCsfrs_icr (s : State) (c : Csfrs) : (s.setCsfrs c).icr = s.icr := rfl
@[simp] theorem State.setCsfrs_csfr (s : State) (c : Csfrs) : (s.setCsfrs c).csfr = c := rfl
@[simp] theorem State.setCsfrs_dataSets (s : State) (c : Csfrs) : (s.setCsfrs c).dataSets = s.dataSets := rfl
@[simp] theorem State.setCsfrs_codeSets (s : State) (c : Csfrs) : (s.setCsfrs c).codeSets = s.codeSets := rfl
@[simp] theorem State.setCsfrs_mem (s : State) (c : Csfrs) : (s.setCsfrs c).mem = s.mem := rfl
@[simp] theorem State.setCsfrs_env (s : State) (c : Csfrs) : (s.setCsfrs c).env = s.env := rfl
@[simp] theorem State.setCsfrs_cfg (s : State) (c : Csfrs) : (s.setCsfrs c).cfg = s.cfg := rfl

/-! ## setEnv -/

@[simp] theorem State.setEnv_d (s : State) (e : Boundary) : (s.setEnv e).d = s.d := rfl
@[simp] theorem State.setEnv_a (s : State) (e : Boundary) : (s.setEnv e).a = s.a := rfl
@[simp] theorem State.setEnv_pc (s : State) (e : Boundary) : (s.setEnv e).pc = s.pc := rfl
@[simp] theorem State.setEnv_psw (s : State) (e : Boundary) : (s.setEnv e).psw = s.psw := rfl
@[simp] theorem State.setEnv_pcxi (s : State) (e : Boundary) : (s.setEnv e).pcxi = s.pcxi := rfl
@[simp] theorem State.setEnv_fcx (s : State) (e : Boundary) : (s.setEnv e).fcx = s.fcx := rfl
@[simp] theorem State.setEnv_icr (s : State) (e : Boundary) : (s.setEnv e).icr = s.icr := rfl
@[simp] theorem State.setEnv_csfr (s : State) (e : Boundary) : (s.setEnv e).csfr = s.csfr := rfl
@[simp] theorem State.setEnv_dataSets (s : State) (e : Boundary) : (s.setEnv e).dataSets = s.dataSets := rfl
@[simp] theorem State.setEnv_codeSets (s : State) (e : Boundary) : (s.setEnv e).codeSets = s.codeSets := rfl
@[simp] theorem State.setEnv_mem (s : State) (e : Boundary) : (s.setEnv e).mem = s.mem := rfl
@[simp] theorem State.setEnv_env (s : State) (e : Boundary) : (s.setEnv e).env = e := rfl
@[simp] theorem State.setEnv_cfg (s : State) (e : Boundary) : (s.setEnv e).cfg = s.cfg := rfl

/-! ## signal -/

@[simp] theorem State.signal_d (s : State) (k : Access) (x : Word) : (s.signal k x).d = s.d := rfl
@[simp] theorem State.signal_a (s : State) (k : Access) (x : Word) : (s.signal k x).a = s.a := rfl
@[simp] theorem State.signal_pc (s : State) (k : Access) (x : Word) : (s.signal k x).pc = s.pc := rfl
@[simp] theorem State.signal_psw (s : State) (k : Access) (x : Word) : (s.signal k x).psw = s.psw := rfl
@[simp] theorem State.signal_pcxi (s : State) (k : Access) (x : Word) : (s.signal k x).pcxi = s.pcxi := rfl
@[simp] theorem State.signal_fcx (s : State) (k : Access) (x : Word) : (s.signal k x).fcx = s.fcx := rfl
@[simp] theorem State.signal_icr (s : State) (k : Access) (x : Word) : (s.signal k x).icr = s.icr := rfl
@[simp] theorem State.signal_csfr (s : State) (k : Access) (x : Word) : (s.signal k x).csfr = s.csfr := rfl
@[simp] theorem State.signal_dataSets (s : State) (k : Access) (x : Word) : (s.signal k x).dataSets = s.dataSets := rfl
@[simp] theorem State.signal_codeSets (s : State) (k : Access) (x : Word) : (s.signal k x).codeSets = s.codeSets := rfl
@[simp] theorem State.signal_mem (s : State) (k : Access) (x : Word) : (s.signal k x).mem = s.mem := rfl
@[simp] theorem State.signal_cfg (s : State) (k : Access) (x : Word) : (s.signal k x).cfg = s.cfg := rfl

/-! ## loadUpper -/

@[simp] theorem State.loadUpper_pc (s : State) (v : Nat) : (s.loadUpper v).pc = s.pc := rfl
@[simp] theorem State.loadUpper_psw (s : State) (v : Nat) : (s.loadUpper v).psw = s.psw := rfl
@[simp] theorem State.loadUpper_pcxi (s : State) (v : Nat) : (s.loadUpper v).pcxi = s.pcxi := rfl
@[simp] theorem State.loadUpper_fcx (s : State) (v : Nat) : (s.loadUpper v).fcx = s.fcx := rfl
@[simp] theorem State.loadUpper_icr (s : State) (v : Nat) : (s.loadUpper v).icr = s.icr := rfl
@[simp] theorem State.loadUpper_csfr (s : State) (v : Nat) : (s.loadUpper v).csfr = s.csfr := rfl
@[simp] theorem State.loadUpper_dataSets (s : State) (v : Nat) : (s.loadUpper v).dataSets = s.dataSets := rfl
@[simp] theorem State.loadUpper_codeSets (s : State) (v : Nat) : (s.loadUpper v).codeSets = s.codeSets := rfl
@[simp] theorem State.loadUpper_mem (s : State) (v : Nat) : (s.loadUpper v).mem = s.mem := rfl
@[simp] theorem State.loadUpper_env (s : State) (v : Nat) : (s.loadUpper v).env = s.env := rfl
@[simp] theorem State.loadUpper_cfg (s : State) (v : Nat) : (s.loadUpper v).cfg = s.cfg := rfl

/-! ## loadLower -/

@[simp] theorem State.loadLower_pc (s : State) (v : Nat) : (s.loadLower v).pc = s.pc := rfl
@[simp] theorem State.loadLower_psw (s : State) (v : Nat) : (s.loadLower v).psw = s.psw := rfl
@[simp] theorem State.loadLower_pcxi (s : State) (v : Nat) : (s.loadLower v).pcxi = s.pcxi := rfl
@[simp] theorem State.loadLower_fcx (s : State) (v : Nat) : (s.loadLower v).fcx = s.fcx := rfl
@[simp] theorem State.loadLower_icr (s : State) (v : Nat) : (s.loadLower v).icr = s.icr := rfl
@[simp] theorem State.loadLower_csfr (s : State) (v : Nat) : (s.loadLower v).csfr = s.csfr := rfl
@[simp] theorem State.loadLower_dataSets (s : State) (v : Nat) : (s.loadLower v).dataSets = s.dataSets := rfl
@[simp] theorem State.loadLower_codeSets (s : State) (v : Nat) : (s.loadLower v).codeSets = s.codeSets := rfl
@[simp] theorem State.loadLower_mem (s : State) (v : Nat) : (s.loadLower v).mem = s.mem := rfl
@[simp] theorem State.loadLower_env (s : State) (v : Nat) : (s.loadLower v).env = s.env := rfl
@[simp] theorem State.loadLower_cfg (s : State) (v : Nat) : (s.loadLower v).cfg = s.cfg := rfl

/-! ## branchIf -/

@[simp] theorem State.branchIf_d (s : State) (b : Bool) (t n : Word) : (s.branchIf b t n).d = s.d := rfl
@[simp] theorem State.branchIf_a (s : State) (b : Bool) (t n : Word) : (s.branchIf b t n).a = s.a := rfl
@[simp] theorem State.branchIf_pc (s : State) (b : Bool) (t n : Word) :
    (s.branchIf b t n).pc = if b then t else s.pc + n := rfl
@[simp] theorem State.branchIf_psw (s : State) (b : Bool) (t n : Word) : (s.branchIf b t n).psw = s.psw := rfl
@[simp] theorem State.branchIf_pcxi (s : State) (b : Bool) (t n : Word) : (s.branchIf b t n).pcxi = s.pcxi := rfl
@[simp] theorem State.branchIf_fcx (s : State) (b : Bool) (t n : Word) : (s.branchIf b t n).fcx = s.fcx := rfl
@[simp] theorem State.branchIf_icr (s : State) (b : Bool) (t n : Word) : (s.branchIf b t n).icr = s.icr := rfl
@[simp] theorem State.branchIf_csfr (s : State) (b : Bool) (t n : Word) : (s.branchIf b t n).csfr = s.csfr := rfl
@[simp] theorem State.branchIf_dataSets (s : State) (b : Bool) (t n : Word) :
    (s.branchIf b t n).dataSets = s.dataSets := rfl
@[simp] theorem State.branchIf_codeSets (s : State) (b : Bool) (t n : Word) :
    (s.branchIf b t n).codeSets = s.codeSets := rfl
@[simp] theorem State.branchIf_mem (s : State) (b : Bool) (t n : Word) : (s.branchIf b t n).mem = s.mem := rfl
@[simp] theorem State.branchIf_env (s : State) (b : Bool) (t n : Word) : (s.branchIf b t n).env = s.env := rfl
@[simp] theorem State.branchIf_cfg (s : State) (b : Bool) (t n : Word) : (s.branchIf b t n).cfg = s.cfg := rfl

/-! ## putD -/

@[simp] theorem State.putD_d (s : State) (c : Reg) (v n : Word) : (s.putD c v n).d = s.d.set c.val v c.isLt := rfl
@[simp] theorem State.putD_a (s : State) (c : Reg) (v n : Word) : (s.putD c v n).a = s.a := rfl
@[simp] theorem State.putD_pc (s : State) (c : Reg) (v n : Word) : (s.putD c v n).pc = s.pc + n := rfl
@[simp] theorem State.putD_psw (s : State) (c : Reg) (v n : Word) : (s.putD c v n).psw = s.psw := rfl
@[simp] theorem State.putD_pcxi (s : State) (c : Reg) (v n : Word) : (s.putD c v n).pcxi = s.pcxi := rfl
@[simp] theorem State.putD_fcx (s : State) (c : Reg) (v n : Word) : (s.putD c v n).fcx = s.fcx := rfl
@[simp] theorem State.putD_icr (s : State) (c : Reg) (v n : Word) : (s.putD c v n).icr = s.icr := rfl
@[simp] theorem State.putD_csfr (s : State) (c : Reg) (v n : Word) : (s.putD c v n).csfr = s.csfr := rfl
@[simp] theorem State.putD_dataSets (s : State) (c : Reg) (v n : Word) : (s.putD c v n).dataSets = s.dataSets := rfl
@[simp] theorem State.putD_codeSets (s : State) (c : Reg) (v n : Word) : (s.putD c v n).codeSets = s.codeSets := rfl
@[simp] theorem State.putD_mem (s : State) (c : Reg) (v n : Word) : (s.putD c v n).mem = s.mem := rfl
@[simp] theorem State.putD_env (s : State) (c : Reg) (v n : Word) : (s.putD c v n).env = s.env := rfl
@[simp] theorem State.putD_cfg (s : State) (c : Reg) (v n : Word) : (s.putD c v n).cfg = s.cfg := rfl

/-! ## putA -/

@[simp] theorem State.putA_d (s : State) (c : Reg) (v n : Word) : (s.putA c v n).d = s.d := rfl
@[simp] theorem State.putA_a (s : State) (c : Reg) (v n : Word) : (s.putA c v n).a = s.a.set c.val v c.isLt := rfl
@[simp] theorem State.putA_pc (s : State) (c : Reg) (v n : Word) : (s.putA c v n).pc = s.pc + n := rfl
@[simp] theorem State.putA_psw (s : State) (c : Reg) (v n : Word) : (s.putA c v n).psw = s.psw := rfl
@[simp] theorem State.putA_pcxi (s : State) (c : Reg) (v n : Word) : (s.putA c v n).pcxi = s.pcxi := rfl
@[simp] theorem State.putA_fcx (s : State) (c : Reg) (v n : Word) : (s.putA c v n).fcx = s.fcx := rfl
@[simp] theorem State.putA_icr (s : State) (c : Reg) (v n : Word) : (s.putA c v n).icr = s.icr := rfl
@[simp] theorem State.putA_csfr (s : State) (c : Reg) (v n : Word) : (s.putA c v n).csfr = s.csfr := rfl
@[simp] theorem State.putA_dataSets (s : State) (c : Reg) (v n : Word) : (s.putA c v n).dataSets = s.dataSets := rfl
@[simp] theorem State.putA_codeSets (s : State) (c : Reg) (v n : Word) : (s.putA c v n).codeSets = s.codeSets := rfl
@[simp] theorem State.putA_mem (s : State) (c : Reg) (v n : Word) : (s.putA c v n).mem = s.mem := rfl
@[simp] theorem State.putA_env (s : State) (c : Reg) (v n : Word) : (s.putA c v n).env = s.env := rfl
@[simp] theorem State.putA_cfg (s : State) (c : Reg) (v n : Word) : (s.putA c v n).cfg = s.cfg := rfl

/-! ## putE -/

@[simp] theorem State.putE_d (s : State) (c : Reg) (v : DWord) (n : Word) : (s.putE c v n).d = (s.setE c v).d := rfl
@[simp] theorem State.putE_a (s : State) (c : Reg) (v : DWord) (n : Word) : (s.putE c v n).a = s.a := rfl
@[simp] theorem State.putE_pc (s : State) (c : Reg) (v : DWord) (n : Word) : (s.putE c v n).pc = s.pc + n := rfl
@[simp] theorem State.putE_psw (s : State) (c : Reg) (v : DWord) (n : Word) : (s.putE c v n).psw = s.psw := rfl
@[simp] theorem State.putE_pcxi (s : State) (c : Reg) (v : DWord) (n : Word) : (s.putE c v n).pcxi = s.pcxi := rfl
@[simp] theorem State.putE_fcx (s : State) (c : Reg) (v : DWord) (n : Word) : (s.putE c v n).fcx = s.fcx := rfl
@[simp] theorem State.putE_icr (s : State) (c : Reg) (v : DWord) (n : Word) : (s.putE c v n).icr = s.icr := rfl
@[simp] theorem State.putE_csfr (s : State) (c : Reg) (v : DWord) (n : Word) : (s.putE c v n).csfr = s.csfr := rfl
@[simp] theorem State.putE_dataSets (s : State) (c : Reg) (v : DWord) (n : Word) :
    (s.putE c v n).dataSets = s.dataSets := rfl
@[simp] theorem State.putE_codeSets (s : State) (c : Reg) (v : DWord) (n : Word) :
    (s.putE c v n).codeSets = s.codeSets := rfl
@[simp] theorem State.putE_mem (s : State) (c : Reg) (v : DWord) (n : Word) : (s.putE c v n).mem = s.mem := rfl
@[simp] theorem State.putE_env (s : State) (c : Reg) (v : DWord) (n : Word) : (s.putE c v n).env = s.env := rfl
@[simp] theorem State.putE_cfg (s : State) (c : Reg) (v : DWord) (n : Word) : (s.putE c v n).cfg = s.cfg := rfl

/-! ## putResult -/

@[simp] theorem State.putResult_d (s : State) (c : Reg) (q : Result 32) (n : Word) :
    (s.putResult c q n).d = s.d.set c.val q.value c.isLt := rfl
@[simp] theorem State.putResult_a (s : State) (c : Reg) (q : Result 32) (n : Word) : (s.putResult c q n).a = s.a := rfl
@[simp] theorem State.putResult_pc (s : State) (c : Reg) (q : Result 32) (n : Word) :
    (s.putResult c q n).pc = s.pc + n := rfl
@[simp] theorem State.putResult_psw (s : State) (c : Reg) (q : Result 32) (n : Word) :
    (s.putResult c q n).psw = Psw.setOverflow s.psw q.v q.av := rfl
@[simp] theorem State.putResult_pcxi (s : State) (c : Reg) (q : Result 32) (n : Word) :
    (s.putResult c q n).pcxi = s.pcxi := rfl
@[simp] theorem State.putResult_fcx (s : State) (c : Reg) (q : Result 32) (n : Word) :
    (s.putResult c q n).fcx = s.fcx := rfl
@[simp] theorem State.putResult_icr (s : State) (c : Reg) (q : Result 32) (n : Word) :
    (s.putResult c q n).icr = s.icr := rfl
@[simp] theorem State.putResult_csfr (s : State) (c : Reg) (q : Result 32) (n : Word) :
    (s.putResult c q n).csfr = s.csfr := rfl
@[simp] theorem State.putResult_dataSets (s : State) (c : Reg) (q : Result 32) (n : Word) :
    (s.putResult c q n).dataSets = s.dataSets := rfl
@[simp] theorem State.putResult_codeSets (s : State) (c : Reg) (q : Result 32) (n : Word) :
    (s.putResult c q n).codeSets = s.codeSets := rfl
@[simp] theorem State.putResult_mem (s : State) (c : Reg) (q : Result 32) (n : Word) :
    (s.putResult c q n).mem = s.mem := rfl
@[simp] theorem State.putResult_env (s : State) (c : Reg) (q : Result 32) (n : Word) :
    (s.putResult c q n).env = s.env := rfl
@[simp] theorem State.putResult_cfg (s : State) (c : Reg) (q : Result 32) (n : Word) :
    (s.putResult c q n).cfg = s.cfg := rfl

/-! ## putResultE -/

@[simp] theorem State.putResultE_d (s : State) (c : Reg) (q : Result 64) (n : Word) :
    (s.putResultE c q n).d = (s.setE c q.value).d := rfl
@[simp] theorem State.putResultE_a (s : State) (c : Reg) (q : Result 64) (n : Word) :
    (s.putResultE c q n).a = s.a := rfl
@[simp] theorem State.putResultE_pc (s : State) (c : Reg) (q : Result 64) (n : Word) :
    (s.putResultE c q n).pc = s.pc + n := rfl
@[simp] theorem State.putResultE_psw (s : State) (c : Reg) (q : Result 64) (n : Word) :
    (s.putResultE c q n).psw = Psw.setOverflow s.psw q.v q.av := rfl
@[simp] theorem State.putResultE_pcxi (s : State) (c : Reg) (q : Result 64) (n : Word) :
    (s.putResultE c q n).pcxi = s.pcxi := rfl
@[simp] theorem State.putResultE_fcx (s : State) (c : Reg) (q : Result 64) (n : Word) :
    (s.putResultE c q n).fcx = s.fcx := rfl
@[simp] theorem State.putResultE_icr (s : State) (c : Reg) (q : Result 64) (n : Word) :
    (s.putResultE c q n).icr = s.icr := rfl
@[simp] theorem State.putResultE_csfr (s : State) (c : Reg) (q : Result 64) (n : Word) :
    (s.putResultE c q n).csfr = s.csfr := rfl
@[simp] theorem State.putResultE_dataSets (s : State) (c : Reg) (q : Result 64) (n : Word) :
    (s.putResultE c q n).dataSets = s.dataSets := rfl
@[simp] theorem State.putResultE_codeSets (s : State) (c : Reg) (q : Result 64) (n : Word) :
    (s.putResultE c q n).codeSets = s.codeSets := rfl
@[simp] theorem State.putResultE_mem (s : State) (c : Reg) (q : Result 64) (n : Word) :
    (s.putResultE c q n).mem = s.mem := rfl
@[simp] theorem State.putResultE_env (s : State) (c : Reg) (q : Result 64) (n : Word) :
    (s.putResultE c q n).env = s.env := rfl
@[simp] theorem State.putResultE_cfg (s : State) (c : Reg) (q : Result 64) (n : Word) :
    (s.putResultE c q n).cfg = s.cfg := rfl

/-! ## putResultC -/

@[simp] theorem State.putResultC_d (s : State) (c : Reg) (q : Result 32) (b : Bool) (n : Word) :
    (s.putResultC c q b n).d = s.d.set c.val q.value c.isLt := rfl
@[simp] theorem State.putResultC_a (s : State) (c : Reg) (q : Result 32) (b : Bool) (n : Word) :
    (s.putResultC c q b n).a = s.a := rfl
@[simp] theorem State.putResultC_pc (s : State) (c : Reg) (q : Result 32) (b : Bool) (n : Word) :
    (s.putResultC c q b n).pc = s.pc + n := rfl
@[simp] theorem State.putResultC_psw (s : State) (c : Reg) (q : Result 32) (b : Bool) (n : Word) :
    (s.putResultC c q b n).psw = Psw.setC (Psw.setOverflow s.psw q.v q.av) b := rfl
@[simp] theorem State.putResultC_pcxi (s : State) (c : Reg) (q : Result 32) (b : Bool) (n : Word) :
    (s.putResultC c q b n).pcxi = s.pcxi := rfl
@[simp] theorem State.putResultC_fcx (s : State) (c : Reg) (q : Result 32) (b : Bool) (n : Word) :
    (s.putResultC c q b n).fcx = s.fcx := rfl
@[simp] theorem State.putResultC_icr (s : State) (c : Reg) (q : Result 32) (b : Bool) (n : Word) :
    (s.putResultC c q b n).icr = s.icr := rfl
@[simp] theorem State.putResultC_csfr (s : State) (c : Reg) (q : Result 32) (b : Bool) (n : Word) :
    (s.putResultC c q b n).csfr = s.csfr := rfl
@[simp] theorem State.putResultC_dataSets (s : State) (c : Reg) (q : Result 32) (b : Bool) (n : Word) :
    (s.putResultC c q b n).dataSets = s.dataSets := rfl
@[simp] theorem State.putResultC_codeSets (s : State) (c : Reg) (q : Result 32) (b : Bool) (n : Word) :
    (s.putResultC c q b n).codeSets = s.codeSets := rfl
@[simp] theorem State.putResultC_mem (s : State) (c : Reg) (q : Result 32) (b : Bool) (n : Word) :
    (s.putResultC c q b n).mem = s.mem := rfl
@[simp] theorem State.putResultC_env (s : State) (c : Reg) (q : Result 32) (b : Bool) (n : Word) :
    (s.putResultC c q b n).env = s.env := rfl
@[simp] theorem State.putResultC_cfg (s : State) (c : Reg) (q : Result 32) (b : Bool) (n : Word) :
    (s.putResultC c q b n).cfg = s.cfg := rfl

end Sys2Proof.Machine
end

