-- ==== Sys2Proof/Laws/Registers.lean ====
section
/-! SUPPORT. Laws/Registers.lean: reading a general register after each update of the state. -/

namespace Sys2Proof.Machine

open Sys2Proof

/-! ## One register -/

theorem State.getD_setD (s : State) (c : Reg) (v : Word) (r : Reg) :
    (s.setD c v).getD r = if r = c then v else s.getD r := by
  by_cases h : r = c
  · subst h; simp [State.getD]
  · have hv : c.val ≠ r.val := fun e => h (Fin.ext e.symm)
    simp [State.getD, h, hv]

theorem State.getA_setA (s : State) (c : Reg) (v : Word) (r : Reg) :
    (s.setA c v).getA r = if r = c then v else s.getA r := by
  by_cases h : r = c
  · subst h; simp [State.getA]
  · have hv : c.val ≠ r.val := fun e => h (Fin.ext e.symm)
    simp [State.getA, h, hv]

@[simp] theorem State.getD_setD_same (s : State) (c : Reg) (v : Word) : (s.setD c v).getD c = v := by
  rw [State.getD_setD, if_pos rfl]

@[simp] theorem State.getA_setA_same (s : State) (c : Reg) (v : Word) : (s.setA c v).getA c = v := by
  rw [State.getA_setA, if_pos rfl]

theorem State.getD_setE (s : State) (c : Reg) (v : DWord) (r : Reg) :
    (s.setE c v).getD r =
      if r = c + 1 then v.extractLsb' 32 32 else if r = c then v.extractLsb' 0 32 else s.getD r := by
  rw [State.setE, State.getD_setD, State.getD_setD]

theorem State.getA_setAPair (s : State) (c : Reg) (v : DWord) (r : Reg) :
    (s.setAPair c v).getA r =
      if r = c + 1 then v.extractLsb' 32 32 else if r = c then v.extractLsb' 0 32 else s.getA r := by
  rw [State.setAPair, State.getA_setA, State.getA_setA]

/-- The two registers of a pair are different. -/
theorem Reg.succ_ne (r : Reg) : r + 1 ≠ r := by
  revert r; decide

/-- The value of a pair after it was written. -/
theorem State.getE_setE (s : State) (c : Reg) (v : DWord) : (s.setE c v).getE c = v := by
  rw [State.getE, State.getD_setE, State.getD_setE, if_pos rfl, if_neg (Reg.succ_ne c).symm, if_pos rfl]
  apply BitVec.eq_of_getLsbD_eq
  intro i hi
  simp only [BitVec.getLsbD_append, BitVec.getLsbD_extractLsb']
  by_cases h : i < 32
  · simp [h]
  · have h32 : i - 32 < 32 := by omega
    simp [h, h32, show 32 + (i - 32) = i by omega]

/-! ## The other registers under each update -/

@[simp] theorem State.getA_setD (s : State) (c : Reg) (v : Word) (r : Reg) : (s.setD c v).getA r = s.getA r := rfl
@[simp] theorem State.getD_setA (s : State) (c : Reg) (v : Word) (r : Reg) : (s.setA c v).getD r = s.getD r := rfl
@[simp] theorem State.getA_setE (s : State) (c : Reg) (v : DWord) (r : Reg) : (s.setE c v).getA r = s.getA r := rfl
@[simp] theorem State.getD_setAPair (s : State) (c : Reg) (v : DWord) (r : Reg) :
    (s.setAPair c v).getD r = s.getD r := rfl
@[simp] theorem State.getD_setPc (s : State) (v : Word) (r : Reg) : (s.setPc v).getD r = s.getD r := rfl
@[simp] theorem State.getA_setPc (s : State) (v : Word) (r : Reg) : (s.setPc v).getA r = s.getA r := rfl
@[simp] theorem State.getD_setPsw (s : State) (v : Word) (r : Reg) : (s.setPsw v).getD r = s.getD r := rfl
@[simp] theorem State.getA_setPsw (s : State) (v : Word) (r : Reg) : (s.setPsw v).getA r = s.getA r := rfl
@[simp] theorem State.getD_advance (s : State) (n : Word) (r : Reg) : (s.advance n).getD r = s.getD r := rfl
@[simp] theorem State.getA_advance (s : State) (n : Word) (r : Reg) : (s.advance n).getA r = s.getA r := rfl
@[simp] theorem State.getD_emit (s : State) (l : List HostOutput) (r : Reg) : (s.emit l).getD r = s.getD r := rfl
@[simp] theorem State.getA_emit (s : State) (l : List HostOutput) (r : Reg) : (s.emit l).getA r = s.getA r := rfl
@[simp] theorem State.getD_signal (s : State) (k : Access) (x : Word) (r : Reg) :
    (s.signal k x).getD r = s.getD r := rfl
@[simp] theorem State.getA_signal (s : State) (k : Access) (x : Word) (r : Reg) :
    (s.signal k x).getA r = s.getA r := rfl
@[simp] theorem State.getD_drawFree (s : State) (n : Nat) (r : Reg) : (s.drawFree n).getD r = s.getD r := rfl
@[simp] theorem State.getA_drawFree (s : State) (n : Nat) (r : Reg) : (s.drawFree n).getA r = s.getA r := rfl
@[simp] theorem State.getD_setMem (s : State) (m : List Host.Cell) (r : Reg) : (s.setMem m).getD r = s.getD r := rfl
@[simp] theorem State.getA_setMem (s : State) (m : List Host.Cell) (r : Reg) : (s.setMem m).getA r = s.getA r := rfl
@[simp] theorem State.getD_setLists (s : State) (p f : Word) (r : Reg) : (s.setLists p f).getD r = s.getD r := rfl
@[simp] theorem State.getA_setLists (s : State) (p f : Word) (r : Reg) : (s.setLists p f).getA r = s.getA r := rfl
@[simp] theorem State.getD_setIcr (s : State) (v : Word) (r : Reg) : (s.setIcr v).getD r = s.getD r := rfl
@[simp] theorem State.getA_setIcr (s : State) (v : Word) (r : Reg) : (s.setIcr v).getA r = s.getA r := rfl
@[simp] theorem State.getD_setCsfrs (s : State) (c : Csfrs) (r : Reg) : (s.setCsfrs c).getD r = s.getD r := rfl
@[simp] theorem State.getA_setCsfrs (s : State) (c : Csfrs) (r : Reg) : (s.setCsfrs c).getA r = s.getA r := rfl
@[simp] theorem State.getD_setEnv (s : State) (e : Boundary) (r : Reg) : (s.setEnv e).getD r = s.getD r := rfl
@[simp] theorem State.getA_setEnv (s : State) (e : Boundary) (r : Reg) : (s.setEnv e).getA r = s.getA r := rfl
@[simp] theorem State.getD_branchIf (s : State) (b : Bool) (t n : Word) (r : Reg) :
    (s.branchIf b t n).getD r = s.getD r := rfl
@[simp] theorem State.getA_branchIf (s : State) (b : Bool) (t n : Word) (r : Reg) :
    (s.branchIf b t n).getA r = s.getA r := rfl
@[simp] theorem State.getA_putD (s : State) (c : Reg) (v n : Word) (r : Reg) : (s.putD c v n).getA r = s.getA r := rfl
@[simp] theorem State.getA_putE (s : State) (c : Reg) (v : DWord) (n : Word) (r : Reg) :
    (s.putE c v n).getA r = s.getA r := rfl
@[simp] theorem State.getA_putResult (s : State) (c : Reg) (q : Result 32) (n : Word) (r : Reg) :
    (s.putResult c q n).getA r = s.getA r := rfl
@[simp] theorem State.getA_putResultE (s : State) (c : Reg) (q : Result 64) (n : Word) (r : Reg) :
    (s.putResultE c q n).getA r = s.getA r := rfl
@[simp] theorem State.getA_putResultC (s : State) (c : Reg) (q : Result 32) (b : Bool) (n : Word) (r : Reg) :
    (s.putResultC c q b n).getA r = s.getA r := rfl
@[simp] theorem State.getD_putA (s : State) (c : Reg) (v n : Word) (r : Reg) : (s.putA c v n).getD r = s.getD r := rfl

/-! ## The writes of a result -/

theorem State.getD_putD (s : State) (c : Reg) (v n : Word) (r : Reg) :
    (s.putD c v n).getD r = if r = c then v else s.getD r := State.getD_setD s c v r

theorem State.getD_putE (s : State) (c : Reg) (v : DWord) (n : Word) (r : Reg) :
    (s.putE c v n).getD r =
      if r = c + 1 then v.extractLsb' 32 32 else if r = c then v.extractLsb' 0 32 else s.getD r :=
  State.getD_setE s c v r

theorem State.getD_putResult (s : State) (c : Reg) (q : Result 32) (n : Word) (r : Reg) :
    (s.putResult c q n).getD r = if r = c then q.value else s.getD r := State.getD_setD s c q.value r

theorem State.getD_putResultC (s : State) (c : Reg) (q : Result 32) (b : Bool) (n : Word) (r : Reg) :
    (s.putResultC c q b n).getD r = if r = c then q.value else s.getD r := State.getD_setD s c q.value r

theorem State.getD_putResultE (s : State) (c : Reg) (q : Result 64) (n : Word) (r : Reg) :
    (s.putResultE c q n).getD r =
      if r = c + 1 then q.value.extractLsb' 32 32 else if r = c then q.value.extractLsb' 0 32 else s.getD r :=
  State.getD_setE s c q.value r

theorem State.getA_putA (s : State) (c : Reg) (v n : Word) (r : Reg) :
    (s.putA c v n).getA r = if r = c then v else s.getA r := State.getA_setA s c v r

/-! ## The register blocks of a context -/

/-- D8 to D15 and A10 to A15 hold the words of the block at their places (60 R965). -/
theorem State.getD_loadUpper (s : State) (v : Nat) (r : Reg) :
    (s.loadUpper v).getD r =
      if 8 ≤ r.val then blockWord v (wordPlace s.cfg.csaLayout.upper (r.val - 1)) else s.getD r := by
  unfold State.loadUpper
  simp only [State.getD_setD, State.getD_setA]
  fin_cases r <;> rfl

theorem State.getA_loadUpper (s : State) (v : Nat) (r : Reg) :
    (s.loadUpper v).getA r =
      if 10 ≤ r.val then blockWord v (wordPlace s.cfg.csaLayout.upper (r.val - 9)) else s.getA r := by
  unfold State.loadUpper
  simp only [State.getA_setA, State.getA_setD]
  fin_cases r <;> rfl

/-- D0 to D7 and A2 to A7 hold the words of the block at their places (60 R965). -/
theorem State.getD_loadLower (s : State) (v : Nat) (r : Reg) :
    (s.loadLower v).getD r =
      if r.val < 8 then blockWord v (wordPlace s.cfg.csaLayout.lower (r.val + 7)) else s.getD r := by
  unfold State.loadLower
  simp only [State.getD_setD, State.getD_setA]
  fin_cases r <;> rfl

theorem State.getA_loadLower (s : State) (v : Nat) (r : Reg) :
    (s.loadLower v).getA r =
      if 2 ≤ r.val ∧ r.val ≤ 7 then blockWord v (wordPlace s.cfg.csaLayout.lower (r.val - 1)) else s.getA r := by
  unfold State.loadLower
  simp only [State.getA_setA, State.getA_setD]
  fin_cases r <;> rfl

end Sys2Proof.Machine
end

