-- ==== Sys2Proof/Laws/Effects.lean ====
section
/-! SUPPORT. Laws/Effects.lean: what each shared write of a result does, in the words of Safety.lean: a proof about an instruction shows that its meaning is one of these writes and cites the lemma. -/

namespace Sys2Proof.Machine

open Sys2Proof

theorem RestKept.refl (s : State) : RestKept s s :=
  ⟨⟨rfl, rfl⟩, rfl, ⟨rfl, rfl, rfl, rfl⟩, fun _ => rfl, rfl⟩

/-- D[c] <- v without flags. -/
theorem movesTo_putD {i : Instr} {s : State} {c : Reg} {len v : Word}
    (h : exec i s = .next (s.putD c v len)) : MovesTo i s c len v :=
  ⟨_, h, fun r => State.getD_putD s c v len r, fun _ => rfl, rfl, rfl, RestKept.refl s⟩

/-- E[c] <- v without flags. -/
theorem movesPairTo_putE {i : Instr} {s : State} {c : Reg} {len : Word} {v : DWord}
    (h : exec i s = .next (s.putE c v len)) : MovesPairTo i s c len v :=
  ⟨_, h, fun r => State.getD_putE s c v len r, fun _ => rfl, rfl, rfl, RestKept.refl s⟩

theorem overflowFlags_setOverflow {s t : State} {v av : Bool} {p q : Prop}
    (h : t.psw = Psw.setOverflow s.psw v av) (hv : v = true ↔ p) (hav : av = true ↔ q) : OverflowFlags s t p q := by
  unfold OverflowFlags
  rw [h, Psw.v_setOverflow, Psw.sv_setOverflow, Psw.av_setOverflow, Psw.sav_setOverflow]
  simp only [Bool.or_eq_true, hv, hav, and_self]

theorem statusKept_setOverflow {s t : State} {v av : Bool} (h : t.psw = Psw.setOverflow s.psw v av) :
    StatusKept s t := fun k hk => by rw [h, Psw.getLsbD_setOverflow_low _ _ _ hk]

/-- D[c] <- a result with V SV AV SAV. -/
theorem arithTo_putResult {i : Instr} {s : State} {c : Reg} {len v : Word} {q : Result 32} {ov : Prop}
    (h : exec i s = .next (s.putResult c q len)) (hv : q.value = v) (ho : q.v = true ↔ ov)
    (ha : q.av = advOverflow q.value) : ArithTo i s c len v ov CarryKept := by
  subst hv
  refine ⟨_, h, fun r => State.getD_putResult s c q len r, fun _ => rfl,
    overflowFlags_setOverflow rfl ho ?_, ?_, statusKept_setOverflow rfl, rfl, RestKept.refl s⟩
  · rw [ha]; exact advOverflow_iff q.value
  · exact Psw.c_setOverflow s.psw q.v q.av

theorem signedTo_putResult {i : Instr} {s : State} {c : Reg} {len : Word} {r r' : Int}
    (h : exec i s = .next (s.putResult c (signedResult 32 r') len)) (hr : r' = r) : SignedTo i s c len r := by
  subst hr
  exact arithTo_putResult h rfl (overflowSigned_iff 32 r') rfl

theorem signedSatTo_putResult {i : Instr} {s : State} {c : Reg} {len : Word} {r r' : Int}
    (h : exec i s = .next (s.putResult c (signedSatResult 32 r') len)) (hr : r' = r) : SignedSatTo i s c len r := by
  subst hr
  exact arithTo_putResult h (congrArg (BitVec.ofInt 32) (ssov_eq_clamp 32 r')) (overflowSigned_iff 32 r') rfl

theorem unsignedSatTo_putResult {i : Instr} {s : State} {c : Reg} {len : Word} {r r' : Int}
    (h : exec i s = .next (s.putResult c (unsignedSatResult 32 r') len)) (hr : r' = r) :
    UnsignedSatTo i s c len r := by
  subst hr
  exact arithTo_putResult h (congrArg (BitVec.ofInt 32) (suov_eq_clamp 32 r')) (overflowUnsigned_iff 32 r') rfl

/-- D[c] <- a result with C V SV AV SAV. -/
theorem signedCarryTo_putResultC {i : Instr} {s : State} {c : Reg} {len : Word} {r r' : Int} {b : Bool} {carry : Prop}
    (h : exec i s = .next (s.putResultC c (signedResult 32 r') b len)) (hr : r' = r) (hb : b = true ↔ carry) :
    SignedCarryTo i s c len r carry := by
  subst hr
  refine ⟨_, h, fun q => State.getD_putResultC s c _ b len q, fun _ => rfl, ?_, ?_, ?_, rfl, RestKept.refl s⟩
  · unfold OverflowFlags
    simp only [State.putResultC_psw, Psw.v_setC, Psw.sv_setC, Psw.av_setC, Psw.sav_setC, Psw.v_setOverflow,
      Psw.sv_setOverflow, Psw.av_setOverflow, Psw.sav_setOverflow, Bool.or_eq_true, signedResult_v, signedResult_av]
    have ho : overflowSigned 32 r' = true ↔ OutsideSigned 32 r' := overflowSigned_iff 32 r'
    have ha : advOverflow (BitVec.ofInt 32 r') = true ↔ TopBitsDiffer (BitVec.ofInt 32 r') := advOverflow_iff _
    exact ⟨ho, or_congr ho Iff.rfl, ha, or_congr ha Iff.rfl⟩
  · simp only [State.putResultC_psw, Psw.c_setC]; exact hb
  · intro k hk
    rw [State.putResultC_psw, Psw.getLsbD_setC, if_neg (by omega), Psw.getLsbD_setOverflow_low _ _ _ hk]

/-- E[c] <- a result with V SV AV SAV. -/
theorem arithPairTo_putResultE {i : Instr} {s : State} {c : Reg} {len : Word} {v : DWord} {q : Result 64}
    {ov av : Prop} (h : exec i s = .next (s.putResultE c q len)) (hv : q.value = v) (ho : q.v = true ↔ ov)
    (ha : q.av = true ↔ av) : ArithPairTo i s c len v ov av := by
  subst hv
  exact ⟨_, h, fun r => State.getD_putResultE s c q len r, fun _ => rfl, overflowFlags_setOverflow rfl ho ha,
    Psw.c_setOverflow s.psw q.v q.av, statusKept_setOverflow rfl, rfl, RestKept.refl s⟩

/-- The bytes of the model's packing. -/
theorem packBytes_eq_ofBytes (f : Nat → BitVec 8) : packBytes f = ofBytes f := by
  apply BitVec.eq_of_toNat_eq
  have h0 := (f 0).isLt
  have h1 := (f 1).isLt
  have h2 := (f 2).isLt
  have h3 := (f 3).isLt
  simp only [packBytes, ofBytes, BitVec.toNat_append, BitVec.toNat_ofNat]
  rw [← Nat.shiftLeft_add_eq_or_of_lt (by omega), ← Nat.shiftLeft_add_eq_or_of_lt (by omega),
    ← Nat.shiftLeft_add_eq_or_of_lt (by omega)]
  simp only [Nat.shiftLeft_eq]
  omega

/-- The halfwords of the model's packing. -/
theorem packHalves_eq_ofHalves (f : Nat → BitVec 16) : packHalves f = ofHalves f := by
  apply BitVec.eq_of_toNat_eq
  have h0 := (f 0).isLt
  have h1 := (f 1).isLt
  simp only [packHalves, ofHalves, BitVec.toNat_append, BitVec.toNat_ofNat]
  rw [← Nat.shiftLeft_add_eq_or_of_lt (by omega)]
  simp only [Nat.shiftLeft_eq]
  omega

/-- D[c] <- four byte results. -/
theorem bytesTo_putResult {i : Instr} {s : State} {c : Reg} {g : Nat → Result 8} {f : Nat → BitVec 8} {ov : Nat → Prop}
    (h : exec i s = .next (s.putResult c (packByteResults g) 4)) (hv : ∀ k, k < 4 → (g k).value = f k)
    (ho : ∀ k, k < 4 → ((g k).v = true ↔ ov k)) (ha : ∀ k, k < 4 → (g k).av = advOverflow (f k)) :
    BytesTo i s c f ov := by
  have hval : (packByteResults g).value = ofBytes f := by
    rw [← packBytes_eq_ofBytes]
    simp only [packByteResults, packBytes, hv 0 (by omega), hv 1 (by omega), hv 2 (by omega), hv 3 (by omega)]
  refine ⟨_, h, fun r => ?_, fun _ => rfl, overflowFlags_setOverflow rfl ?_ ?_, Psw.c_setOverflow s.psw _ _,
    statusKept_setOverflow rfl, rfl, RestKept.refl s⟩
  · rw [State.getD_putResult, hval]
  · simp only [packByteResults, Bool.or_eq_true, ho 0 (by omega), ho 1 (by omega), ho 2 (by omega), ho 3 (by omega)]
    constructor
    · rintro (((h | h) | h) | h)
      exacts [⟨0, by omega, h⟩, ⟨1, by omega, h⟩, ⟨2, by omega, h⟩, ⟨3, by omega, h⟩]
    · rintro ⟨k, hk, h⟩
      interval_cases k <;> simp_all
  · simp only [packByteResults, Bool.or_eq_true, ha 0 (by omega), ha 1 (by omega), ha 2 (by omega), ha 3 (by omega)]
    simp only [advOverflow_iff]
    constructor
    · rintro (((h | h) | h) | h)
      exacts [⟨0, by omega, h⟩, ⟨1, by omega, h⟩, ⟨2, by omega, h⟩, ⟨3, by omega, h⟩]
    · rintro ⟨k, hk, h⟩
      unfold TopBitsDiffer at h
      interval_cases k
      exacts [.inl (.inl (.inl h)), .inl (.inl (.inr h)), .inl (.inr h), .inr h]

/-- D[c] <- two halfword results. -/
theorem halvesTo_putResult {i : Instr} {s : State} {c : Reg} {g : Nat → Result 16} {f : Nat → BitVec 16}
    {ov : Nat → Prop} (h : exec i s = .next (s.putResult c (packHalfResults g) 4))
    (hv : ∀ k, k < 2 → (g k).value = f k) (ho : ∀ k, k < 2 → ((g k).v = true ↔ ov k))
    (ha : ∀ k, k < 2 → (g k).av = advOverflow (f k)) : HalvesTo i s c f ov := by
  have hval : (packHalfResults g).value = ofHalves f := by
    rw [← packHalves_eq_ofHalves]
    simp only [packHalfResults, packHalves, hv 0 (by omega), hv 1 (by omega)]
  refine ⟨_, h, fun r => ?_, fun _ => rfl, overflowFlags_setOverflow rfl ?_ ?_, Psw.c_setOverflow s.psw _ _,
    statusKept_setOverflow rfl, rfl, RestKept.refl s⟩
  · rw [State.getD_putResult, hval]
  · simp only [packHalfResults, Bool.or_eq_true, ho 0 (by omega), ho 1 (by omega)]
    constructor
    · rintro (h | h)
      exacts [⟨0, by omega, h⟩, ⟨1, by omega, h⟩]
    · rintro ⟨k, hk, h⟩
      interval_cases k <;> simp_all
  · simp only [packHalfResults, Bool.or_eq_true, ha 0 (by omega), ha 1 (by omega), advOverflow_iff]
    constructor
    · rintro (h | h)
      exacts [⟨0, by omega, h⟩, ⟨1, by omega, h⟩]
    · rintro ⟨k, hk, h⟩
      unfold TopBitsDiffer at h
      interval_cases k
      exacts [.inl h, .inr h]

/-! ## Address registers and jumps -/

theorem mayWriteA_iff (s : State) (c : Reg) : s.mayWriteA c = true ↔ MayWriteA s c := by
  simp only [State.mayWriteA, isGlobalReg, MayWriteA, Bool.or_eq_true, Bool.not_eq_true', Bool.or_eq_false_iff,
    beq_eq_false_iff_ne, and_assoc]

/-- A[c] <- v with the check of 10 R45. -/
theorem addressTo_putA {i : Instr} {s : State} {c : Reg} {len v : Word}
    (h : exec i s = onAddress s c (s.putA c v len)) : AddressTo i s c len v := by
  constructor
  · intro hm
    refine ⟨_, by rw [h, onAddress, if_pos ((mayWriteA_iff s c).2 hm)], fun r => State.getA_putA s c v len r,
      fun _ => rfl, rfl, rfl, RestKept.refl s⟩
  · intro hm
    rw [h, onAddress, if_neg fun hc => hm ((mayWriteA_iff s c).1 hc)]

/-- A jump. -/
theorem jumpsTo_setPc {i : Instr} {s : State} {t : Word} (h : exec i s = .next (s.setPc t)) : JumpsTo i s t :=
  ⟨_, h, fun _ => rfl, fun _ => rfl, rfl, rfl, RestKept.refl s⟩

/-- A conditional jump. -/
theorem branchesTo_branchIf {i : Instr} {s : State} {b : Bool} {p : Prop} {t len : Word}
    (h : exec i s = .next (s.branchIf b t len)) (hb : b = true ↔ p) : BranchesTo i s p t len := by
  constructor
  · intro hp
    rw [hb.2 hp] at h
    exact jumpsTo_setPc h
  · intro hp
    rw [Bool.eq_false_iff.2 fun he => hp (hb.1 he)] at h
    exact jumpsTo_setPc h

end Sys2Proof.Machine
end

