-- ==== Sys2Proof/Laws/Access.lean ====
section
/-! SUPPORT. Laws/Access.lean: the checks of an access (spec/20_memory.md rule R180 to R186) as the words of Safety.lean say them: one lemma per check, and one for the trap an access takes. -/

namespace Sys2Proof.Machine

open Sys2Proof

/-! ## Protection -/

theorem isPeripheral_iff (x : Word) : isPeripheral x = true ↔ 0xE0000000 ≤ x.toNat := by
  have := x.isLt
  unfold isPeripheral seg
  rw [decide_eq_true_iff, BitVec.extractLsb'_toNat, Nat.shiftRight_eq_div_pow]
  omega

theorem inCsfrArea_iff (x : Word) : inCsfrArea x = true ↔ 0x2FFFC000 ≤ x.toNat ∧ x.toNat ≤ 0x2FFFFFFF := by
  unfold inCsfrArea; rw [decide_eq_true_iff]

theorem seg_eq_iff (x y : Word) : seg x = seg y ↔ x.toNat / 2 ^ 28 = y.toNat / 2 ^ 28 := by
  have := x.isLt
  have := y.isLt
  unfold seg
  rw [← BitVec.toNat_inj, BitVec.extractLsb'_toNat, BitVec.extractLsb'_toNat, Nat.shiftRight_eq_div_pow,
    Nat.shiftRight_eq_div_pow]
  omega

theorem localUnimplemented_iff (c : Config) (x : Word) :
    localUnimplemented c x = true ↔ x.toNat < 0x30000000 ∧ memKind c x = none := by
  have := x.isLt
  unfold localUnimplemented seg
  rw [Bool.and_eq_true, decide_eq_true_iff, BitVec.extractLsb'_toNat, Nat.shiftRight_eq_div_pow,
    Option.isNone_iff_eq_none]
  constructor
  · rintro ⟨h, h'⟩; exact ⟨by omega, h'⟩
  · rintro ⟨h, h'⟩; exact ⟨by omega, h'⟩

/-- The entries of the current set permit what the entries of the protection set say (20 R180). -/
theorem setPermits_iff (sets : List (List RangeEntry)) (psw : Word) (bit : Nat) (x : Word) :
    setPermits (currentSet sets psw) bit x = true ↔ InRange sets psw bit x := by
  unfold setPermits currentSet InRange
  rw [List.any_eq_true, List.getD_eq_getElem?_getD]
  cases h : sets[(Psw.prs psw).toNat]? with
  | none => simp
  | some set =>
    simp only [Option.getD_some, Option.some.injEq, exists_eq_left', Bool.and_eq_true]
    refine exists_congr fun e => and_congr_right fun _ => ?_
    unfold RangeEntry.contains
    rw [decide_eq_true_iff, and_assoc]

theorem io_eq_zero_iff (p : Word) : (Psw.io p == 0) = true ↔ Psw.io p = 0 := by simp

theorem readPermitted_iff (s : State) (x : Word) (h : ¬ 0xE0000000 ≤ x.toNat) :
    s.readPermitted x = true ↔ Permitted s .read x := by
  unfold State.readPermitted Permitted State.proten
  rw [if_neg h, Bool.or_eq_true, Bool.or_eq_true, setPermits_iff, isPeripheral_iff]
  cases hp : s.csfr.syscon.getLsbD 1 <;> simp [h]

theorem writePermitted_iff (s : State) (x : Word) (h : ¬ 0xE0000000 ≤ x.toNat) :
    s.writePermitted x = true ↔ Permitted s .write x := by
  unfold State.writePermitted Permitted State.proten
  rw [if_neg h, Bool.or_eq_true, Bool.or_eq_true, setPermits_iff, isPeripheral_iff]
  cases hp : s.csfr.syscon.getLsbD 1 <;> simp [h]

theorem permitted_modify_iff (s : State) (x : Word) :
    Permitted s .modify x ↔ Permitted s .read x ∧ Permitted s .write x := by
  unfold Permitted
  split
  · simp
  · cases s.csfr.syscon.getLsbD 1 <;> simp

theorem permitted_peripheral (s : State) (k : Access) (x : Word) (h : 0xE0000000 ≤ x.toNat) :
    Permitted s k x ↔ Psw.io s.psw ≠ 0 := by
  unfold Permitted; rw [if_pos h]

/-- The protection of an access: the trap it takes, if any (20 R185 steps 5 and 6). -/
theorem protectionTrap_cases (s : State) (k : Access) (x : Word) :
    (s.protectionTrap k x = none ∧ Permitted s k x) ∨
    (s.protectionTrap k x = some .mpp ∧ ¬ Permitted s k x ∧ 0xE0000000 ≤ x.toNat ∧ Psw.io s.psw = 0) ∨
    (s.protectionTrap k x = some .mpr ∧ ¬ Permitted s k x ∧ ¬ (0xE0000000 ≤ x.toNat ∧ Psw.io s.psw = 0) ∧
      k ≠ .write ∧ ¬ Permitted s .read x) ∨
    (s.protectionTrap k x = some .mpw ∧ ¬ Permitted s k x ∧ ¬ (0xE0000000 ≤ x.toNat ∧ Psw.io s.psw = 0) ∧
      ¬ (k ≠ .write ∧ ¬ Permitted s .read x) ∧ k ≠ .read ∧ ¬ Permitted s .write x) := by
  unfold State.protectionTrap
  by_cases hp : 0xE0000000 ≤ x.toNat
  · have hp' := (isPeripheral_iff x).2 hp
    simp only [permitted_peripheral s _ x hp, hp', Bool.true_and, State.readPermitted, State.writePermitted,
      Bool.true_or, Bool.not_true, Bool.and_false]
    by_cases hio : Psw.io s.psw = 0
    · simp [hio, hp]
    · exact .inl ⟨by simp only [beq_iff_eq]; rw [if_neg hio]; simp, hio⟩
  · have hp' : isPeripheral x = false := by rw [← Bool.not_eq_true, isPeripheral_iff]; exact hp
    have hr := readPermitted_iff s x hp
    have hw := writePermitted_iff s x hp
    have hm := permitted_modify_iff s x
    rw [hp', Bool.false_and, if_neg (by simp)]
    cases k with
    | read =>
      cases h : s.readPermitted x
      · rw [h] at hr; simp [Access.reads, ← hr, hp]
      · rw [h] at hr; simp [Access.reads, Access.writes, ← hr]
    | write =>
      cases h : s.writePermitted x
      · rw [h] at hw; simp [Access.reads, Access.writes, ← hw, hp]
      · rw [h] at hw; simp [Access.reads, Access.writes, ← hw]
    | modify =>
      rw [hm]
      cases h : s.readPermitted x
      · rw [h] at hr; simp [Access.reads, ← hr, hp]
      · cases h' : s.writePermitted x
        · rw [h] at hr; rw [h'] at hw; simp [Access.reads, Access.writes, ← hr, ← hw, hp]
        · rw [h] at hr; rw [h'] at hw; simp [Access.reads, Access.writes, ← hr, ← hw]

/-! ## The trap of an access -/

theorem aligned_iff (p : Place) (align n : Nat) :
    p.aligned align n = true ↔
      p.ea.toNat % align = 0 ∧ ∀ r, p.ring = some r → r.base.toNat % n = 0 ∧ r.len % n = 0 := by
  unfold Place.aligned
  cases p.ring <;> simp

theorem not_aligned (p : Place) (align n : Nat) :
    p.aligned align n = false ↔
      p.ea.toNat % align ≠ 0 ∨ ∃ r, p.ring = some r ∧ ¬ (r.base.toNat % n = 0 ∧ r.len % n = 0) := by
  rw [← Bool.not_eq_true, aligned_iff]
  cases p.ring with
  | none => simp
  | some r => simp [imp_iff_not_or]

theorem mayUpdate_iff (s : State) (p : Place) :
    s.mayUpdate p = true ↔ ∀ r v, p.update = some (r, v) → MayWriteA s r := by
  unfold State.mayUpdate
  cases h : p.update with
  | none => simp
  | some q => obtain ⟨r, v⟩ := q; simp [mayWriteA_iff]

theorem leavesSegment_iff (p : Place) :
    p.leavesSegment = true ↔ ∃ b, p.base = some b ∧ b.toNat / 2 ^ 28 ≠ p.ea.toNat / 2 ^ 28 := by
  unfold Place.leavesSegment
  cases p.base with
  | none => simp
  | some b => simp [seg_eq_iff]

/-- The checks of a load or store in the words of Safety.lean: none traps exactly if the conditions hold, and the trap is
that of the first condition that fails. -/
theorem operandTrap_spec (s : State) (k : Access) (m : AddrMode) (pairs writes : List Reg) (align n : Nat)
    (pairOk mayWrite : Bool) (hp : pairOk = true ↔ ∀ r, r ∈ pairs → ¬ IsOdd r)
    (hw : mayWrite = true ↔ ∀ r, r ∈ writes → MayWriteA s r) :
    (s.operandTrap k (m.place s) pairOk mayWrite align n = none ∧ OperandOk s k m pairs writes align n) ∨
    ∃ x, s.operandTrap k (m.place s) pairOk mayWrite align n = some x ∧ ¬ OperandOk s k m pairs writes align n ∧
      FirstTrap s k m pairs writes align n x := by
  unfold State.operandTrap OperandOk FirstTrap
  simp only
  have hu := mayUpdate_iff s (m.place s)
  generalize m.place s = p at *
  by_cases h1 : pairOk = true ∧ p.pairOk = true
  swap
  · refine .inr ⟨.opd, ?_, fun h => h1 ⟨hp.2 h.1, h.2.1⟩, ?_⟩
    · rw [if_pos]; rw [Bool.not_eq_true', ← Bool.not_eq_true, Bool.and_eq_true]; exact h1
    · rw [if_pos]
      by_cases h : pairOk = true
      · exact .inr (by simpa [h] using h1)
      · rw [hp] at h; push Not at h; exact .inl h
  have hpp := hp.1 h1.1
  have c1 : ¬ ((!(pairOk && p.pairOk)) = true) := by simp [h1.1, h1.2]
  have c2 : ¬ ((∃ r, r ∈ pairs ∧ IsOdd r) ∨ p.pairOk = false) := by
    rintro (⟨r, hr, ho⟩ | h)
    · exact hpp r hr ho
    · rw [h1.2] at h; cases h
  simp only [if_neg c1, if_neg c2]
  by_cases h2 : mayWrite = true ∧ s.mayUpdate p = true
  swap
  · have : ¬ UpdateOk s p writes := fun h => h2 ⟨hw.2 h.1, hu.2 h.2⟩
    refine .inr ⟨.grwp, ?_, fun h => this h.2.2.1, ?_⟩
    · rw [if_pos]; rw [Bool.not_eq_true', ← Bool.not_eq_true, Bool.and_eq_true]; exact h2
    · rw [if_pos this]
  have hup : UpdateOk s p writes := ⟨hw.1 h2.1, hu.1 h2.2⟩
  have c3 : ¬ ((!(mayWrite && s.mayUpdate p)) = true) := by simp [h2.1, h2.2]
  simp only [if_neg c3, if_neg (not_not.2 hup)]
  unfold State.accessTrap AccessOk
  by_cases h3 : p.aligned align n = true
  swap
  · rw [Bool.not_eq_true] at h3
    have := (not_aligned p align n).1 h3
    refine .inr ⟨.aln, ?_, fun h => ?_, ?_⟩
    · rw [h3]; rfl
    · rcases this with h' | ⟨r, hr, h'⟩
      · exact h' h.2.2.2.1
      · exact h' (h.2.2.2.2.1 r hr)
    · rw [if_pos this]
  have ha := (aligned_iff p align n).1 h3
  have c4 : ¬ ((!p.aligned align n) = true) := by simp [h3]
  have c5 : ¬ (p.ea.toNat % align ≠ 0 ∨ ∃ r, p.ring = some r ∧ ¬ (r.base.toNat % n = 0 ∧ r.len % n = 0)) := by
    rw [← not_aligned, h3]; simp
  simp only [if_neg c4, if_neg c5]
  have hseg := leavesSegment_iff p
  by_cases h4 : (∃ b, p.base = some b ∧ b.toNat / 2 ^ 28 ≠ p.ea.toNat / 2 ^ 28) ∨
      (0x2FFFC000 ≤ p.ea.toNat ∧ p.ea.toNat ≤ 0x2FFFFFFF)
  · refine .inr ⟨.mem, ?_, fun h => ?_, ?_⟩
    · rw [if_pos]; rw [Bool.or_eq_true, hseg, inCsfrArea_iff]; exact h4
    · rcases h4 with ⟨b, hb, h'⟩ | h'
      · exact h' (h.2.2.2.2.2.1 b hb)
      · exact h.2.2.2.2.2.2.1 h'
    · rw [if_pos h4]
  have c6 : ¬ ((p.leavesSegment || inCsfrArea p.ea) = true) := by
    rw [Bool.or_eq_true, hseg, inCsfrArea_iff]; exact h4
  simp only [if_neg c6, if_neg h4]
  push Not at h4
  by_cases h5 : s.cfg.mpnCheck = true ∧ p.ea = 0
  · refine .inr ⟨.mpn, ?_, fun h => h.2.2.2.2.2.2.2.1 h5, ?_⟩
    · rw [if_pos]; rw [Bool.and_eq_true, beq_iff_eq]; exact h5
    · rw [if_pos h5]
  have c7 : ¬ ((s.cfg.mpnCheck && p.ea == 0) = true) := by simpa using h5
  simp only [if_neg c7, if_neg h5]
  rcases protectionTrap_cases s k p.ea with ⟨h, hk⟩ | ⟨h, hk, hq⟩ | ⟨h, hk, hq, hq'⟩ | ⟨h, hk, hq, hq', hq''⟩
  · rw [h]
    simp only
    by_cases h6 : localUnimplemented s.cfg p.ea = true
    · refine .inr ⟨.bus .bus, by rw [if_pos h6], fun h => ?_, ?_⟩
      · exact h.2.2.2.2.2.2.2.2.2 ((localUnimplemented_iff _ _).1 h6).1 ((localUnimplemented_iff _ _).1 h6).2
      · have hn : ¬ (0xE0000000 ≤ p.ea.toNat ∧ Psw.io s.psw = 0) := by
          rintro ⟨q1, q2⟩
          rw [permitted_peripheral s k _ q1] at hk
          exact hk q2
        have hl := ((localUnimplemented_iff _ _).1 h6).1
        rw [if_neg hn, if_neg, if_neg]
        · rintro ⟨q1, q2⟩
          cases k with
          | read => exact q1 rfl
          | write => exact q2 hk
          | modify => exact q2 ((permitted_modify_iff s _).1 hk).2
        · rintro ⟨q1, q2⟩
          cases k with
          | read => exact q2 hk
          | write => exact q1 rfl
          | modify => exact q2 ((permitted_modify_iff s _).1 hk).1
    · refine .inl ⟨by rw [if_neg h6], hpp, h1.2, hup, ha.1, ha.2, fun b hb => ?_, fun h => ?_, h5, hk, fun h' h'' => ?_⟩
      · exact h4.1 b hb
      · exact absurd (h4.2 h.1) (by omega)
      · exact h6 ((localUnimplemented_iff _ _).2 ⟨h', h''⟩)
  · exact .inr ⟨.mpp, by rw [h], fun h' => hk h'.2.2.2.2.2.2.2.2.1, by rw [if_pos hq]⟩
  · exact .inr ⟨.mpr, by rw [h], fun h' => hk h'.2.2.2.2.2.2.2.2.1, by rw [if_neg hq, if_pos hq']⟩
  · exact .inr ⟨.mpw, by rw [h], fun h' => hk h'.2.2.2.2.2.2.2.2.1, by rw [if_neg hq, if_neg hq', if_pos hq'']⟩

theorem seg_le_two (x : Word) : (seg x).toNat ≤ 2 ↔ x.toNat < 0x30000000 := by
  unfold seg; rw [BitVec.extractLsb'_toNat]; simp [Nat.shiftRight_eq_div_pow]; omega

/-- The checks of a CSA by an instruction, and all their outcomes (60 R971 a). -/
theorem csaTrap_spec (s : State) (x : Word) :
    (0xE0000000 ≤ x.toNat → Psw.io s.psw = 0 → s.csaTrap x = some .mpp) ∧
    (x.toNat < 0xE0000000 → ¬ Permitted s .read x → s.csaTrap x = some .mpr) ∧
    (x.toNat < 0xE0000000 → Permitted s .read x → ¬ Permitted s .write x → s.csaTrap x = some .mpw) ∧
    (Permitted s .modify x → x.toNat < 0x30000000 → csaKind s.cfg x = none → s.csaTrap x = some (.bus .bus)) ∧
    (Permitted s .modify x → (x.toNat < 0x30000000 → csaKind s.cfg x ≠ none) → s.csaTrap x = none) := by
  have hseg := seg_le_two x
  unfold State.csaTrap
  rcases protectionTrap_cases s .modify x with ⟨e, hk⟩ | ⟨e, hk, hq, _⟩ | ⟨e, hk, hq, hq'⟩ | ⟨e, hk, hq, hq', hq''⟩
  · rw [e]
    have hm := (permitted_modify_iff s x).1 hk
    refine ⟨fun h h' => ?_, fun _ h => absurd hm.1 h, fun _ _ h => absurd hm.2 h, fun _ h h' => ?_, fun _ h => ?_⟩
    · unfold Permitted at hk; rw [if_pos h] at hk; exact absurd h' hk
    · simp [hseg.2 h, h']
    · by_cases h3 : x.toNat < 0x30000000
      · have := h h3
        cases hc : csaKind s.cfg x with
        | none => exact absurd hc this
        | some _ => simp
      · simp [mt hseg.1 h3]
  · rw [e]
    exact ⟨fun _ _ => rfl, fun h => absurd hq (by omega), fun h => absurd hq (by omega), fun h => absurd h hk,
      fun h => absurd h hk⟩
  · rw [e]
    refine ⟨fun h h' => absurd ⟨h, h'⟩ hq, fun _ _ => rfl, fun _ h => absurd h hq'.2, fun h => absurd h hk,
      fun h => absurd h hk⟩
  · rw [e]
    have : Permitted s .read x := by
      by_contra hc; exact hq' ⟨by simp, hc⟩
    exact ⟨fun h h' => absurd ⟨h, h'⟩ hq, fun _ h => absurd this h, fun _ _ _ => rfl, fun h => absurd h hk,
      fun h => absurd h hk⟩
end Sys2Proof.Machine
end

