-- ==== Sys2Proof/Laws/Constants.lean ====
section
/-! SUPPORT. Laws/Constants.lean: the values of the constants, displacements and register pairs that the operand forms extend (spec/30_encoding.md rule R220, R222; 41 R390). -/

namespace Sys2Proof.Machine

open Sys2Proof

/-! ## Constants -/

/-- Two bit vectors side by side, the second the lower. -/
theorem toNat_append_add {n k : Nat} (x : BitVec n) (y : BitVec k) :
    (x ++ y).toNat = x.toNat * 2 ^ k + y.toNat := by
  rw [BitVec.toNat_append, ← Nat.shiftLeft_add_eq_or_of_lt y.isLt, Nat.shiftLeft_eq]

theorem toNat_append_zero {n k : Nat} (x : BitVec n) : (x ++ (0 : BitVec k)).toNat = x.toNat * 2 ^ k := by
  rw [toNat_append_add, show (0 : BitVec k).toNat = 0 from BitVec.toNat_zero, Nat.add_zero]

theorem sext4_eq (x : BitVec 4) : sext4 x = BitVec.ofInt 32 x.toInt := rfl
theorem sext9_eq (x : BitVec 9) : sext9 x = BitVec.ofInt 32 x.toInt := rfl
theorem sext10_eq (x : BitVec 10) : sext10 x = BitVec.ofInt 32 x.toInt := rfl
theorem sext16_eq (x : BitVec 16) : sext16 x = BitVec.ofInt 32 x.toInt := rfl
theorem zext4_eq (x : BitVec 4) : zext4 x = BitVec.ofNat 32 x.toNat := (BitVec.ofNat_toNat 32 x).symm
theorem zext8_eq (x : BitVec 8) : zext8 x = BitVec.ofNat 32 x.toNat := (BitVec.ofNat_toNat 32 x).symm
theorem zext16_eq (x : BitVec 16) : zext16 x = BitVec.ofNat 32 x.toNat := (BitVec.ofNat_toNat 32 x).symm

theorem sext4_toInt (x : BitVec 4) : (sext4 x).toInt = x.toInt := BitVec.toInt_signExtend_of_le (by omega)
theorem sext9_toInt (x : BitVec 9) : (sext9 x).toInt = x.toInt := BitVec.toInt_signExtend_of_le (by omega)
theorem sext16_toInt (x : BitVec 16) : (sext16 x).toInt = x.toInt := BitVec.toInt_signExtend_of_le (by omega)

theorem zext4_toNat (x : BitVec 4) : (zext4 x).toNat = x.toNat := by
  have := x.isLt
  simp only [zext4, BitVec.toNat_setWidth]
  omega

/-- Bit 8 of a zero-extended const9 is ignored (00 R26). -/
theorem zext9_toNat (x : BitVec 9) : (zext9 x).toNat = x.toNat % 256 := by
  simp only [zext9, BitVec.toNat_setWidth]
  omega

theorem zext9_eq (x : BitVec 9) : zext9 x = BitVec.ofNat 32 (x.toNat % 256) := by
  apply BitVec.eq_of_toNat_eq
  rw [zext9_toNat, BitVec.toNat_ofNat]
  omega

theorem high16_toNat (x : BitVec 16) : (high16 x).toNat = x.toNat * 2 ^ 16 := by
  rw [high16, toNat_append_zero]

theorem high16_eq (x : BitVec 16) : high16 x = BitVec.ofNat 32 (x.toNat * 2 ^ 16) := by
  apply BitVec.eq_of_toNat_eq
  have := x.isLt
  rw [high16_toNat, BitVec.toNat_ofNat]
  omega

theorem high16_toInt (x : BitVec 16) : (high16 x).toInt = x.toInt * 2 ^ 16 := by
  have := x.isLt
  rw [BitVec.toInt_eq_toNat_cond, BitVec.toInt_eq_toNat_cond, high16_toNat]
  split <;> split <;> omega

/-! ## Register pairs -/

theorem State.getE_toNat (s : State) (r : Reg) :
    (s.getE r).toNat = (s.getD (r + 1)).toNat * 2 ^ 32 + (s.getD r).toNat := by
  rw [State.getE, toNat_append_add]

theorem State.uE_eq (s : State) (r : Reg) : s.uE r = s.uD (r + 1) * 2 ^ 32 + s.uD r := by
  simp only [State.uE, State.uD, State.getE_toNat]
  push_cast
  ring

theorem State.sE_eq (s : State) (r : Reg) : s.sE r = s.sD (r + 1) * 2 ^ 32 + s.uD r := by
  have h0 := (s.getD r).isLt
  have h1 := (s.getD (r + 1)).isLt
  simp only [State.sE, State.sD, State.uD, BitVec.toInt_eq_toNat_cond, State.getE_toNat]
  split <;> split <;> push_cast <;> omega

/-! ## Displacements (30 R222) -/

theorem relTarget24_eq (pc : Word) (d : BitVec 24) : relTarget24 pc d = pc + BitVec.ofInt 32 (2 * d.toInt) := by
  unfold relTarget24
  congr 1
  rw [show (d ++ (0 : BitVec 1)).signExtend 32 = BitVec.ofInt 32 (d ++ (0 : BitVec 1)).toInt from rfl]
  congr 1
  have := d.isLt
  have h : (d ++ (0 : BitVec 1)).toNat = 2 * d.toNat := by
    rw [toNat_append_zero]; omega
  rw [BitVec.toInt_eq_toNat_cond, BitVec.toInt_eq_toNat_cond, h]
  split <;> split <;> omega

theorem relTarget15_eq (pc : Word) (d : BitVec 15) : relTarget15 pc d = pc + BitVec.ofInt 32 (2 * d.toInt) := by
  unfold relTarget15
  congr 1
  rw [show (d ++ (0 : BitVec 1)).signExtend 32 = BitVec.ofInt 32 (d ++ (0 : BitVec 1)).toInt from rfl]
  congr 1
  have := d.isLt
  have h : (d ++ (0 : BitVec 1)).toNat = 2 * d.toNat := by
    rw [toNat_append_zero]; omega
  rw [BitVec.toInt_eq_toNat_cond, BitVec.toInt_eq_toNat_cond, h]
  split <;> split <;> omega

theorem relTarget8_eq (pc : Word) (d : BitVec 8) : relTarget8 pc d = pc + BitVec.ofInt 32 (2 * d.toInt) := by
  unfold relTarget8
  congr 1
  rw [show (d ++ (0 : BitVec 1)).signExtend 32 = BitVec.ofInt 32 (d ++ (0 : BitVec 1)).toInt from rfl]
  congr 1
  have := d.isLt
  have h : (d ++ (0 : BitVec 1)).toNat = 2 * d.toNat := by
    rw [toNat_append_zero]; omega
  rw [BitVec.toInt_eq_toNat_cond, BitVec.toInt_eq_toNat_cond, h]
  split <;> split <;> omega

theorem relTarget4_eq (pc : Word) (d : BitVec 4) : relTarget4 pc d = pc + BitVec.ofNat 32 (2 * d.toNat) := by
  revert d; unfold relTarget4; intro d
  congr 1
  revert d; decide

theorem loopTarget4_eq (pc : Word) (d : BitVec 4) :
    loopTarget4 pc d = pc + BitVec.ofInt 32 (2 * (d.toNat : Int) - 32) := by
  unfold loopTarget4
  congr 1
  revert d; decide

theorem absTarget24_eq (d : BitVec 24) :
    absTarget24 d = BitVec.ofNat 32 (d.toNat / 2 ^ 20 * 2 ^ 28 + d.toNat % 2 ^ 20 * 2) := by
  apply BitVec.eq_of_toNat_eq
  have := d.isLt
  rw [absTarget24, toNat_append_zero, toNat_append_add, toNat_append_zero]
  simp only [BitVec.extractLsb'_toNat, BitVec.toNat_ofNat, Nat.shiftRight_eq_div_pow]
  omega

/-- Bit 0 of an indirect target is dropped (10 R53). -/
theorem evenTarget_even (x : Word) : (evenTarget x).getLsbD 0 = false := by
  simp [evenTarget]

end Sys2Proof.Machine
end

