-- ==== Sys2Proof/Laws/Context.lean ====
section
/-! SUPPORT. Laws/Context.lean: what a context save and a context restore do, and what the entry of a trap or interrupt leaves (spec/60_exceptions.md rule R965 to R976): one lemma per operation. -/

namespace Sys2Proof.Machine

open Sys2Proof

/-! ## Words of a context save area -/

theorem csaByte_inj (e : Word) {n : Nat} (hn : n ≤ 64) : ∀ i < n, ∀ j < n, csaByte e i = csaByte e j → i = j := by
  intro i hi j hj h
  unfold csaByte at h
  rw [BitVec.add_right_inj] at h
  have := congrArg BitVec.toNat h
  simp only [BitVec.toNat_ofNat] at this
  omega

theorem csaByte_add (e : Word) (i j : Nat) : csaByte (e + BitVec.ofNat 32 i) j = csaByte e (i + j) := by
  unfold csaByte
  rw [BitVec.add_assoc, ← BitVec.ofNat_add]

theorem wordAt_eq (m : List Host.Cell) (x : Word) : wordAt m x = BitVec.ofNat 32 (Memory.readBytes m (csaByte x) 4) := rfl

/-- Reading is cut at byte `i`. -/
theorem Memory.readBytes_div (m : List Host.Cell) (addr : Nat → Word) (i n : Nat) :
    Memory.readBytes m addr (i + n) / 256 ^ i = Memory.readBytes m (fun k => addr (i + k)) n := by
  induction n with
  | zero => simp [Memory.readBytes, Nat.div_eq_of_lt (Memory.readBytes_lt m addr i)]
  | succ n ih =>
    rw [← Nat.add_assoc, Memory.readBytes, Memory.readBytes, ← ih, pow_add, ← Nat.mul_assoc, Nat.mul_right_comm,
      Nat.add_mul_div_right _ _ (by positivity)]

theorem Memory.readBytes_mod (m : List Host.Cell) (addr : Nat → Word) (n k : Nat) :
    Memory.readBytes m addr (n + k) % 256 ^ n = Memory.readBytes m addr n := by
  induction k with
  | zero => exact Nat.mod_eq_of_lt (Memory.readBytes_lt m addr n)
  | succ k ih =>
    rw [← Nat.add_assoc, Memory.readBytes, pow_add, Nat.mul_left_comm, Nat.add_mul_mod_self_left, ih]

/-- Word `i` of a block read as one value is the word that stands there. -/
theorem blockWord_readBytes (m : List Host.Cell) (e : Word) {i : Nat} (hi : i < 16) :
    blockWord (Memory.readBytes m (csaByte e) 64) i = wordAt m (e + BitVec.ofNat 32 (4 * i)) := by
  rw [wordAt_eq, blockWord]
  have h1 : (2 : Nat) ^ (32 * i) = 256 ^ (4 * i) := by
    rw [show (256 : Nat) = 2 ^ 8 from rfl, ← pow_mul]; congr 1; omega
  have h2 : 64 = 4 * i + (64 - 4 * i) := by omega
  rw [h1, h2, Memory.readBytes_div]
  have h3 : 64 - 4 * i = 4 + (60 - 4 * i) := by omega
  rw [h3]
  have hf : (fun k => csaByte e (4 * i + k)) = csaByte (e + BitVec.ofNat 32 (4 * i)) := by
    funext k; exact (csaByte_add e (4 * i) k).symm
  rw [hf, ← Memory.readBytes_mod m (csaByte (e + BitVec.ofNat 32 (4 * i))) 4 (60 - 4 * i)]
  apply BitVec.eq_of_toNat_eq
  rw [BitVec.toNat_ofNat, BitVec.toNat_ofNat]
  rw [show (256 : Nat) ^ 4 = 2 ^ 32 from rfl, Nat.mod_mod]

theorem blockValue_lt (l : List Word) : blockValue l < 2 ^ (32 * l.length) := by
  induction l with
  | nil => simp [blockValue]
  | cons w rest ih =>
    have := w.isLt
    rw [blockValue, List.length_cons, Nat.mul_add, pow_add, show (2 : Nat) ^ (32 * 1) = 4294967296 by norm_num]
    generalize 2 ^ (32 * rest.length) = p at *
    omega

theorem blockWord_blockValue (l : List Word) (i : Nat) (w : Word) (h : l[i]? = some w) :
    blockWord (blockValue l) i = w := by
  induction l generalizing i with
  | nil => simp at h
  | cons x rest ih =>
    have hx := x.isLt
    cases i with
    | zero =>
      simp only [List.getElem?_cons_zero, Option.some.injEq] at h
      subst h
      apply BitVec.eq_of_toNat_eq
      rw [blockWord, blockValue, BitVec.toNat_ofNat]
      omega
    | succ i =>
      simp only [List.getElem?_cons_succ] at h
      rw [← ih i h, blockWord, blockWord, blockValue, Nat.mul_add, Nat.mul_one, pow_add, Nat.mul_comm (2 ^ (32 * i)),
        ← Nat.div_div_eq_div_mul]
      congr 2
      omega

/-- A context written to memory is read back word by word, and no other byte changes. -/
theorem context_written {m : List Host.Cell} (e : Word) (l : List Word) (hl : l.length = 16) :
    (Memory.wf m = true → ∀ k w, l[k]? = some w →
      wordAt (Memory.writeBytes m (csaByte e) (blockValue l) 64) (e + BitVec.ofNat 32 (4 * k)) = w) ∧
    ∀ x, (∀ k, k < 64 → x ≠ (e + BitVec.ofNat 32 k).toNat) →
      Memory.read (Memory.writeBytes m (csaByte e) (blockValue l) 64) x = Memory.read m x := by
  constructor
  · intro hm k w h
    have hk : k < 16 := by
      obtain ⟨hk, -⟩ := List.getElem?_eq_some_iff.1 h
      omega
    rw [← blockWord_readBytes _ _ hk, Memory.readBytes_writeBytes hm _ _ _ (csaByte_inj e le_rfl),
      Nat.mod_eq_of_lt, blockWord_blockValue l k w h]
    have := blockValue_lt l
    rw [hl] at this
    exact lt_of_lt_of_eq this (by rw [show (256 : Nat) = 2 ^ 8 from rfl, ← pow_mul])
  · intro x hx
    exact Memory.read_writeBytes_other m (csaByte e) _ 64 x hx

/-! ## The list registers -/

theorem pointer_setField (x : Word) (v : BitVec 20) : pointer (setField x 0 20 v) = v := by
  apply BitVec.eq_of_getLsbD_eq
  intro k hk
  rw [pointer, BitVec.getLsbD_extractLsb', Nat.zero_add, getLsbD_setField _ _ _ _ _ (by omega)]
  simp [hk]

theorem upper_setField (x : Word) (v : BitVec 20) :
    (setField x 0 20 v).extractLsb' 20 12 = x.extractLsb' 20 12 := by
  apply BitVec.eq_of_getLsbD_eq
  intro k hk
  rw [BitVec.getLsbD_extractLsb', BitVec.getLsbD_extractLsb', getLsbD_setField _ _ _ _ _ (by omega)]
  have : ¬ (20 + k < 20) := by omega
  simp [this]

theorem pcxiAfterSave_fields (icr fcx : Word) (upper : Bool) :
    pointer (pcxiAfterSave icr fcx upper) = pointer fcx ∧ Pcxi.pcpn (pcxiAfterSave icr fcx upper) = Icr.ccpn icr ∧
    Pcxi.pie (pcxiAfterSave icr fcx upper) = Icr.ie icr ∧ Pcxi.ul (pcxiAfterSave icr fcx upper) = upper ∧
    (pcxiAfterSave icr fcx upper).extractLsb' 20 2 = 0 := by
  unfold pcxiAfterSave
  refine ⟨?_, ?_, ?_, ?_, ?_⟩
  · apply BitVec.eq_of_getLsbD_eq
    intro k hk
    rw [pointer, BitVec.getLsbD_extractLsb', Nat.zero_add, BitVec.getLsbD_append]
    simp [hk]
  · apply BitVec.eq_of_getLsbD_eq
    intro k hk
    rw [Pcxi.pcpn, BitVec.getLsbD_extractLsb']
    simp only [BitVec.getLsbD_append]
    have h1 : ¬ 24 + k < 20 := by omega
    have h2 : ¬ 24 + k - 20 < 2 := by omega
    have h3 : ¬ 24 + k - 20 - 2 < 1 := by omega
    have h4 : ¬ 24 + k - 20 - 2 - 1 < 1 := by omega
    have h5 : 24 + k - 20 - 2 - 1 - 1 = k := by omega
    simp [hk, h1, h2, h3, h4, h5]
  · simp only [Pcxi.pie, BitVec.getLsbD_append]; cases Icr.ie icr <;> rfl
  · simp only [Pcxi.ul, BitVec.getLsbD_append]; cases upper <;> rfl
  · apply BitVec.eq_of_getLsbD_eq
    intro k hk
    rw [BitVec.getLsbD_extractLsb']
    simp only [BitVec.getLsbD_append]
    interval_cases k <;> rfl

/-! ## Saving a context -/

theorem contextWords_length (places : Vector (Fin 16) 15) (link : Word) (regs : List Word) :
    (contextWords places link regs).length = 16 := by
  have h : ∀ (ps : List (Fin 16 × Word)) (l : List Word),
      (ps.foldl (fun l p => l.set p.1.val p.2) l).length = l.length := by
    intro ps
    induction ps with
    | nil => exact fun _ => rfl
    | cons p ps ih => intro l; rw [List.foldl_cons, ih, List.length_set]
  exact h _ _

/-- Every register of a legal layout stands at its place, and the link word is word 0 (60 R965). -/
theorem contextWords_laidOut (places : Vector (Fin 16) 15) (link : Word) (regs : List Word) (hr : regs.length = 15) :
    LaidOut places (contextWords places link regs) link regs := by
  refine ⟨contextWords_length _ _ _, fun ⟨h0, hi⟩ => ?_⟩
  have other : ∀ (ps : List (Fin 16 × Word)) (l : List Word) (k : Nat), (∀ p, p ∈ ps → p.1.val ≠ k) →
      (ps.foldl (fun l p => l.set p.1.val p.2) l)[k]? = l[k]? := by
    intro ps
    induction ps with
    | nil => exact fun _ _ _ => rfl
    | cons p ps ih =>
      intro l k h
      rw [List.foldl_cons, ih _ _ fun q hq => h q (List.mem_cons_of_mem _ hq)]
      exact List.getElem?_set_ne (h p List.mem_cons_self)
  have at_ : ∀ (ps : List (Fin 16 × Word)) (l : List Word), l.length = 16 →
      (ps.Pairwise fun p q => p.1.val ≠ q.1.val) → ∀ p, p ∈ ps →
      (ps.foldl (fun l p => l.set p.1.val p.2) l)[p.1.val]? = some p.2 := by
    intro ps
    induction ps with
    | nil => intro _ _ _ p hp; cases hp
    | cons q ps ih =>
      intro l hl hd p hp
      rw [List.pairwise_cons] at hd
      rw [List.foldl_cons]
      rcases List.mem_cons.1 hp with rfl | hp
      · rw [other _ _ _ fun x hx => (hd.1 x hx).symm]
        exact List.getElem?_set_self (by rw [hl]; exact p.1.isLt)
      · exact ih _ (by rw [List.length_set, hl]) hd.2 p hp
  have place : ∀ i (h : i < 15), wordPlace places i = (places[i]).val := fun i h => dif_pos h
  have hz : ∀ i x y, (places.toList.zip regs)[i]? = some (x, y) → i < 15 ∧ x.val = wordPlace places i ∧
      regs[i]? = some y := by
    intro i x y h
    rw [List.getElem?_zip_eq_some] at h
    obtain ⟨h1, h2⟩ := h
    rw [Vector.getElem?_toList] at h1
    obtain ⟨h3, h4⟩ := Vector.getElem?_eq_some_iff.1 h1
    exact ⟨h3, by rw [place i h3, h4], h2⟩
  have hpw : (places.toList.zip regs).Pairwise fun p q => p.1.val ≠ q.1.val := by
    rw [List.pairwise_iff_getElem]
    intro i j hi' hj' hij h
    obtain ⟨a1, a2, -⟩ := hz i _ _ (List.getElem?_eq_getElem hi')
    obtain ⟨b1, b2, -⟩ := hz j _ _ (List.getElem?_eq_getElem hj')
    exact absurd (hi i j a1 b1 (a2.symm.trans (h.trans b2))) (by omega)
  refine ⟨?_, fun i x hx => ?_⟩
  · unfold contextWords
    rw [other _ _ 0 fun p hp h => ?_]
    · rfl
    · obtain ⟨i, hi'⟩ := List.mem_iff_getElem?.1 hp
      obtain ⟨a1, a2, -⟩ := hz i _ _ hi'
      exact h0 i a1 (a2.symm.trans h)
  · have h15 : i < 15 := by
      obtain ⟨h, -⟩ := List.getElem?_eq_some_iff.1 hx
      omega
    have hm : (places[i], x) ∈ places.toList.zip regs := by
      refine List.mem_iff_getElem?.2 ⟨i, ?_⟩
      rw [List.getElem?_zip_eq_some]
      exact ⟨by rw [Vector.getElem?_toList, Vector.getElem?_eq_getElem h15], hx⟩
    rw [place i h15]
    exact at_ _ _ (by simp) hpw _ hm

theorem State.upperContext_length (s : State) : s.upperContext.length = 16 := contextWords_length _ _ _
theorem State.lowerContext_length (s : State) : s.lowerContext.length = 16 := contextWords_length _ _ _

theorem blockValue_eq (l : List Word) : blockValue l = wordsValue l := by
  induction l with
  | nil => rfl
  | cons w l ih => rw [blockValue, ih]; rfl

theorem pointer_wordAt (m : List Host.Cell) (x : Word) :
    pointer (wordAt m x) = BitVec.ofNat 20 (Memory.readBytes m (csaByte x) 4) := by
  apply BitVec.eq_of_toNat_eq
  rw [wordAt_eq, pointer, BitVec.extractLsb'_toNat, BitVec.toNat_ofNat, BitVec.toNat_ofNat]
  omega

/-- The link word of a CSA as a save reads it. -/
theorem pointer_csaWord (s : State) (x : Word) :
    pointer (csaWord s x 4 0) = BitVec.ofNat 20 (s.readValue (csaKind s.cfg x) (csaByte x) 4) := by
  unfold csaWord State.readValue
  rw [show x + BitVec.ofNat 32 (4 * 0) = x by simp]
  rcases hk : csaKind s.cfg x with _ | k
  · rw [if_neg (by simp), Nat.mul_zero, Nat.pow_zero, Nat.div_one]
    apply BitVec.eq_of_toNat_eq
    rw [pointer, BitVec.extractLsb'_toNat, BitVec.toNat_ofNat, BitVec.toNat_ofNat]
    simp only
    omega
  · cases k
    · rw [if_pos rfl, pointer_wordAt]
    · rw [if_neg (by simp), Nat.mul_zero, Nat.pow_zero, Nat.div_one]
      apply BitVec.eq_of_toNat_eq
      rw [pointer, BitVec.extractLsb'_toNat, BitVec.toNat_ofNat, BitVec.toNat_ofNat]
      simp only
      omega

/-- Word `i` of a block that an instruction reads at a CSA. -/
theorem blockWord_csaWord (s : State) (x : Word) {i : Nat} (hi : i < 16) :
    blockWord (s.readValue (csaKind s.cfg x) (csaByte x) 64) i = csaWord s x 64 i := by
  unfold csaWord State.readValue
  rcases hk : csaKind s.cfg x with _ | k
  · rw [if_neg (by simp)]; rfl
  · cases k
    · rw [if_pos rfl]; exact blockWord_readBytes _ _ hi
    · rw [if_neg (by simp)]; rfl

theorem wordPlace_lt (places : Vector (Fin 16) 15) (i : Nat) : wordPlace places i < 16 := by
  unfold wordPlace
  split
  · exact Fin.isLt _
  · omega

/-- The read and the write of a context operation at the CSA `x`: the memory, the boundary, and nothing else. -/
theorem csaAccess_spec (s : State) (x : Word) (rd wr v : Nat) (t : State)
    (ht : t = (s.afterRead (csaKind s.cfg x) (csaByte x) rd).writeValue (csaKind s.cfg x) (csaByte x) wr v) :
    t.mem = (if csaKind s.cfg x = some .storage then Memory.writeBytes s.mem (csaByte x) v wr else s.mem) ∧
    t.env = { s.env with
      outputs := (if csaKind s.cfg x = some .device then
          [.deviceStore x wr (v % 256 ^ wr) s.supervisor, .deviceLoad x rd s.supervisor] else []) ++ s.env.outputs
      freeCount := s.env.freeCount + if csaKind s.cfg x = some .storage then 0 else rd } ∧
    (∀ r, t.getD r = s.getD r) ∧ (∀ r, t.getA r = s.getA r) ∧ t.pc = s.pc ∧ t.psw = s.psw ∧ t.pcxi = s.pcxi ∧
    t.fcx = s.fcx ∧ t.icr = s.icr ∧ SystemKept s t := by
  have h0 : csaByte x 0 = x := by unfold csaByte; simp
  subst ht
  unfold State.afterRead State.writeValue
  rcases hk : csaKind s.cfg x with _ | k
  · exact ⟨rfl, rfl, fun _ => rfl, fun _ => rfl, rfl, rfl, rfl, rfl, rfl, rfl, rfl, rfl, rfl⟩
  · cases k
    · exact ⟨rfl, rfl, fun _ => rfl, fun _ => rfl, rfl, rfl, rfl, rfl, rfl, rfl, rfl, rfl, rfl⟩
    · simp only [h0]
      exact ⟨rfl, rfl, fun _ => rfl, fun _ => rfl, rfl, rfl, rfl, rfl, rfl, rfl, rfl, rfl, rfl⟩

/-- A save of a context (60 R966): the lists, the memory and everything else, whatever stands at the CSA. -/
theorem saveContext_spec (s : State) (upper : Bool) :
    ContextStored s (s.saveContext upper) (if upper then s.upperContext else s.lowerContext) ∧
    ListsAfterSave s (s.saveContext upper) upper ∧
    (∀ r, (s.saveContext upper).getD r = s.getD r) ∧ (∀ r, (s.saveContext upper).getA r = s.getA r) ∧
    (s.saveContext upper).pc = s.pc ∧ (s.saveContext upper).psw = s.psw ∧ (s.saveContext upper).icr = s.icr ∧
    SystemKept s (s.saveContext upper) ∧
    (s.saveContext upper).env = { s.env with
      outputs := (if csaKind s.cfg (csaAddress s.fcx) = some .device then
          [.deviceStore (csaAddress s.fcx) 64
              (wordsValue (if upper then s.upperContext else s.lowerContext) % 256 ^ 64) s.supervisor,
            .deviceLoad (csaAddress s.fcx) 4 s.supervisor] else []) ++ s.env.outputs
      freeCount := s.env.freeCount + if csaKind s.cfg (csaAddress s.fcx) = some .storage then 0 else 4 } := by
  obtain ⟨hm, he, hd, ha, hp, hw, -, -, hi, hs⟩ := csaAccess_spec s (csaAddress s.fcx) 4 64
    (blockValue (if upper then s.upperContext else s.lowerContext)) _ rfl
  have hsave : s.saveContext upper =
      ((s.afterRead (csaKind s.cfg (csaAddress s.fcx)) (csaByte (csaAddress s.fcx)) 4).writeValue
        (csaKind s.cfg (csaAddress s.fcx)) (csaByte (csaAddress s.fcx)) 64
        (blockValue (if upper then s.upperContext else s.lowerContext))).setLists (pcxiAfterSave s.icr s.fcx upper)
        (setField s.fcx 0 20
          (BitVec.ofNat 20 (s.readValue (csaKind s.cfg (csaAddress s.fcx)) (csaByte (csaAddress s.fcx)) 4))) := rfl
  rw [hsave]
  generalize State.writeValue _ _ _ 64 _ = t at *
  obtain ⟨h1, h2, h3, h4, h5⟩ := pcxiAfterSave_fields s.icr s.fcx upper
  refine ⟨?_, ⟨?_, upper_setField _ _, h1, h2, h3, h4, h5⟩, hd, ha, hp, hw, hi, hs, ?_⟩
  · have hc := context_written (m := s.mem) (csaAddress s.fcx) (if upper then s.upperContext else s.lowerContext)
      (by cases upper <;> [exact s.lowerContext_length; exact s.upperContext_length])
    unfold ContextStored
    rw [State.setLists_mem, hm]
    by_cases hk : csaKind s.cfg (csaAddress s.fcx) = some .storage
    · rw [if_pos hk]
      exact ⟨fun _ => hc.1, fun x hx => hc.2 x (hx hk)⟩
    · exact ⟨fun h => absurd h hk, fun x _ => by rw [if_neg hk]⟩
  · exact (pointer_setField _ _).trans (pointer_csaWord _ _).symm
  · rw [State.setLists_env, he, blockValue_eq]

/-! ## Restoring a context -/

/-- The sixteen words a restore reads. -/
def restoredBlock (s : State) : Nat :=
  s.readValue (csaKind s.cfg (csaAddress s.pcxi)) (csaByte (csaAddress s.pcxi)) 64

/-- The boundary after a restore: the events of a device at the CSA, and the free bytes drawn where it is no memory. -/
def RestoredBoundary (s t : State) : Prop :=
  t.env = { s.env with
    outputs := (if csaKind s.cfg (csaAddress s.pcxi) = some .device then
        [.deviceStore (csaAddress s.pcxi) 4 (s.fcx.toNat % 256 ^ 4) s.supervisor,
          .deviceLoad (csaAddress s.pcxi) 64 s.supervisor] else []) ++ s.env.outputs
    freeCount := s.env.freeCount + if csaKind s.cfg (csaAddress s.pcxi) = some .storage then 0 else 64 }

/-- The lists and the memory after a restore, for any state that agrees with it in them. -/
theorem listsAfterRestore_of (s t : State) (hp : t.pcxi = Pcxi.defined (blockWord (restoredBlock s) 0))
    (hf : t.fcx = setField s.fcx 0 20 (pointer s.pcxi))
    (hm : t.mem = if csaKind s.cfg (csaAddress s.pcxi) = some .storage
      then Memory.writeBytes s.mem (csaByte (csaAddress s.pcxi)) s.fcx.toNat 4 else s.mem) :
    ListsAfterRestore s t := by
  refine ⟨?_, ?_, ?_, ?_, ?_⟩
  · rw [hp, restoredBlock, blockWord_csaWord _ _ (by omega)]; rfl
  · rw [hf, pointer_setField]
  · rw [hf, upper_setField]
  · intro hk hw
    rw [hm, if_pos hk, wordAt_eq, Memory.readBytes_writeBytes hw _ _ _ (csaByte_inj _ (by omega))]
    apply BitVec.eq_of_toNat_eq
    have := s.fcx.isLt
    rw [BitVec.toNat_ofNat]
    omega
  · intro x hx
    rw [hm]
    split
    · exact Memory.read_writeBytes_other s.mem _ _ 4 x (hx ‹_›)
    · rfl

/-- A restore of the upper context (60 R968): everything it does, whatever stands at the CSA. -/
theorem restoreUpper_spec (s : State) :
    UpperLoaded s (s.restoreContext true) (savedWord s) ∧ ListsAfterRestore s (s.restoreContext true) ∧
    (s.restoreContext true).psw = savedWord s (wordPlace s.cfg.csaLayout.upper 0) &&& 0xF8003FFF ∧
    (s.restoreContext true).icr = s.icr ∧ (s.restoreContext true).pc = s.pc ∧ SystemKept s (s.restoreContext true) ∧
    RestoredBoundary s (s.restoreContext true) := by
  obtain ⟨hm, he, hd, ha, hp, -, -, -, hi, hs⟩ := csaAccess_spec s (csaAddress s.pcxi) 64 4 s.fcx.toNat _ rfl
  have hr : s.restoreContext true =
      ((((s.afterRead (csaKind s.cfg (csaAddress s.pcxi)) (csaByte (csaAddress s.pcxi)) 64).writeValue
        (csaKind s.cfg (csaAddress s.pcxi)) (csaByte (csaAddress s.pcxi)) 4 s.fcx.toNat).setLists
        (Pcxi.defined (blockWord (restoredBlock s) 0)) (setField s.fcx 0 20 (pointer s.pcxi))).setPsw
        (Psw.defined (blockWord (restoredBlock s) (wordPlace s.cfg.csaLayout.upper 0)))).loadUpper
          (restoredBlock s) := rfl
  rw [hr]
  generalize State.writeValue _ _ _ 4 _ = t at *
  have hc := hs.2.2.2
  refine ⟨⟨fun r => ?_, fun r => ?_⟩, listsAfterRestore_of s _ rfl rfl hm, ?_, hi, hp, hs, he⟩
  · rw [State.getD_loadUpper, State.setPsw_cfg, State.setLists_cfg, hc, restoredBlock,
      blockWord_csaWord _ _ (wordPlace_lt _ _)]
    exact ite_congr rfl (fun _ => rfl) fun _ => hd r
  · rw [State.getA_loadUpper, State.setPsw_cfg, State.setLists_cfg, hc, restoredBlock,
      blockWord_csaWord _ _ (wordPlace_lt _ _)]
    exact ite_congr rfl (fun _ => rfl) fun _ => ha r
  · rw [State.loadUpper_psw, State.setPsw_psw, restoredBlock, blockWord_csaWord _ _ (wordPlace_lt _ _)]
    rfl

/-- A restore of the lower context (60 R968): everything it does, whatever stands at the CSA. -/
theorem restoreLower_spec (s : State) :
    (∀ r : Reg, (s.restoreContext false).getD r =
      if r.val < 8 then savedWord s (wordPlace s.cfg.csaLayout.lower (r.val + 7)) else s.getD r) ∧
    (∀ r : Reg, (s.restoreContext false).getA r =
      if r = 11 then savedWord s (wordPlace s.cfg.csaLayout.lower 0)
      else if 2 ≤ r.val ∧ r.val ≤ 7 then savedWord s (wordPlace s.cfg.csaLayout.lower (r.val - 1)) else s.getA r) ∧
    ListsAfterRestore s (s.restoreContext false) ∧ (s.restoreContext false).psw = s.psw ∧
    (s.restoreContext false).icr = s.icr ∧ (s.restoreContext false).pc = s.pc ∧
    SystemKept s (s.restoreContext false) ∧ RestoredBoundary s (s.restoreContext false) := by
  obtain ⟨hm, he, hd, ha, hp, hw, -, -, hi, hs⟩ := csaAccess_spec s (csaAddress s.pcxi) 64 4 s.fcx.toNat _ rfl
  have hr : s.restoreContext false =
      ((((s.afterRead (csaKind s.cfg (csaAddress s.pcxi)) (csaByte (csaAddress s.pcxi)) 64).writeValue
        (csaKind s.cfg (csaAddress s.pcxi)) (csaByte (csaAddress s.pcxi)) 4 s.fcx.toNat).setLists
        (Pcxi.defined (blockWord (restoredBlock s) 0)) (setField s.fcx 0 20 (pointer s.pcxi))).setA 11
        (blockWord (restoredBlock s) (wordPlace s.cfg.csaLayout.lower 0))).loadLower (restoredBlock s) := rfl
  rw [hr]
  generalize State.writeValue _ _ _ 4 _ = t at *
  have hc := hs.2.2.2
  refine ⟨fun r => ?_, fun r => ?_, listsAfterRestore_of s _ rfl rfl hm, hw, hi, hp, hs, he⟩
  · rw [State.getD_loadLower, State.setA_cfg, State.setLists_cfg, hc, restoredBlock,
      blockWord_csaWord _ _ (wordPlace_lt _ _)]
    exact ite_congr rfl (fun _ => rfl) fun _ => hd r
  · rw [State.getA_loadLower, State.setA_cfg, State.setLists_cfg, hc, State.getA_setA, restoredBlock,
      blockWord_csaWord _ _ (wordPlace_lt _ _), blockWord_csaWord _ _ (wordPlace_lt _ _)]
    by_cases h8 : 2 ≤ r.val ∧ r.val ≤ 7
    · have h11 : ¬ r = 11 := by rintro rfl; exact absurd h8 (by decide)
      rw [if_pos h8, if_neg h11, if_pos h8]; rfl
    · rw [if_neg h8, if_neg h8]
      exact ite_congr rfl (fun _ => rfl) fun _ => ha r

/-! ## The entry of a trap or interrupt -/

theorem Icr.setEnable_fields (x : Word) (ie : Bool) (p : BitVec 8) :
    Icr.ie (Icr.setEnable x ie p) = ie ∧ Icr.ccpn (Icr.setEnable x ie p) = p ∧
    ∀ k, 9 ≤ k → (Icr.setEnable x ie p).getLsbD k = x.getLsbD k := by
  unfold Icr.setEnable
  refine ⟨?_, ?_, fun k hk => ?_⟩
  · rw [Icr.ie, getLsbD_setBit _ _ _ _ (by omega), if_pos rfl]
  · apply BitVec.eq_of_getLsbD_eq
    intro k hk
    have h8 : ¬ k = 8 := by omega
    rw [Icr.ccpn, BitVec.getLsbD_extractLsb', Nat.zero_add, getLsbD_setBit _ _ _ _ (by omega), if_neg h8,
      getLsbD_setField _ _ _ _ _ (by omega)]
    simp [hk]
  · have h8 : ¬ k = 8 := by omega
    have h8' : ¬ k < 8 := by omega
    rw [getLsbD_setBit _ _ _ _ (by omega), if_neg h8, getLsbD_setField _ _ _ _ _ (by omega)]
    simp [h8']

theorem Psw.entry_low (p : Word) : (Psw.entry p).extractLsb' 0 27 = 0xB80 := by
  apply BitVec.eq_of_getLsbD_eq
  intro k hk
  rw [BitVec.getLsbD_extractLsb', Nat.zero_add, Psw.getLsbD_entry]
  interval_cases k <;> rfl

theorem Psw.entry_flags (p : Word) (k : Nat) (hk : 27 ≤ k) : (Psw.entry p).getLsbD k = p.getLsbD k := by
  rw [Psw.getLsbD_entry]
  by_cases h : k < 32
  · interval_cases k <;> rfl
  · rw [← Psw.getLsbD_entry, BitVec.getLsbD_of_ge _ _ (by omega), BitVec.getLsbD_of_ge _ _ (by omega)]

theorem contextStored_congr {s t t' : State} {l : List Word} (h : t'.mem = t.mem) (hc : ContextStored s t l) :
    ContextStored s t' l := by
  unfold ContextStored at *; rw [h]; exact hc

theorem listsAfterSave_congr {s t t' : State} {upper : Bool} (hp : t'.pcxi = t.pcxi) (hf : t'.fcx = t.fcx)
    (h : ListsAfterSave s t upper) : ListsAfterSave s t' upper := by
  unfold ListsAfterSave at *; rw [hp, hf]; exact h

/-- The fields of the state after steps 2 to 6 of an entry. -/
theorem enter_fields (s : State) (ret : Word) (p : BitVec 8) :
    (s.enter ret p).mem = (s.saveContext true).mem ∧ (s.enter ret p).pcxi = (s.saveContext true).pcxi ∧
    (s.enter ret p).fcx = (s.saveContext true).fcx ∧ (s.enter ret p).psw = Psw.entry s.psw ∧
    (s.enter ret p).icr = Icr.setEnable s.icr false p ∧ (s.enter ret p).csfr = (s.saveContext true).csfr ∧
    (s.enter ret p).dataSets = (s.saveContext true).dataSets ∧
    (s.enter ret p).codeSets = (s.saveContext true).codeSets ∧ (s.enter ret p).cfg = (s.saveContext true).cfg ∧
    (s.enter ret p).env = (s.saveContext true).env ∧ (∀ r, (s.enter ret p).getD r = (s.saveContext true).getD r) ∧
    ∀ r, (s.enter ret p).getA r =
      if r = 11 then ret else if r = 10 ∧ Psw.is s.psw = false then s.csfr.isp else (s.saveContext true).getA r := by
  unfold State.enter
  generalize s.saveContext true = t
  cases hi : Psw.is s.psw
  · refine ⟨rfl, rfl, rfl, rfl, rfl, rfl, rfl, rfl, rfl, rfl, fun _ => rfl, fun r => ?_⟩
    simp only [Bool.false_eq_true, if_false, State.getA_setIcr, State.getA_setPsw, State.getA_setA, and_true]
    by_cases h11 : r = 11
    · subst h11; rfl
    · rw [if_neg h11, if_neg h11]
  · refine ⟨rfl, rfl, rfl, rfl, rfl, rfl, rfl, rfl, rfl, rfl, fun _ => rfl, fun r => ?_⟩
    simp only [if_true, State.getA_setIcr, State.getA_setPsw, State.getA_setA]
    simp

/-- A save where the CSA is memory leaves the boundary alone. -/
theorem saveContext_env (s : State) (upper : Bool) (h : csaKind s.cfg (csaAddress s.fcx) = some .storage) :
    (s.saveContext upper).env = s.env := by
  rw [(saveContext_spec s upper).2.2.2.2.2.2.2.2, h]
  simp

/-- Steps 2 to 6 of the entries (60 R975, R976). -/
theorem entered_spec (s : State) (ret : Word) (p : BitVec 8) : Entered s (s.enter ret p) ret := by
  obtain ⟨h1, -, h3⟩ := Icr.setEnable_fields s.icr false p
  obtain ⟨em, ep, ef, es, ei, ec, ed, eo, eg, -, -, ea⟩ := enter_fields s ret p
  obtain ⟨hs, hl, -, ka, -, -, -, ⟨kc, kd, ko, kg⟩, -⟩ := saveContext_spec s true
  refine ⟨contextStored_congr em hs, listsAfterSave_congr ep ef hl, fun r => ?_, ?_, ?_, ?_, ?_, ec.trans kc,
    ed.trans kd, eo.trans ko, eg.trans kg⟩
  · rw [ea, ka]
  · rw [es]; exact Psw.entry_flags _
  · rw [es]; exact Psw.entry_low _
  · rw [ei]; exact h1
  · rw [ei]; exact h3

theorem evenTarget_eq (x : Word) : evenTarget x = BitVec.ofNat 32 (x.toNat / 2 * 2) := by
  apply BitVec.eq_of_getLsbD_eq
  intro k hk
  unfold evenTarget
  have h2 : x.toNat / 2 * 2 = x.toNat >>> 1 <<< 1 := by rw [Nat.shiftLeft_eq, Nat.shiftRight_eq_div_pow]
  rw [BitVec.getLsbD_and, BitVec.getLsbD_ofNat, h2, Nat.testBit_shiftLeft, Nat.testBit_shiftRight]
  have h1 : (0xFFFFFFFE : Word).getLsbD k = decide (k ≥ 1) := by interval_cases k <;> rfl
  rw [h1]
  by_cases h : k ≥ 1
  · rw [Nat.add_sub_cancel' h]; simp [hk, h, BitVec.getLsbD]
  · simp [h]

theorem canEnter_iff (s : State) : s.canEnter = true ↔ FreeArea s := by
  unfold State.canEnter FreeArea
  rw [Bool.and_eq_true, bne_iff_ne, beq_iff_eq]

theorem atLimit_iff (s : State) : s.atLimit = true ↔ AtLimit s := by
  unfold State.atLimit AtLimit
  rw [beq_iff_eq]

/-- Taking a trap where the context can be saved and the CSA is not the limit: one entry (60 R975). -/
theorem takeTrap_entered (s : State) (x : Trap) (ret : Word) (h : FreeArea s) (hl : ¬ AtLimit s) :
    takeTrap s x ret = .next (s.enterTrap x ret) := by
  unfold takeTrap takeTraps
  rw [if_pos ((canEnter_iff s).2 h), if_neg (mt (atLimit_iff s).1 hl)]

/-- An entry that uses the limit CSA is followed by the entry of FCD (60 R967). -/
theorem takeTraps_limit (n : Nat) (s : State) (x : Trap) (ret : Word) (h : FreeArea s) (hl : AtLimit s) :
    takeTraps (n + 1) s x ret = takeTraps n (s.enterTrap x ret) .fcd (s.enterTrap x ret).pc := by
  rw [takeTraps, if_pos ((canEnter_iff s).2 h), if_pos ((atLimit_iff s).2 hl)]

/-- An entry whose context cannot be saved stops (60 R971 b, 93 U7). -/
theorem takeTrap_stuck (s : State) (x : Trap) (ret : Word) (h : ¬ FreeArea s) :
    takeTrap s x ret = .fault .stuckContextEntry := by
  unfold takeTrap takeTraps
  rw [if_neg (mt (canEnter_iff s).1 h)]

end Sys2Proof.Machine
end

