-- ==== Sys2Proof/Laws/Csfr.lean ====
section
/-! SUPPORT. Laws/Csfr.lean: what reading and writing a core special function register can do (spec/10_state.md rule R75, R76; 49 R900, R902), by any map, in the words of Safety.lean. -/

namespace Sys2Proof.Machine

open Sys2Proof

/-! ## The register at an offset -/

/-- The offset of a range register leads back to it. -/
theorem rangeAddr_rangeOffset (q : RangeAddr) (h : RangeReachable q) :
    0x1000 ≤ rangeOffset q ∧ rangeAddr (rangeOffset q) = some q := by
  obtain ⟨code, set, num, part⟩ := q
  obtain ⟨h1, h2⟩ := h
  have pair : ∀ (n : Nat), n = 0x1000 ∨ n = 0x2000 → ∀ (j : Nat), j < 2 → num < 32 →
      (n + 0x100 * set + (8 * num + 4 * j)) / 0x1000 = n / 0x1000 ∧
      (n + 0x100 * set + (8 * num + 4 * j)) / 0x100 % 16 = set ∧
      (n + 0x100 * set + (8 * num + 4 * j)) % 0x100 / 8 = num ∧
      (n + 0x100 * set + (8 * num + 4 * j)) % 0x100 / 4 % 2 = j := by
    intro n hn j hj hnum; simp only at h1; omega
  have single : ∀ (n : Nat), n = 0x3000 ∨ n = 0x4000 → num < 64 →
      (n + 0x100 * set + 4 * num) / 0x1000 = n / 0x1000 ∧ (n + 0x100 * set + 4 * num) / 0x100 % 16 = set ∧
      (n + 0x100 * set + 4 * num) % 0x100 / 4 = num := by
    intro n hn hnum; simp only at h1; omega
  simp only at h1
  cases part <;> cases code <;> simp only [rangeOffset, if_true, if_false, reduceCtorEq, Bool.false_eq_true] at h2 ⊢ <;>
    refine ⟨by omega, ?_⟩
  · obtain ⟨e1, e2, e3, e4⟩ := pair 0x1000 (by omega) 0 (by omega) h2
    simp only [Nat.mul_zero, Nat.add_zero] at e1 e2 e3 e4 ⊢
    unfold rangeAddr; simp only [e1, e2, e3, e4, if_true]
  · obtain ⟨e1, e2, e3, e4⟩ := pair 0x2000 (by omega) 0 (by omega) h2
    simp only [Nat.mul_zero, Nat.add_zero] at e1 e2 e3 e4 ⊢
    unfold rangeAddr; simp only [e1, e2, e3, e4, if_true]
  · obtain ⟨e1, e2, e3, e4⟩ := pair 0x1000 (by omega) 1 (by omega) h2
    simp only [Nat.mul_one] at e1 e2 e3 e4 ⊢
    unfold rangeAddr; simp only [Nat.add_zero, e1, e2, e3, e4]; rfl
  · obtain ⟨e1, e2, e3, e4⟩ := pair 0x2000 (by omega) 1 (by omega) h2
    simp only [Nat.mul_one] at e1 e2 e3 e4 ⊢
    unfold rangeAddr; simp only [e1, e2, e3, e4]; rfl
  · obtain ⟨e1, e2, e3⟩ := single 0x3000 (by omega) h2
    unfold rangeAddr; simp only [Nat.add_zero, e1, e2, e3]
  · obtain ⟨e1, e2, e3⟩ := single 0x4000 (by omega) h2
    unfold rangeAddr; simp only [e1, e2, e3]

/-- The range register at an aligned offset has that offset. -/
theorem rangeOffset_rangeAddr (n : Nat) (q : RangeAddr) (h4 : n % 4 = 0) (h : rangeAddr n = some q) :
    RangeReachable q ∧ rangeOffset q = n := by
  unfold rangeAddr at h
  simp only at h
  split at h
  case h_5 => cases h
  all_goals
    simp only [Option.some.injEq] at h; subst h; simp only [RangeReachable, rangeOffset]
    split <;> simp_all <;> omega

theorem defaultCsfr_high (n : Nat) (h : 0x4C ≤ n) : defaultCsfr n = (rangeAddr n).map .range := by
  unfold defaultCsfr
  split <;> first | omega | rfl

/-- The register at an aligned offset by the default map (10 R75). -/
theorem defaultCsfr_iff (n : Nat) (h4 : n % 4 = 0) (r : CsfrName) :
    defaultCsfr n = some r ↔ (n, r) ∈ csfrTable ∨ ∃ q, r = .range q ∧ RangeReachable q ∧ rangeOffset q = n := by
  have hsmall : ∀ q : RangeAddr, 0x1000 ≤ rangeOffset q := by
    intro q; unfold rangeOffset; split <;> omega
  by_cases hn : 0x4C ≤ n
  · rw [defaultCsfr_high n hn, Option.map_eq_some_iff]
    constructor
    · rintro ⟨q, hq, rfl⟩
      exact .inr ⟨q, rfl, rangeOffset_rangeAddr n q h4 hq⟩
    · rintro (h | ⟨q, rfl, hq, rfl⟩)
      · have : ∀ p, p ∈ csfrTable → p.1 < 0x4C := by decide
        exact absurd (this _ h) (by simp only; omega)
      · exact ⟨q, (rangeAddr_rangeOffset q hq).2, rfl⟩
  · have hr : ∀ q, r = .range q ∧ RangeReachable q ∧ rangeOffset q = n → False := by
      rintro q ⟨-, -, h⟩; have := hsmall q; omega
    rw [or_iff_left fun ⟨q, h⟩ => hr q h]
    obtain ⟨k, rfl⟩ : ∃ k, n = 4 * k := ⟨n / 4, by omega⟩
    have hk : k < 19 := by omega
    interval_cases k <;> simp [csfrTable, defaultCsfr, eq_comm]

/-- The map in force at an aligned offset, in the words of Safety.lean (10 R75). -/
theorem csfrAt_iff (c : Config) (k : BitVec 16) (h4 : k.toNat % 4 = 0) (r : CsfrName) :
    csfrAt c.csfrMap k = some r ↔ PlacedAt c k.toNat r := by
  unfold csfrAt PlacedAt
  cases c.csfrMap with
  | none => exact defaultCsfr_iff _ h4 r
  | some rows =>
    simp only [Option.map_eq_some_iff, List.find?_eq_some_iff_append]
    constructor
    · rintro ⟨row, ⟨h1, front, rest, h2, h3⟩, rfl⟩
      refine ⟨front, row, rest, h2, by rw [beq_iff_eq] at h1; rw [h1], rfl, fun x hx hh => ?_⟩
      have := h3 x hx
      rw [Bool.not_eq_true', beq_eq_false_iff_ne] at this
      exact this (BitVec.eq_of_toNat_eq hh)
    · rintro ⟨front, row, rest, h2, h1, rfl, h3⟩
      refine ⟨row, ⟨?_, front, rest, h2, fun x hx => ?_⟩, rfl⟩
      · rw [beq_iff_eq]; exact BitVec.eq_of_toNat_eq h1
      · rw [Bool.not_eq_true', beq_eq_false_iff_ne]
        exact fun hh => h3 x hx (by rw [hh])

/-! ## The value of a register -/

theorem readRange_at (s : State) (q : RangeAddr) (e : RangeEntry) (h : EntryAt s q e) :
    s.readRange q = partValue e q.part := by
  obtain ⟨set, h1, h2⟩ := h
  unfold State.readRange State.rangeSets
  rw [List.getD_eq_getElem?_getD, h1, Option.getD_some, h2]
  unfold partValue
  cases q.part <;> try rfl
  apply BitVec.eq_of_toNat_eq; simp

theorem readRange_none (s : State) (q : RangeAddr) (h : ∀ e, ¬ EntryAt s q e) : s.readRange q = 0 := by
  unfold State.readRange State.rangeSets
  rw [List.getD_eq_getElem?_getD]
  cases h1 : (if q.code then s.codeSets else s.dataSets)[q.set]? with
  | none => simp
  | some set =>
    rw [Option.getD_some]
    cases h2 : set[q.num]? with
    | none => rfl
    | some e => exact absurd ⟨set, h1, h2⟩ (h e)

/-- A register that exists reads as its value. -/
theorem csfrValue_of_holds {s : State} {r : CsfrName} {v : Word} (h : CsfrHolds s r v) : s.csfrValue r = v := by
  cases r with
  | range q => obtain ⟨e, he, rfl⟩ := h; exact readRange_at s q e he
  | _ => exact h.symm

/-- Only a range register can be missing. -/
theorem missing_is_range {s : State} {r : CsfrName} (h : ∀ v, ¬ CsfrHolds s r v) :
    ∃ q, r = .range q ∧ ∀ e, ¬ EntryAt s q e := by
  cases r with
  | range q => exact ⟨q, rfl, fun e he => h _ ⟨e, he, rfl⟩⟩
  | _ => exact absurd rfl (h _)

/-- Reading an aligned offset: the register that stands there, else 0 (10 R75, R76). -/
theorem readCsfr_spec (s : State) (k : BitVec 16) (h4 : k.toNat % 4 = 0) :
    (∀ r v, PlacedAt s.cfg k.toNat r → CsfrHolds s r v → s.readCsfr k = v) ∧
    (Unmapped s k.toNat → s.readCsfr k = 0) := by
  unfold State.readCsfr
  refine ⟨fun r v hr hv => ?_, fun hu => ?_⟩
  · rw [(csfrAt_iff s.cfg k h4 r).2 hr]; exact csfrValue_of_holds hv
  · cases hc : csfrAt s.cfg.csfrMap k with
    | none => rfl
    | some r =>
      obtain ⟨q, rfl, hq⟩ := missing_is_range fun v => hu r v ((csfrAt_iff s.cfg k h4 r).1 hc)
      exact readRange_none s q hq

/-! ## Writing a register -/

theorem lockedBits_fold (ls : List LockedBits) (off : BitVec 16) (k : Nat) (m : Word) :
    (ls.foldl (fun m l => if l.offset == off then m ||| l.bits else m) m).getLsbD k = true ↔
      m.getLsbD k = true ∨ ∃ l, l ∈ ls ∧ l.offset = off ∧ l.bits.getLsbD k = true := by
  induction ls generalizing m with
  | nil => simp
  | cons a r ih =>
    rw [List.foldl_cons, ih]
    by_cases h : a.offset = off
    · simp [h, or_assoc]
    · have : (a.offset == off) = false := by simpa using h
      simp [this, h]

theorem lockedBits_iff (s : State) (k : BitVec 16) (j : Nat) :
    (s.lockedBits k).getLsbD j = true ↔ LockedBit s k.toNat j := by
  unfold State.lockedBits LockedBit State.endinit
  split
  · rename_i h
    rw [lockedBits_fold]
    simp [h, BitVec.toNat_inj]
  · rename_i h
    exact ⟨fun hh => absurd hh (by simp), fun hh => absurd hh.1 h⟩

/-- What a write offers to a register: the locked bits stay (10 R107). -/
theorem offered_locked (s : State) (k : BitVec 16) (old v : Word) :
    Offered s k.toNat old v ((old &&& s.lockedBits k) ||| (v &&& ~~~s.lockedBits k)) := by
  intro j hj
  have := lockedBits_iff s k j
  constructor
  · intro h
    rw [BitVec.getLsbD_or, BitVec.getLsbD_and, BitVec.getLsbD_and, BitVec.getLsbD_not, this.2 h]; simp
  · intro h
    have : (s.lockedBits k).getLsbD j = false := by
      cases hh : (s.lockedBits k).getLsbD j
      · rfl
      · exact absurd (this.1 hh) h
    rw [BitVec.getLsbD_or, BitVec.getLsbD_and, BitVec.getLsbD_and, BitVec.getLsbD_not, this]; simp [hj]

theorem updateSets_at (sets : List (List RangeEntry)) (q : RangeAddr) (x : Word) (set : List RangeEntry)
    (e : RangeEntry) (h1 : sets[q.set]? = some set) (h2 : set[q.num]? = some e) :
    updateSets sets q x = replaceEntry sets q (withPart e q.code q.part x) := by
  have he : e.update q.code q.part x = withPart e q.code q.part x := by
    unfold RangeEntry.update withPart
    cases q.part <;> try rfl
    cases q.code <;> simp only [Bool.false_eq_true, if_true, if_false]
    · congr 1
      apply BitVec.eq_of_getLsbD_eq
      intro j hj
      have : (0xFF : BitVec 8).getLsbD j = true := by interval_cases j <;> rfl
      rw [BitVec.getLsbD_and, this]; simp [hj]
    · congr 1
  unfold updateSets replaceEntry
  rw [← he]
  apply List.ext_getElem?
  intro j
  rw [List.getElem?_modify, List.getElem?_set, List.getD_eq_getElem?_getD, h1, Option.getD_some]
  have hl : q.set < sets.length := by obtain ⟨hl, -⟩ := List.getElem?_eq_some_iff.1 h1; exact hl
  by_cases hj : q.set = j
  · subst hj
    simp only [if_true, h1, hl]
    show some _ = some _
    congr 1
    apply List.ext_getElem?
    intro i
    rw [List.getElem?_modify, List.getElem?_set]
    have hl : q.num < set.length := by obtain ⟨hl, -⟩ := List.getElem?_eq_some_iff.1 h2; exact hl
    by_cases hi : q.num = i
    · subst hi; rw [h2]; simp [hl]
    · simp [hi]
  · simp [hj]

theorem updateSets_missing (sets : List (List RangeEntry)) (q : RangeAddr) (x : Word)
    (h : ∀ set e, sets[q.set]? = some set → set[q.num]? = some e → False) : updateSets sets q x = sets := by
  unfold updateSets
  apply List.ext_getElem?
  intro j
  rw [List.getElem?_modify]
  by_cases hj : q.set = j
  · subst hj
    cases h1 : sets[q.set]? with
    | none => simp
    | some set =>
      simp only [if_true]
      show some _ = some _
      congr 1
      apply List.ext_getElem?
      intro i
      rw [List.getElem?_modify]
      by_cases hi : q.num = i
      · subst hi
        cases h3 : set[q.num]? with
        | none => simp
        | some e => exact absurd h3 fun h3 => h set e h1 h3
      · simp [hi]
  · simp [hj]

theorem writeRange_missing (s : State) (q : RangeAddr) (x : Word) (h : ∀ e, ¬ EntryAt s q e) :
    s.writeRange q x = s := by
  unfold State.writeRange
  unfold EntryAt at h
  cases hc : q.code <;> simp only [hc, if_true, if_false, Bool.false_eq_true] at h ⊢ <;>
    rw [updateSets_missing _ q x fun set e h1 h2 => h e ⟨set, h1, h2⟩]

/-- Every register takes what is offered to it by its field rules (49 R902). -/
theorem putCsfr_written (s : State) (r : CsfrName) (x : Word) (h : ∃ v, CsfrHolds s r v) :
    CsfrWritten s r x (s.putCsfr r x) := by
  cases r with
  | range q =>
    obtain ⟨-, e, ⟨set, e1, e2⟩, -⟩ := h
    refine ⟨e, ⟨set, e1, e2⟩, ?_⟩
    show s.writeRange q x = _
    unfold State.writeRange withRange
    cases hc : q.code <;> simp only [hc, if_true, if_false, Bool.false_eq_true] at e1 ⊢ <;>
      rw [updateSets_at _ q _ set e e1 e2, hc]
  | _ => rfl

/-- Writing an aligned offset: the register that stands there takes what is offered, else nothing changes (10 R76). -/
theorem writeCsfr_spec (s : State) (k : BitVec 16) (v : Word) (h4 : k.toNat % 4 = 0) :
    (∀ r old, PlacedAt s.cfg k.toNat r → CsfrHolds s r old →
      ∃ x, Offered s k.toNat old v x ∧ CsfrWritten s r x (s.writeCsfr k v)) ∧
    (Unmapped s k.toNat → s.writeCsfr k v = s) := by
  unfold State.writeCsfr
  refine ⟨fun r old hr hv => ?_, fun hu => ?_⟩
  · rw [(csfrAt_iff s.cfg k h4 r).2 hr]
    simp only [csfrValue_of_holds hv]
    exact ⟨_, offered_locked s k old v, putCsfr_written s r _ ⟨old, hv⟩⟩
  · cases hc : csfrAt s.cfg.csfrMap k with
    | none => rfl
    | some r =>
      obtain ⟨q, rfl, hq⟩ := missing_is_range fun v => hu r v ((csfrAt_iff s.cfg k h4 r).1 hc)
      exact writeRange_missing s q _ hq

end Sys2Proof.Machine
end

