-- ==== Sys2Proof/Laws/Encoding.lean ====
section
/-! SUPPORT. Laws/Encoding.lean: what each format's encoder puts in each field, and what each decoding table answers at an opcode: the lemmas a round trip cites instead of unfolding the tables. -/

namespace Sys2Proof.Laws

theorem bitsOf_lt (x lo n : Nat) : bitsOf x lo n < 2 ^ n := Nat.mod_lt _ (Nat.two_pow_pos n)

/-! ## Format ABS -/

theorem encAbs_off18_6 (op1 : Nat) (op2 : Nat) (a : Reg) (off18 : BitVec 18) (h1 : op1 < 256) (h2 : op2 < 4) :
    bitsOf (encAbs op1 op2 a off18).toNat 28 4 = bitsOf off18.toNat 6 4 := by
  unfold encAbs
  have g6 := bitsOf_lt off18.toNat 6 4
  generalize bitsOf off18.toNat 6 4 = x6 at *
  have g10 := bitsOf_lt off18.toNat 10 4
  generalize bitsOf off18.toNat 10 4 = x10 at *
  have g0 := bitsOf_lt off18.toNat 0 6
  generalize bitsOf off18.toNat 0 6 = x0 at *
  have g14 := bitsOf_lt off18.toNat 14 4
  generalize bitsOf off18.toNat 14 4 = x14 at *
  simp only [bitsOf, BitVec.toNat_ofNat, Nat.reducePow] at *
  omega

theorem encAbs_off18_10 (op1 : Nat) (op2 : Nat) (a : Reg) (off18 : BitVec 18) (h1 : op1 < 256) :
    bitsOf (encAbs op1 op2 a off18).toNat 22 4 = bitsOf off18.toNat 10 4 := by
  unfold encAbs
  have g6 := bitsOf_lt off18.toNat 6 4
  generalize bitsOf off18.toNat 6 4 = x6 at *
  have g10 := bitsOf_lt off18.toNat 10 4
  generalize bitsOf off18.toNat 10 4 = x10 at *
  have g0 := bitsOf_lt off18.toNat 0 6
  generalize bitsOf off18.toNat 0 6 = x0 at *
  have g14 := bitsOf_lt off18.toNat 14 4
  generalize bitsOf off18.toNat 14 4 = x14 at *
  simp only [bitsOf, BitVec.toNat_ofNat, Nat.reducePow] at *
  omega

theorem encAbs_off18_0 (op1 : Nat) (op2 : Nat) (a : Reg) (off18 : BitVec 18) (h1 : op1 < 256) :
    bitsOf (encAbs op1 op2 a off18).toNat 16 6 = bitsOf off18.toNat 0 6 := by
  unfold encAbs
  have g6 := bitsOf_lt off18.toNat 6 4
  generalize bitsOf off18.toNat 6 4 = x6 at *
  have g10 := bitsOf_lt off18.toNat 10 4
  generalize bitsOf off18.toNat 10 4 = x10 at *
  have g0 := bitsOf_lt off18.toNat 0 6
  generalize bitsOf off18.toNat 0 6 = x0 at *
  have g14 := bitsOf_lt off18.toNat 14 4
  generalize bitsOf off18.toNat 14 4 = x14 at *
  simp only [bitsOf, BitVec.toNat_ofNat, Nat.reducePow] at *
  omega

theorem encAbs_off18_14 (op1 : Nat) (op2 : Nat) (a : Reg) (off18 : BitVec 18) (h1 : op1 < 256) :
    bitsOf (encAbs op1 op2 a off18).toNat 12 4 = bitsOf off18.toNat 14 4 := by
  unfold encAbs
  have g6 := bitsOf_lt off18.toNat 6 4
  generalize bitsOf off18.toNat 6 4 = x6 at *
  have g10 := bitsOf_lt off18.toNat 10 4
  generalize bitsOf off18.toNat 10 4 = x10 at *
  have g0 := bitsOf_lt off18.toNat 0 6
  generalize bitsOf off18.toNat 0 6 = x0 at *
  have g14 := bitsOf_lt off18.toNat 14 4
  generalize bitsOf off18.toNat 14 4 = x14 at *
  simp only [bitsOf, BitVec.toNat_ofNat, Nat.reducePow] at *
  omega

theorem encAbs_fieldOff18 (op1 : Nat) (op2 : Nat) (a : Reg) (off18 : BitVec 18) (h1 : op1 < 256) (h2 : op2 < 4) :
    fieldOff18 (encAbs op1 op2 a off18) = off18 := by
  apply BitVec.eq_of_toNat_eq
  unfold fieldOff18
  rw [encAbs_off18_6 op1 op2 a off18 h1 h2, encAbs_off18_10 op1 op2 a off18 h1, encAbs_off18_0 op1 op2 a off18 h1, encAbs_off18_14 op1 op2 a off18 h1]
  have := off18.isLt
  simp only [bitsOf, BitVec.toNat_ofNat, Nat.reducePow] at *
  omega

theorem encAbs_op2 (op1 : Nat) (op2 : Nat) (a : Reg) (off18 : BitVec 18) (h1 : op1 < 256) (h2 : op2 < 4) :
    bitsOf (encAbs op1 op2 a off18).toNat 26 2 = op2 := by
  unfold encAbs
  have g6 := bitsOf_lt off18.toNat 6 4
  generalize bitsOf off18.toNat 6 4 = x6 at *
  have g10 := bitsOf_lt off18.toNat 10 4
  generalize bitsOf off18.toNat 10 4 = x10 at *
  have g0 := bitsOf_lt off18.toNat 0 6
  generalize bitsOf off18.toNat 0 6 = x0 at *
  have g14 := bitsOf_lt off18.toNat 14 4
  generalize bitsOf off18.toNat 14 4 = x14 at *
  simp only [bitsOf, BitVec.toNat_ofNat, Nat.reducePow] at *
  omega

theorem encAbs_fieldS1 (op1 : Nat) (op2 : Nat) (a : Reg) (off18 : BitVec 18) (h1 : op1 < 256) :
    fieldS1 (encAbs op1 op2 a off18) = a := by
  apply Fin.ext
  unfold fieldS1 encAbs
  have g6 := bitsOf_lt off18.toNat 6 4
  generalize bitsOf off18.toNat 6 4 = x6 at *
  have g10 := bitsOf_lt off18.toNat 10 4
  generalize bitsOf off18.toNat 10 4 = x10 at *
  have g0 := bitsOf_lt off18.toNat 0 6
  generalize bitsOf off18.toNat 0 6 = x0 at *
  have g14 := bitsOf_lt off18.toNat 14 4
  generalize bitsOf off18.toNat 14 4 = x14 at *
  simp only [bitsOf, Fin.val_ofNat, BitVec.toNat_ofNat, Nat.reducePow] at *
  omega

theorem encAbs_op1 (op1 : Nat) (op2 : Nat) (a : Reg) (off18 : BitVec 18) (h1 : op1 < 256) :
    bitsOf (encAbs op1 op2 a off18).toNat 0 8 = op1 := by
  unfold encAbs
  have g6 := bitsOf_lt off18.toNat 6 4
  generalize bitsOf off18.toNat 6 4 = x6 at *
  have g10 := bitsOf_lt off18.toNat 10 4
  generalize bitsOf off18.toNat 10 4 = x10 at *
  have g0 := bitsOf_lt off18.toNat 0 6
  generalize bitsOf off18.toNat 0 6 = x0 at *
  have g14 := bitsOf_lt off18.toNat 14 4
  generalize bitsOf off18.toNat 14 4 = x14 at *
  simp only [bitsOf, BitVec.toNat_ofNat, Nat.reducePow] at *
  omega

/-! ## Format ABSB -/

theorem encAbsb_off18_6 (op1 : Nat) (op2 : Nat) (off18 : BitVec 18) (b : BitVec 1) (bpos3 : BitVec 3) (h1 : op1 < 256) (h2 : op2 < 4) :
    bitsOf (encAbsb op1 op2 off18 b bpos3).toNat 28 4 = bitsOf off18.toNat 6 4 := by
  unfold encAbsb
  have g6 := bitsOf_lt off18.toNat 6 4
  generalize bitsOf off18.toNat 6 4 = x6 at *
  have g10 := bitsOf_lt off18.toNat 10 4
  generalize bitsOf off18.toNat 10 4 = x10 at *
  have g0 := bitsOf_lt off18.toNat 0 6
  generalize bitsOf off18.toNat 0 6 = x0 at *
  have g14 := bitsOf_lt off18.toNat 14 4
  generalize bitsOf off18.toNat 14 4 = x14 at *
  simp only [bitsOf, BitVec.toNat_ofNat, Nat.reducePow] at *
  omega

theorem encAbsb_off18_10 (op1 : Nat) (op2 : Nat) (off18 : BitVec 18) (b : BitVec 1) (bpos3 : BitVec 3) (h1 : op1 < 256) :
    bitsOf (encAbsb op1 op2 off18 b bpos3).toNat 22 4 = bitsOf off18.toNat 10 4 := by
  unfold encAbsb
  have g6 := bitsOf_lt off18.toNat 6 4
  generalize bitsOf off18.toNat 6 4 = x6 at *
  have g10 := bitsOf_lt off18.toNat 10 4
  generalize bitsOf off18.toNat 10 4 = x10 at *
  have g0 := bitsOf_lt off18.toNat 0 6
  generalize bitsOf off18.toNat 0 6 = x0 at *
  have g14 := bitsOf_lt off18.toNat 14 4
  generalize bitsOf off18.toNat 14 4 = x14 at *
  simp only [bitsOf, BitVec.toNat_ofNat, Nat.reducePow] at *
  omega

theorem encAbsb_off18_0 (op1 : Nat) (op2 : Nat) (off18 : BitVec 18) (b : BitVec 1) (bpos3 : BitVec 3) (h1 : op1 < 256) :
    bitsOf (encAbsb op1 op2 off18 b bpos3).toNat 16 6 = bitsOf off18.toNat 0 6 := by
  unfold encAbsb
  have g6 := bitsOf_lt off18.toNat 6 4
  generalize bitsOf off18.toNat 6 4 = x6 at *
  have g10 := bitsOf_lt off18.toNat 10 4
  generalize bitsOf off18.toNat 10 4 = x10 at *
  have g0 := bitsOf_lt off18.toNat 0 6
  generalize bitsOf off18.toNat 0 6 = x0 at *
  have g14 := bitsOf_lt off18.toNat 14 4
  generalize bitsOf off18.toNat 14 4 = x14 at *
  simp only [bitsOf, BitVec.toNat_ofNat, Nat.reducePow] at *
  omega

theorem encAbsb_off18_14 (op1 : Nat) (op2 : Nat) (off18 : BitVec 18) (b : BitVec 1) (bpos3 : BitVec 3) (h1 : op1 < 256) :
    bitsOf (encAbsb op1 op2 off18 b bpos3).toNat 12 4 = bitsOf off18.toNat 14 4 := by
  unfold encAbsb
  have g6 := bitsOf_lt off18.toNat 6 4
  generalize bitsOf off18.toNat 6 4 = x6 at *
  have g10 := bitsOf_lt off18.toNat 10 4
  generalize bitsOf off18.toNat 10 4 = x10 at *
  have g0 := bitsOf_lt off18.toNat 0 6
  generalize bitsOf off18.toNat 0 6 = x0 at *
  have g14 := bitsOf_lt off18.toNat 14 4
  generalize bitsOf off18.toNat 14 4 = x14 at *
  simp only [bitsOf, BitVec.toNat_ofNat, Nat.reducePow] at *
  omega

theorem encAbsb_fieldOff18 (op1 : Nat) (op2 : Nat) (off18 : BitVec 18) (b : BitVec 1) (bpos3 : BitVec 3) (h1 : op1 < 256) (h2 : op2 < 4) :
    fieldOff18 (encAbsb op1 op2 off18 b bpos3) = off18 := by
  apply BitVec.eq_of_toNat_eq
  unfold fieldOff18
  rw [encAbsb_off18_6 op1 op2 off18 b bpos3 h1 h2, encAbsb_off18_10 op1 op2 off18 b bpos3 h1, encAbsb_off18_0 op1 op2 off18 b bpos3 h1, encAbsb_off18_14 op1 op2 off18 b bpos3 h1]
  have := off18.isLt
  simp only [bitsOf, BitVec.toNat_ofNat, Nat.reducePow] at *
  omega

theorem encAbsb_op2 (op1 : Nat) (op2 : Nat) (off18 : BitVec 18) (b : BitVec 1) (bpos3 : BitVec 3) (h1 : op1 < 256) (h2 : op2 < 4) :
    bitsOf (encAbsb op1 op2 off18 b bpos3).toNat 26 2 = op2 := by
  unfold encAbsb
  have g6 := bitsOf_lt off18.toNat 6 4
  generalize bitsOf off18.toNat 6 4 = x6 at *
  have g10 := bitsOf_lt off18.toNat 10 4
  generalize bitsOf off18.toNat 10 4 = x10 at *
  have g0 := bitsOf_lt off18.toNat 0 6
  generalize bitsOf off18.toNat 0 6 = x0 at *
  have g14 := bitsOf_lt off18.toNat 14 4
  generalize bitsOf off18.toNat 14 4 = x14 at *
  simp only [bitsOf, BitVec.toNat_ofNat, Nat.reducePow] at *
  omega

theorem encAbsb_fieldB (op1 : Nat) (op2 : Nat) (off18 : BitVec 18) (b : BitVec 1) (bpos3 : BitVec 3) (h1 : op1 < 256) :
    fieldB (encAbsb op1 op2 off18 b bpos3) = b := by
  apply BitVec.eq_of_toNat_eq
  unfold fieldB encAbsb
  have g6 := bitsOf_lt off18.toNat 6 4
  generalize bitsOf off18.toNat 6 4 = x6 at *
  have g10 := bitsOf_lt off18.toNat 10 4
  generalize bitsOf off18.toNat 10 4 = x10 at *
  have g0 := bitsOf_lt off18.toNat 0 6
  generalize bitsOf off18.toNat 0 6 = x0 at *
  have g14 := bitsOf_lt off18.toNat 14 4
  generalize bitsOf off18.toNat 14 4 = x14 at *
  simp only [bitsOf, BitVec.toNat_ofNat, Nat.reducePow] at *
  omega

theorem encAbsb_fieldBpos3 (op1 : Nat) (op2 : Nat) (off18 : BitVec 18) (b : BitVec 1) (bpos3 : BitVec 3) (h1 : op1 < 256) :
    fieldBpos3 (encAbsb op1 op2 off18 b bpos3) = bpos3 := by
  apply BitVec.eq_of_toNat_eq
  unfold fieldBpos3 encAbsb
  have g6 := bitsOf_lt off18.toNat 6 4
  generalize bitsOf off18.toNat 6 4 = x6 at *
  have g10 := bitsOf_lt off18.toNat 10 4
  generalize bitsOf off18.toNat 10 4 = x10 at *
  have g0 := bitsOf_lt off18.toNat 0 6
  generalize bitsOf off18.toNat 0 6 = x0 at *
  have g14 := bitsOf_lt off18.toNat 14 4
  generalize bitsOf off18.toNat 14 4 = x14 at *
  simp only [bitsOf, BitVec.toNat_ofNat, Nat.reducePow] at *
  omega

theorem encAbsb_op1 (op1 : Nat) (op2 : Nat) (off18 : BitVec 18) (b : BitVec 1) (bpos3 : BitVec 3) (h1 : op1 < 256) :
    bitsOf (encAbsb op1 op2 off18 b bpos3).toNat 0 8 = op1 := by
  unfold encAbsb
  have g6 := bitsOf_lt off18.toNat 6 4
  generalize bitsOf off18.toNat 6 4 = x6 at *
  have g10 := bitsOf_lt off18.toNat 10 4
  generalize bitsOf off18.toNat 10 4 = x10 at *
  have g0 := bitsOf_lt off18.toNat 0 6
  generalize bitsOf off18.toNat 0 6 = x0 at *
  have g14 := bitsOf_lt off18.toNat 14 4
  generalize bitsOf off18.toNat 14 4 = x14 at *
  simp only [bitsOf, BitVec.toNat_ofNat, Nat.reducePow] at *
  omega

/-! ## Format B -/

theorem encB_disp24_0 (op1 : Nat) (disp24 : BitVec 24) (h1 : op1 < 256) :
    bitsOf (encB op1 disp24).toNat 16 16 = bitsOf disp24.toNat 0 16 := by
  unfold encB
  have g0 := bitsOf_lt disp24.toNat 0 16
  generalize bitsOf disp24.toNat 0 16 = x0 at *
  have g16 := bitsOf_lt disp24.toNat 16 8
  generalize bitsOf disp24.toNat 16 8 = x16 at *
  simp only [bitsOf, BitVec.toNat_ofNat, Nat.reducePow] at *
  omega

theorem encB_disp24_16 (op1 : Nat) (disp24 : BitVec 24) (h1 : op1 < 256) :
    bitsOf (encB op1 disp24).toNat 8 8 = bitsOf disp24.toNat 16 8 := by
  unfold encB
  have g0 := bitsOf_lt disp24.toNat 0 16
  generalize bitsOf disp24.toNat 0 16 = x0 at *
  have g16 := bitsOf_lt disp24.toNat 16 8
  generalize bitsOf disp24.toNat 16 8 = x16 at *
  simp only [bitsOf, BitVec.toNat_ofNat, Nat.reducePow] at *
  omega

theorem encB_fieldDisp24 (op1 : Nat) (disp24 : BitVec 24) (h1 : op1 < 256) :
    fieldDisp24 (encB op1 disp24) = disp24 := by
  apply BitVec.eq_of_toNat_eq
  unfold fieldDisp24
  rw [encB_disp24_0 op1 disp24 h1, encB_disp24_16 op1 disp24 h1]
  have := disp24.isLt
  simp only [bitsOf, BitVec.toNat_ofNat, Nat.reducePow] at *
  omega

theorem encB_op1 (op1 : Nat) (disp24 : BitVec 24) (h1 : op1 < 256) :
    bitsOf (encB op1 disp24).toNat 0 8 = op1 := by
  unfold encB
  have g0 := bitsOf_lt disp24.toNat 0 16
  generalize bitsOf disp24.toNat 0 16 = x0 at *
  have g16 := bitsOf_lt disp24.toNat 16 8
  generalize bitsOf disp24.toNat 16 8 = x16 at *
  simp only [bitsOf, BitVec.toNat_ofNat, Nat.reducePow] at *
  omega

/-! ## Format BIT -/

theorem encBit_fieldD (op1 : Nat) (op2 : Nat) (a : Reg) (b : Reg) (c : Reg) (p2 : BitVec 5) (p1 : BitVec 5) (h1 : op1 < 256) (h2 : op2 < 4) :
    fieldD (encBit op1 op2 a b c p2 p1) = c := by
  apply Fin.ext
  unfold fieldD encBit
  simp only [bitsOf, Fin.val_ofNat, BitVec.toNat_ofNat, Nat.reducePow] at *
  omega

theorem encBit_fieldP2 (op1 : Nat) (op2 : Nat) (a : Reg) (b : Reg) (c : Reg) (p2 : BitVec 5) (p1 : BitVec 5) (h1 : op1 < 256) (h2 : op2 < 4) :
    fieldP2 (encBit op1 op2 a b c p2 p1) = p2 := by
  apply BitVec.eq_of_toNat_eq
  unfold fieldP2 encBit
  simp only [bitsOf, BitVec.toNat_ofNat, Nat.reducePow] at *
  omega

theorem encBit_op2 (op1 : Nat) (op2 : Nat) (a : Reg) (b : Reg) (c : Reg) (p2 : BitVec 5) (p1 : BitVec 5) (h1 : op1 < 256) (h2 : op2 < 4) :
    bitsOf (encBit op1 op2 a b c p2 p1).toNat 21 2 = op2 := by
  unfold encBit
  simp only [bitsOf, BitVec.toNat_ofNat, Nat.reducePow] at *
  omega

theorem encBit_fieldP1 (op1 : Nat) (op2 : Nat) (a : Reg) (b : Reg) (c : Reg) (p2 : BitVec 5) (p1 : BitVec 5) (h1 : op1 < 256) :
    fieldP1 (encBit op1 op2 a b c p2 p1) = p1 := by
  apply BitVec.eq_of_toNat_eq
  unfold fieldP1 encBit
  simp only [bitsOf, BitVec.toNat_ofNat, Nat.reducePow] at *
  omega

theorem encBit_fieldS2 (op1 : Nat) (op2 : Nat) (a : Reg) (b : Reg) (c : Reg) (p2 : BitVec 5) (p1 : BitVec 5) (h1 : op1 < 256) :
    fieldS2 (encBit op1 op2 a b c p2 p1) = b := by
  apply Fin.ext
  unfold fieldS2 encBit
  simp only [bitsOf, Fin.val_ofNat, BitVec.toNat_ofNat, Nat.reducePow] at *
  omega

theorem encBit_fieldS1 (op1 : Nat) (op2 : Nat) (a : Reg) (b : Reg) (c : Reg) (p2 : BitVec 5) (p1 : BitVec 5) (h1 : op1 < 256) :
    fieldS1 (encBit op1 op2 a b c p2 p1) = a := by
  apply Fin.ext
  unfold fieldS1 encBit
  simp only [bitsOf, Fin.val_ofNat, BitVec.toNat_ofNat, Nat.reducePow] at *
  omega

theorem encBit_op1 (op1 : Nat) (op2 : Nat) (a : Reg) (b : Reg) (c : Reg) (p2 : BitVec 5) (p1 : BitVec 5) (h1 : op1 < 256) :
    bitsOf (encBit op1 op2 a b c p2 p1).toNat 0 8 = op1 := by
  unfold encBit
  simp only [bitsOf, BitVec.toNat_ofNat, Nat.reducePow] at *
  omega

/-! ## Format BO -/

theorem encBo_off10_6 (op1 : Nat) (op2 : Nat) (a : Reg) (b : Reg) (off10 : BitVec 10) (h1 : op1 < 256) (h2 : op2 < 64) :
    bitsOf (encBo op1 op2 a b off10).toNat 28 4 = bitsOf off10.toNat 6 4 := by
  unfold encBo
  have g6 := bitsOf_lt off10.toNat 6 4
  generalize bitsOf off10.toNat 6 4 = x6 at *
  have g0 := bitsOf_lt off10.toNat 0 6
  generalize bitsOf off10.toNat 0 6 = x0 at *
  simp only [bitsOf, BitVec.toNat_ofNat, Nat.reducePow] at *
  omega

theorem encBo_off10_0 (op1 : Nat) (op2 : Nat) (a : Reg) (b : Reg) (off10 : BitVec 10) (h1 : op1 < 256) :
    bitsOf (encBo op1 op2 a b off10).toNat 16 6 = bitsOf off10.toNat 0 6 := by
  unfold encBo
  have g6 := bitsOf_lt off10.toNat 6 4
  generalize bitsOf off10.toNat 6 4 = x6 at *
  have g0 := bitsOf_lt off10.toNat 0 6
  generalize bitsOf off10.toNat 0 6 = x0 at *
  simp only [bitsOf, BitVec.toNat_ofNat, Nat.reducePow] at *
  omega

theorem encBo_fieldOff10 (op1 : Nat) (op2 : Nat) (a : Reg) (b : Reg) (off10 : BitVec 10) (h1 : op1 < 256) (h2 : op2 < 64) :
    fieldOff10 (encBo op1 op2 a b off10) = off10 := by
  apply BitVec.eq_of_toNat_eq
  unfold fieldOff10
  rw [encBo_off10_6 op1 op2 a b off10 h1 h2, encBo_off10_0 op1 op2 a b off10 h1]
  have := off10.isLt
  simp only [bitsOf, BitVec.toNat_ofNat, Nat.reducePow] at *
  omega

theorem encBo_op2 (op1 : Nat) (op2 : Nat) (a : Reg) (b : Reg) (off10 : BitVec 10) (h1 : op1 < 256) (h2 : op2 < 64) :
    bitsOf (encBo op1 op2 a b off10).toNat 22 6 = op2 := by
  unfold encBo
  have g6 := bitsOf_lt off10.toNat 6 4
  generalize bitsOf off10.toNat 6 4 = x6 at *
  have g0 := bitsOf_lt off10.toNat 0 6
  generalize bitsOf off10.toNat 0 6 = x0 at *
  simp only [bitsOf, BitVec.toNat_ofNat, Nat.reducePow] at *
  omega

theorem encBo_fieldS2 (op1 : Nat) (op2 : Nat) (a : Reg) (b : Reg) (off10 : BitVec 10) (h1 : op1 < 256) :
    fieldS2 (encBo op1 op2 a b off10) = b := by
  apply Fin.ext
  unfold fieldS2 encBo
  have g6 := bitsOf_lt off10.toNat 6 4
  generalize bitsOf off10.toNat 6 4 = x6 at *
  have g0 := bitsOf_lt off10.toNat 0 6
  generalize bitsOf off10.toNat 0 6 = x0 at *
  simp only [bitsOf, Fin.val_ofNat, BitVec.toNat_ofNat, Nat.reducePow] at *
  omega

theorem encBo_fieldS1 (op1 : Nat) (op2 : Nat) (a : Reg) (b : Reg) (off10 : BitVec 10) (h1 : op1 < 256) :
    fieldS1 (encBo op1 op2 a b off10) = a := by
  apply Fin.ext
  unfold fieldS1 encBo
  have g6 := bitsOf_lt off10.toNat 6 4
  generalize bitsOf off10.toNat 6 4 = x6 at *
  have g0 := bitsOf_lt off10.toNat 0 6
  generalize bitsOf off10.toNat 0 6 = x0 at *
  simp only [bitsOf, Fin.val_ofNat, BitVec.toNat_ofNat, Nat.reducePow] at *
  omega

theorem encBo_op1 (op1 : Nat) (op2 : Nat) (a : Reg) (b : Reg) (off10 : BitVec 10) (h1 : op1 < 256) :
    bitsOf (encBo op1 op2 a b off10).toNat 0 8 = op1 := by
  unfold encBo
  have g6 := bitsOf_lt off10.toNat 6 4
  generalize bitsOf off10.toNat 6 4 = x6 at *
  have g0 := bitsOf_lt off10.toNat 0 6
  generalize bitsOf off10.toNat 0 6 = x0 at *
  simp only [bitsOf, BitVec.toNat_ofNat, Nat.reducePow] at *
  omega

/-! ## Format BOL -/

theorem encBol_off16_6 (op1 : Nat) (a : Reg) (b : Reg) (off16 : BitVec 16) (h1 : op1 < 256) :
    bitsOf (encBol op1 a b off16).toNat 28 4 = bitsOf off16.toNat 6 4 := by
  unfold encBol
  have g6 := bitsOf_lt off16.toNat 6 4
  generalize bitsOf off16.toNat 6 4 = x6 at *
  have g10 := bitsOf_lt off16.toNat 10 6
  generalize bitsOf off16.toNat 10 6 = x10 at *
  have g0 := bitsOf_lt off16.toNat 0 6
  generalize bitsOf off16.toNat 0 6 = x0 at *
  simp only [bitsOf, BitVec.toNat_ofNat, Nat.reducePow] at *
  omega

theorem encBol_off16_10 (op1 : Nat) (a : Reg) (b : Reg) (off16 : BitVec 16) (h1 : op1 < 256) :
    bitsOf (encBol op1 a b off16).toNat 22 6 = bitsOf off16.toNat 10 6 := by
  unfold encBol
  have g6 := bitsOf_lt off16.toNat 6 4
  generalize bitsOf off16.toNat 6 4 = x6 at *
  have g10 := bitsOf_lt off16.toNat 10 6
  generalize bitsOf off16.toNat 10 6 = x10 at *
  have g0 := bitsOf_lt off16.toNat 0 6
  generalize bitsOf off16.toNat 0 6 = x0 at *
  simp only [bitsOf, BitVec.toNat_ofNat, Nat.reducePow] at *
  omega

theorem encBol_off16_0 (op1 : Nat) (a : Reg) (b : Reg) (off16 : BitVec 16) (h1 : op1 < 256) :
    bitsOf (encBol op1 a b off16).toNat 16 6 = bitsOf off16.toNat 0 6 := by
  unfold encBol
  have g6 := bitsOf_lt off16.toNat 6 4
  generalize bitsOf off16.toNat 6 4 = x6 at *
  have g10 := bitsOf_lt off16.toNat 10 6
  generalize bitsOf off16.toNat 10 6 = x10 at *
  have g0 := bitsOf_lt off16.toNat 0 6
  generalize bitsOf off16.toNat 0 6 = x0 at *
  simp only [bitsOf, BitVec.toNat_ofNat, Nat.reducePow] at *
  omega

theorem encBol_fieldOff16 (op1 : Nat) (a : Reg) (b : Reg) (off16 : BitVec 16) (h1 : op1 < 256) :
    fieldOff16 (encBol op1 a b off16) = off16 := by
  apply BitVec.eq_of_toNat_eq
  unfold fieldOff16
  rw [encBol_off16_6 op1 a b off16 h1, encBol_off16_10 op1 a b off16 h1, encBol_off16_0 op1 a b off16 h1]
  have := off16.isLt
  simp only [bitsOf, BitVec.toNat_ofNat, Nat.reducePow] at *
  omega

theorem encBol_fieldS2 (op1 : Nat) (a : Reg) (b : Reg) (off16 : BitVec 16) (h1 : op1 < 256) :
    fieldS2 (encBol op1 a b off16) = b := by
  apply Fin.ext
  unfold fieldS2 encBol
  have g6 := bitsOf_lt off16.toNat 6 4
  generalize bitsOf off16.toNat 6 4 = x6 at *
  have g10 := bitsOf_lt off16.toNat 10 6
  generalize bitsOf off16.toNat 10 6 = x10 at *
  have g0 := bitsOf_lt off16.toNat 0 6
  generalize bitsOf off16.toNat 0 6 = x0 at *
  simp only [bitsOf, Fin.val_ofNat, BitVec.toNat_ofNat, Nat.reducePow] at *
  omega

theorem encBol_fieldS1 (op1 : Nat) (a : Reg) (b : Reg) (off16 : BitVec 16) (h1 : op1 < 256) :
    fieldS1 (encBol op1 a b off16) = a := by
  apply Fin.ext
  unfold fieldS1 encBol
  have g6 := bitsOf_lt off16.toNat 6 4
  generalize bitsOf off16.toNat 6 4 = x6 at *
  have g10 := bitsOf_lt off16.toNat 10 6
  generalize bitsOf off16.toNat 10 6 = x10 at *
  have g0 := bitsOf_lt off16.toNat 0 6
  generalize bitsOf off16.toNat 0 6 = x0 at *
  simp only [bitsOf, Fin.val_ofNat, BitVec.toNat_ofNat, Nat.reducePow] at *
  omega

theorem encBol_op1 (op1 : Nat) (a : Reg) (b : Reg) (off16 : BitVec 16) (h1 : op1 < 256) :
    bitsOf (encBol op1 a b off16).toNat 0 8 = op1 := by
  unfold encBol
  have g6 := bitsOf_lt off16.toNat 6 4
  generalize bitsOf off16.toNat 6 4 = x6 at *
  have g10 := bitsOf_lt off16.toNat 10 6
  generalize bitsOf off16.toNat 10 6 = x10 at *
  have g0 := bitsOf_lt off16.toNat 0 6
  generalize bitsOf off16.toNat 0 6 = x0 at *
  simp only [bitsOf, BitVec.toNat_ofNat, Nat.reducePow] at *
  omega

/-! ## Format BRC -/

theorem encBrc_op2 (op1 : Nat) (op2 : Nat) (a : Reg) (disp15 : BitVec 15) (const4 : BitVec 4) (h1 : op1 < 256) (h2 : op2 < 2) :
    bitsOf (encBrc op1 op2 a disp15 const4).toNat 31 1 = op2 := by
  unfold encBrc
  simp only [bitsOf, BitVec.toNat_ofNat, Nat.reducePow] at *
  omega

theorem encBrc_fieldDisp15 (op1 : Nat) (op2 : Nat) (a : Reg) (disp15 : BitVec 15) (const4 : BitVec 4) (h1 : op1 < 256) :
    fieldDisp15 (encBrc op1 op2 a disp15 const4) = disp15 := by
  apply BitVec.eq_of_toNat_eq
  unfold fieldDisp15 encBrc
  simp only [bitsOf, BitVec.toNat_ofNat, Nat.reducePow] at *
  omega

theorem encBrc_fieldConst4 (op1 : Nat) (op2 : Nat) (a : Reg) (disp15 : BitVec 15) (const4 : BitVec 4) (h1 : op1 < 256) :
    fieldConst4 (encBrc op1 op2 a disp15 const4) = const4 := by
  apply BitVec.eq_of_toNat_eq
  unfold fieldConst4 encBrc
  simp only [bitsOf, BitVec.toNat_ofNat, Nat.reducePow] at *
  omega

theorem encBrc_fieldS1 (op1 : Nat) (op2 : Nat) (a : Reg) (disp15 : BitVec 15) (const4 : BitVec 4) (h1 : op1 < 256) :
    fieldS1 (encBrc op1 op2 a disp15 const4) = a := by
  apply Fin.ext
  unfold fieldS1 encBrc
  simp only [bitsOf, Fin.val_ofNat, BitVec.toNat_ofNat, Nat.reducePow] at *
  omega

theorem encBrc_op1 (op1 : Nat) (op2 : Nat) (a : Reg) (disp15 : BitVec 15) (const4 : BitVec 4) (h1 : op1 < 256) :
    bitsOf (encBrc op1 op2 a disp15 const4).toNat 0 8 = op1 := by
  unfold encBrc
  simp only [bitsOf, BitVec.toNat_ofNat, Nat.reducePow] at *
  omega

/-! ## Format BRN -/

theorem encBrn_op2 (op1 : Nat) (op2 : Nat) (a : Reg) (disp15 : BitVec 15) (n : BitVec 5) (h1 : op1 < 128) (h2 : op2 < 2) :
    bitsOf (encBrn op1 op2 a disp15 n).toNat 31 1 = op2 := by
  unfold encBrn
  have g0 := bitsOf_lt n.toNat 0 4
  generalize bitsOf n.toNat 0 4 = x0 at *
  have g4 := bitsOf_lt n.toNat 4 1
  generalize bitsOf n.toNat 4 1 = x4 at *
  simp only [bitsOf, BitVec.toNat_ofNat, Nat.reducePow] at *
  omega

theorem encBrn_fieldDisp15 (op1 : Nat) (op2 : Nat) (a : Reg) (disp15 : BitVec 15) (n : BitVec 5) (h1 : op1 < 128) :
    fieldDisp15 (encBrn op1 op2 a disp15 n) = disp15 := by
  apply BitVec.eq_of_toNat_eq
  unfold fieldDisp15 encBrn
  have g0 := bitsOf_lt n.toNat 0 4
  generalize bitsOf n.toNat 0 4 = x0 at *
  have g4 := bitsOf_lt n.toNat 4 1
  generalize bitsOf n.toNat 4 1 = x4 at *
  simp only [bitsOf, BitVec.toNat_ofNat, Nat.reducePow] at *
  omega

theorem encBrn_n5_0 (op1 : Nat) (op2 : Nat) (a : Reg) (disp15 : BitVec 15) (n : BitVec 5) (h1 : op1 < 128) :
    bitsOf (encBrn op1 op2 a disp15 n).toNat 12 4 = bitsOf n.toNat 0 4 := by
  unfold encBrn
  have g0 := bitsOf_lt n.toNat 0 4
  generalize bitsOf n.toNat 0 4 = x0 at *
  have g4 := bitsOf_lt n.toNat 4 1
  generalize bitsOf n.toNat 4 1 = x4 at *
  simp only [bitsOf, BitVec.toNat_ofNat, Nat.reducePow] at *
  omega

theorem encBrn_n5_4 (op1 : Nat) (op2 : Nat) (a : Reg) (disp15 : BitVec 15) (n : BitVec 5) (h1 : op1 < 128) :
    bitsOf (encBrn op1 op2 a disp15 n).toNat 7 1 = bitsOf n.toNat 4 1 := by
  unfold encBrn
  have g0 := bitsOf_lt n.toNat 0 4
  generalize bitsOf n.toNat 0 4 = x0 at *
  have g4 := bitsOf_lt n.toNat 4 1
  generalize bitsOf n.toNat 4 1 = x4 at *
  simp only [bitsOf, BitVec.toNat_ofNat, Nat.reducePow] at *
  omega

theorem encBrn_fieldBitNumber (op1 : Nat) (op2 : Nat) (a : Reg) (disp15 : BitVec 15) (n : BitVec 5) (h1 : op1 < 128) :
    fieldBitNumber (encBrn op1 op2 a disp15 n) = n := by
  apply BitVec.eq_of_toNat_eq
  unfold fieldBitNumber
  rw [encBrn_n5_0 op1 op2 a disp15 n h1, encBrn_n5_4 op1 op2 a disp15 n h1]
  have := n.isLt
  simp only [bitsOf, BitVec.toNat_ofNat, Nat.reducePow] at *
  omega

theorem encBrn_fieldS1 (op1 : Nat) (op2 : Nat) (a : Reg) (disp15 : BitVec 15) (n : BitVec 5) (h1 : op1 < 128) :
    fieldS1 (encBrn op1 op2 a disp15 n) = a := by
  apply Fin.ext
  unfold fieldS1 encBrn
  have g0 := bitsOf_lt n.toNat 0 4
  generalize bitsOf n.toNat 0 4 = x0 at *
  have g4 := bitsOf_lt n.toNat 4 1
  generalize bitsOf n.toNat 4 1 = x4 at *
  simp only [bitsOf, Fin.val_ofNat, BitVec.toNat_ofNat, Nat.reducePow] at *
  omega

theorem encBrn_op1 (op1 : Nat) (op2 : Nat) (a : Reg) (disp15 : BitVec 15) (n : BitVec 5) (h1 : op1 < 128) :
    bitsOf (encBrn op1 op2 a disp15 n).toNat 0 7 = op1 := by
  unfold encBrn
  have g0 := bitsOf_lt n.toNat 0 4
  generalize bitsOf n.toNat 0 4 = x0 at *
  have g4 := bitsOf_lt n.toNat 4 1
  generalize bitsOf n.toNat 4 1 = x4 at *
  simp only [bitsOf, BitVec.toNat_ofNat, Nat.reducePow] at *
  omega

/-- The first byte of BRN holds part of the operand above op1 (30 R210). -/
theorem encBrn_firstByte (op1 : Nat) (op2 : Nat) (a : Reg) (disp15 : BitVec 15) (n : BitVec 5) (h1 : op1 < 128) :
    bitsOf (encBrn op1 op2 a disp15 n).toNat 0 8 = op1 + bitsOf n.toNat 4 1 * 128 := by
  unfold encBrn
  have g0 := bitsOf_lt n.toNat 0 4
  generalize bitsOf n.toNat 0 4 = x0 at *
  have g4 := bitsOf_lt n.toNat 4 1
  generalize bitsOf n.toNat 4 1 = x4 at *
  simp only [bitsOf, BitVec.toNat_ofNat, Nat.reducePow] at *
  omega

/-! ## Format BRR -/

theorem encBrr_op2 (op1 : Nat) (op2 : Nat) (a : Reg) (b : Reg) (disp15 : BitVec 15) (h1 : op1 < 256) (h2 : op2 < 2) :
    bitsOf (encBrr op1 op2 a b disp15).toNat 31 1 = op2 := by
  unfold encBrr
  simp only [bitsOf, BitVec.toNat_ofNat, Nat.reducePow] at *
  omega

theorem encBrr_fieldDisp15 (op1 : Nat) (op2 : Nat) (a : Reg) (b : Reg) (disp15 : BitVec 15) (h1 : op1 < 256) :
    fieldDisp15 (encBrr op1 op2 a b disp15) = disp15 := by
  apply BitVec.eq_of_toNat_eq
  unfold fieldDisp15 encBrr
  simp only [bitsOf, BitVec.toNat_ofNat, Nat.reducePow] at *
  omega

theorem encBrr_fieldS2 (op1 : Nat) (op2 : Nat) (a : Reg) (b : Reg) (disp15 : BitVec 15) (h1 : op1 < 256) :
    fieldS2 (encBrr op1 op2 a b disp15) = b := by
  apply Fin.ext
  unfold fieldS2 encBrr
  simp only [bitsOf, Fin.val_ofNat, BitVec.toNat_ofNat, Nat.reducePow] at *
  omega

theorem encBrr_fieldS1 (op1 : Nat) (op2 : Nat) (a : Reg) (b : Reg) (disp15 : BitVec 15) (h1 : op1 < 256) :
    fieldS1 (encBrr op1 op2 a b disp15) = a := by
  apply Fin.ext
  unfold fieldS1 encBrr
  simp only [bitsOf, Fin.val_ofNat, BitVec.toNat_ofNat, Nat.reducePow] at *
  omega

theorem encBrr_op1 (op1 : Nat) (op2 : Nat) (a : Reg) (b : Reg) (disp15 : BitVec 15) (h1 : op1 < 256) :
    bitsOf (encBrr op1 op2 a b disp15).toNat 0 8 = op1 := by
  unfold encBrr
  simp only [bitsOf, BitVec.toNat_ofNat, Nat.reducePow] at *
  omega

/-! ## Format RC -/

theorem encRc_fieldD (op1 : Nat) (op2 : Nat) (a : Reg) (c : Reg) (const9 : BitVec 9) (h1 : op1 < 256) (h2 : op2 < 128) :
    fieldD (encRc op1 op2 a c const9) = c := by
  apply Fin.ext
  unfold fieldD encRc
  simp only [bitsOf, Fin.val_ofNat, BitVec.toNat_ofNat, Nat.reducePow] at *
  omega

theorem encRc_op2 (op1 : Nat) (op2 : Nat) (a : Reg) (c : Reg) (const9 : BitVec 9) (h1 : op1 < 256) (h2 : op2 < 128) :
    bitsOf (encRc op1 op2 a c const9).toNat 21 7 = op2 := by
  unfold encRc
  simp only [bitsOf, BitVec.toNat_ofNat, Nat.reducePow] at *
  omega

theorem encRc_fieldConst9 (op1 : Nat) (op2 : Nat) (a : Reg) (c : Reg) (const9 : BitVec 9) (h1 : op1 < 256) :
    fieldConst9 (encRc op1 op2 a c const9) = const9 := by
  apply BitVec.eq_of_toNat_eq
  unfold fieldConst9 encRc
  simp only [bitsOf, BitVec.toNat_ofNat, Nat.reducePow] at *
  omega

theorem encRc_fieldS1 (op1 : Nat) (op2 : Nat) (a : Reg) (c : Reg) (const9 : BitVec 9) (h1 : op1 < 256) :
    fieldS1 (encRc op1 op2 a c const9) = a := by
  apply Fin.ext
  unfold fieldS1 encRc
  simp only [bitsOf, Fin.val_ofNat, BitVec.toNat_ofNat, Nat.reducePow] at *
  omega

theorem encRc_op1 (op1 : Nat) (op2 : Nat) (a : Reg) (c : Reg) (const9 : BitVec 9) (h1 : op1 < 256) :
    bitsOf (encRc op1 op2 a c const9).toNat 0 8 = op1 := by
  unfold encRc
  simp only [bitsOf, BitVec.toNat_ofNat, Nat.reducePow] at *
  omega

/-! ## Format RCPW -/

theorem encRcpw_fieldD (op1 : Nat) (op2 : Nat) (a : Reg) (c : Reg) (p : BitVec 5) (w : BitVec 5) (const4 : BitVec 4) (h1 : op1 < 256) (h2 : op2 < 4) :
    fieldD (encRcpw op1 op2 a c p w const4) = c := by
  apply Fin.ext
  unfold fieldD encRcpw
  simp only [bitsOf, Fin.val_ofNat, BitVec.toNat_ofNat, Nat.reducePow] at *
  omega

theorem encRcpw_fieldP (op1 : Nat) (op2 : Nat) (a : Reg) (c : Reg) (p : BitVec 5) (w : BitVec 5) (const4 : BitVec 4) (h1 : op1 < 256) (h2 : op2 < 4) :
    fieldP (encRcpw op1 op2 a c p w const4) = p := by
  apply BitVec.eq_of_toNat_eq
  unfold fieldP encRcpw
  simp only [bitsOf, BitVec.toNat_ofNat, Nat.reducePow] at *
  omega

theorem encRcpw_op2 (op1 : Nat) (op2 : Nat) (a : Reg) (c : Reg) (p : BitVec 5) (w : BitVec 5) (const4 : BitVec 4) (h1 : op1 < 256) (h2 : op2 < 4) :
    bitsOf (encRcpw op1 op2 a c p w const4).toNat 21 2 = op2 := by
  unfold encRcpw
  simp only [bitsOf, BitVec.toNat_ofNat, Nat.reducePow] at *
  omega

theorem encRcpw_fieldWidth (op1 : Nat) (op2 : Nat) (a : Reg) (c : Reg) (p : BitVec 5) (w : BitVec 5) (const4 : BitVec 4) (h1 : op1 < 256) :
    fieldWidth (encRcpw op1 op2 a c p w const4) = w := by
  apply BitVec.eq_of_toNat_eq
  unfold fieldWidth encRcpw
  simp only [bitsOf, BitVec.toNat_ofNat, Nat.reducePow] at *
  omega

theorem encRcpw_fieldConst4 (op1 : Nat) (op2 : Nat) (a : Reg) (c : Reg) (p : BitVec 5) (w : BitVec 5) (const4 : BitVec 4) (h1 : op1 < 256) :
    fieldConst4 (encRcpw op1 op2 a c p w const4) = const4 := by
  apply BitVec.eq_of_toNat_eq
  unfold fieldConst4 encRcpw
  simp only [bitsOf, BitVec.toNat_ofNat, Nat.reducePow] at *
  omega

theorem encRcpw_fieldS1 (op1 : Nat) (op2 : Nat) (a : Reg) (c : Reg) (p : BitVec 5) (w : BitVec 5) (const4 : BitVec 4) (h1 : op1 < 256) :
    fieldS1 (encRcpw op1 op2 a c p w const4) = a := by
  apply Fin.ext
  unfold fieldS1 encRcpw
  simp only [bitsOf, Fin.val_ofNat, BitVec.toNat_ofNat, Nat.reducePow] at *
  omega

theorem encRcpw_op1 (op1 : Nat) (op2 : Nat) (a : Reg) (c : Reg) (p : BitVec 5) (w : BitVec 5) (const4 : BitVec 4) (h1 : op1 < 256) :
    bitsOf (encRcpw op1 op2 a c p w const4).toNat 0 8 = op1 := by
  unfold encRcpw
  simp only [bitsOf, BitVec.toNat_ofNat, Nat.reducePow] at *
  omega

/-! ## Format RCR -/

theorem encRcr_fieldD (op1 : Nat) (op2 : Nat) (a : Reg) (d : Reg) (c : Reg) (const9 : BitVec 9) (h1 : op1 < 256) (h2 : op2 < 8) :
    fieldD (encRcr op1 op2 a d c const9) = c := by
  apply Fin.ext
  unfold fieldD encRcr
  simp only [bitsOf, Fin.val_ofNat, BitVec.toNat_ofNat, Nat.reducePow] at *
  omega

theorem encRcr_fieldS3 (op1 : Nat) (op2 : Nat) (a : Reg) (d : Reg) (c : Reg) (const9 : BitVec 9) (h1 : op1 < 256) (h2 : op2 < 8) :
    fieldS3 (encRcr op1 op2 a d c const9) = d := by
  apply Fin.ext
  unfold fieldS3 encRcr
  simp only [bitsOf, Fin.val_ofNat, BitVec.toNat_ofNat, Nat.reducePow] at *
  omega

theorem encRcr_op2 (op1 : Nat) (op2 : Nat) (a : Reg) (d : Reg) (c : Reg) (const9 : BitVec 9) (h1 : op1 < 256) (h2 : op2 < 8) :
    bitsOf (encRcr op1 op2 a d c const9).toNat 21 3 = op2 := by
  unfold encRcr
  simp only [bitsOf, BitVec.toNat_ofNat, Nat.reducePow] at *
  omega

theorem encRcr_fieldConst9 (op1 : Nat) (op2 : Nat) (a : Reg) (d : Reg) (c : Reg) (const9 : BitVec 9) (h1 : op1 < 256) :
    fieldConst9 (encRcr op1 op2 a d c const9) = const9 := by
  apply BitVec.eq_of_toNat_eq
  unfold fieldConst9 encRcr
  simp only [bitsOf, BitVec.toNat_ofNat, Nat.reducePow] at *
  omega

theorem encRcr_fieldS1 (op1 : Nat) (op2 : Nat) (a : Reg) (d : Reg) (c : Reg) (const9 : BitVec 9) (h1 : op1 < 256) :
    fieldS1 (encRcr op1 op2 a d c const9) = a := by
  apply Fin.ext
  unfold fieldS1 encRcr
  simp only [bitsOf, Fin.val_ofNat, BitVec.toNat_ofNat, Nat.reducePow] at *
  omega

theorem encRcr_op1 (op1 : Nat) (op2 : Nat) (a : Reg) (d : Reg) (c : Reg) (const9 : BitVec 9) (h1 : op1 < 256) :
    bitsOf (encRcr op1 op2 a d c const9).toNat 0 8 = op1 := by
  unfold encRcr
  simp only [bitsOf, BitVec.toNat_ofNat, Nat.reducePow] at *
  omega

/-! ## Format RCRR -/

theorem encRcrr_fieldD (op1 : Nat) (op2 : Nat) (a : Reg) (d : Reg) (c : Reg) (const4 : BitVec 4) (h1 : op1 < 256) (h2 : op2 < 8) :
    fieldD (encRcrr op1 op2 a d c const4) = c := by
  apply Fin.ext
  unfold fieldD encRcrr
  simp only [bitsOf, Fin.val_ofNat, BitVec.toNat_ofNat, Nat.reducePow] at *
  omega

theorem encRcrr_fieldS3 (op1 : Nat) (op2 : Nat) (a : Reg) (d : Reg) (c : Reg) (const4 : BitVec 4) (h1 : op1 < 256) (h2 : op2 < 8) :
    fieldS3 (encRcrr op1 op2 a d c const4) = d := by
  apply Fin.ext
  unfold fieldS3 encRcrr
  simp only [bitsOf, Fin.val_ofNat, BitVec.toNat_ofNat, Nat.reducePow] at *
  omega

theorem encRcrr_op2 (op1 : Nat) (op2 : Nat) (a : Reg) (d : Reg) (c : Reg) (const4 : BitVec 4) (h1 : op1 < 256) (h2 : op2 < 8) :
    bitsOf (encRcrr op1 op2 a d c const4).toNat 21 3 = op2 := by
  unfold encRcrr
  simp only [bitsOf, BitVec.toNat_ofNat, Nat.reducePow] at *
  omega

theorem encRcrr_fieldConst4 (op1 : Nat) (op2 : Nat) (a : Reg) (d : Reg) (c : Reg) (const4 : BitVec 4) (h1 : op1 < 256) :
    fieldConst4 (encRcrr op1 op2 a d c const4) = const4 := by
  apply BitVec.eq_of_toNat_eq
  unfold fieldConst4 encRcrr
  simp only [bitsOf, BitVec.toNat_ofNat, Nat.reducePow] at *
  omega

theorem encRcrr_fieldS1 (op1 : Nat) (op2 : Nat) (a : Reg) (d : Reg) (c : Reg) (const4 : BitVec 4) (h1 : op1 < 256) :
    fieldS1 (encRcrr op1 op2 a d c const4) = a := by
  apply Fin.ext
  unfold fieldS1 encRcrr
  simp only [bitsOf, Fin.val_ofNat, BitVec.toNat_ofNat, Nat.reducePow] at *
  omega

theorem encRcrr_op1 (op1 : Nat) (op2 : Nat) (a : Reg) (d : Reg) (c : Reg) (const4 : BitVec 4) (h1 : op1 < 256) :
    bitsOf (encRcrr op1 op2 a d c const4).toNat 0 8 = op1 := by
  unfold encRcrr
  simp only [bitsOf, BitVec.toNat_ofNat, Nat.reducePow] at *
  omega

/-! ## Format RCRW -/

theorem encRcrw_fieldD (op1 : Nat) (op2 : Nat) (a : Reg) (d : Reg) (c : Reg) (w : BitVec 5) (const4 : BitVec 4) (h1 : op1 < 256) (h2 : op2 < 8) :
    fieldD (encRcrw op1 op2 a d c w const4) = c := by
  apply Fin.ext
  unfold fieldD encRcrw
  simp only [bitsOf, Fin.val_ofNat, BitVec.toNat_ofNat, Nat.reducePow] at *
  omega

theorem encRcrw_fieldS3 (op1 : Nat) (op2 : Nat) (a : Reg) (d : Reg) (c : Reg) (w : BitVec 5) (const4 : BitVec 4) (h1 : op1 < 256) (h2 : op2 < 8) :
    fieldS3 (encRcrw op1 op2 a d c w const4) = d := by
  apply Fin.ext
  unfold fieldS3 encRcrw
  simp only [bitsOf, Fin.val_ofNat, BitVec.toNat_ofNat, Nat.reducePow] at *
  omega

theorem encRcrw_op2 (op1 : Nat) (op2 : Nat) (a : Reg) (d : Reg) (c : Reg) (w : BitVec 5) (const4 : BitVec 4) (h1 : op1 < 256) (h2 : op2 < 8) :
    bitsOf (encRcrw op1 op2 a d c w const4).toNat 21 3 = op2 := by
  unfold encRcrw
  simp only [bitsOf, BitVec.toNat_ofNat, Nat.reducePow] at *
  omega

theorem encRcrw_fieldWidth (op1 : Nat) (op2 : Nat) (a : Reg) (d : Reg) (c : Reg) (w : BitVec 5) (const4 : BitVec 4) (h1 : op1 < 256) :
    fieldWidth (encRcrw op1 op2 a d c w const4) = w := by
  apply BitVec.eq_of_toNat_eq
  unfold fieldWidth encRcrw
  simp only [bitsOf, BitVec.toNat_ofNat, Nat.reducePow] at *
  omega

theorem encRcrw_fieldConst4 (op1 : Nat) (op2 : Nat) (a : Reg) (d : Reg) (c : Reg) (w : BitVec 5) (const4 : BitVec 4) (h1 : op1 < 256) :
    fieldConst4 (encRcrw op1 op2 a d c w const4) = const4 := by
  apply BitVec.eq_of_toNat_eq
  unfold fieldConst4 encRcrw
  simp only [bitsOf, BitVec.toNat_ofNat, Nat.reducePow] at *
  omega

theorem encRcrw_fieldS1 (op1 : Nat) (op2 : Nat) (a : Reg) (d : Reg) (c : Reg) (w : BitVec 5) (const4 : BitVec 4) (h1 : op1 < 256) :
    fieldS1 (encRcrw op1 op2 a d c w const4) = a := by
  apply Fin.ext
  unfold fieldS1 encRcrw
  simp only [bitsOf, Fin.val_ofNat, BitVec.toNat_ofNat, Nat.reducePow] at *
  omega

theorem encRcrw_op1 (op1 : Nat) (op2 : Nat) (a : Reg) (d : Reg) (c : Reg) (w : BitVec 5) (const4 : BitVec 4) (h1 : op1 < 256) :
    bitsOf (encRcrw op1 op2 a d c w const4).toNat 0 8 = op1 := by
  unfold encRcrw
  simp only [bitsOf, BitVec.toNat_ofNat, Nat.reducePow] at *
  omega

/-! ## Format RLC -/

theorem encRlc_fieldD (op1 : Nat) (a : Reg) (c : Reg) (const16 : BitVec 16) (h1 : op1 < 256) :
    fieldD (encRlc op1 a c const16) = c := by
  apply Fin.ext
  unfold fieldD encRlc
  simp only [bitsOf, Fin.val_ofNat, BitVec.toNat_ofNat, Nat.reducePow] at *
  omega

theorem encRlc_fieldConst16 (op1 : Nat) (a : Reg) (c : Reg) (const16 : BitVec 16) (h1 : op1 < 256) :
    fieldConst16 (encRlc op1 a c const16) = const16 := by
  apply BitVec.eq_of_toNat_eq
  unfold fieldConst16 encRlc
  simp only [bitsOf, BitVec.toNat_ofNat, Nat.reducePow] at *
  omega

theorem encRlc_fieldS1 (op1 : Nat) (a : Reg) (c : Reg) (const16 : BitVec 16) (h1 : op1 < 256) :
    fieldS1 (encRlc op1 a c const16) = a := by
  apply Fin.ext
  unfold fieldS1 encRlc
  simp only [bitsOf, Fin.val_ofNat, BitVec.toNat_ofNat, Nat.reducePow] at *
  omega

theorem encRlc_op1 (op1 : Nat) (a : Reg) (c : Reg) (const16 : BitVec 16) (h1 : op1 < 256) :
    bitsOf (encRlc op1 a c const16).toNat 0 8 = op1 := by
  unfold encRlc
  simp only [bitsOf, BitVec.toNat_ofNat, Nat.reducePow] at *
  omega

/-! ## Format RR -/

theorem encRr_fieldD (op1 : Nat) (op2 : Nat) (a : Reg) (b : Reg) (c : Reg) (n : BitVec 2) (h1 : op1 < 256) (h2 : op2 < 256) :
    fieldD (encRr op1 op2 a b c n) = c := by
  apply Fin.ext
  unfold fieldD encRr
  simp only [bitsOf, Fin.val_ofNat, BitVec.toNat_ofNat, Nat.reducePow] at *
  omega

theorem encRr_op2 (op1 : Nat) (op2 : Nat) (a : Reg) (b : Reg) (c : Reg) (n : BitVec 2) (h1 : op1 < 256) (h2 : op2 < 256) :
    bitsOf (encRr op1 op2 a b c n).toNat 20 8 = op2 := by
  unfold encRr
  simp only [bitsOf, BitVec.toNat_ofNat, Nat.reducePow] at *
  omega

theorem encRr_fieldN (op1 : Nat) (op2 : Nat) (a : Reg) (b : Reg) (c : Reg) (n : BitVec 2) (h1 : op1 < 256) :
    fieldN (encRr op1 op2 a b c n) = n := by
  apply BitVec.eq_of_toNat_eq
  unfold fieldN encRr
  simp only [bitsOf, BitVec.toNat_ofNat, Nat.reducePow] at *
  omega

theorem encRr_fieldS2 (op1 : Nat) (op2 : Nat) (a : Reg) (b : Reg) (c : Reg) (n : BitVec 2) (h1 : op1 < 256) :
    fieldS2 (encRr op1 op2 a b c n) = b := by
  apply Fin.ext
  unfold fieldS2 encRr
  simp only [bitsOf, Fin.val_ofNat, BitVec.toNat_ofNat, Nat.reducePow] at *
  omega

theorem encRr_fieldS1 (op1 : Nat) (op2 : Nat) (a : Reg) (b : Reg) (c : Reg) (n : BitVec 2) (h1 : op1 < 256) :
    fieldS1 (encRr op1 op2 a b c n) = a := by
  apply Fin.ext
  unfold fieldS1 encRr
  simp only [bitsOf, Fin.val_ofNat, BitVec.toNat_ofNat, Nat.reducePow] at *
  omega

theorem encRr_op1 (op1 : Nat) (op2 : Nat) (a : Reg) (b : Reg) (c : Reg) (n : BitVec 2) (h1 : op1 < 256) :
    bitsOf (encRr op1 op2 a b c n).toNat 0 8 = op1 := by
  unfold encRr
  simp only [bitsOf, BitVec.toNat_ofNat, Nat.reducePow] at *
  omega

/-! ## Format RRPW -/

theorem encRrpw_fieldD (op1 : Nat) (op2 : Nat) (a : Reg) (b : Reg) (c : Reg) (p : BitVec 5) (w : BitVec 5) (h1 : op1 < 256) (h2 : op2 < 4) :
    fieldD (encRrpw op1 op2 a b c p w) = c := by
  apply Fin.ext
  unfold fieldD encRrpw
  simp only [bitsOf, Fin.val_ofNat, BitVec.toNat_ofNat, Nat.reducePow] at *
  omega

theorem encRrpw_fieldP (op1 : Nat) (op2 : Nat) (a : Reg) (b : Reg) (c : Reg) (p : BitVec 5) (w : BitVec 5) (h1 : op1 < 256) (h2 : op2 < 4) :
    fieldP (encRrpw op1 op2 a b c p w) = p := by
  apply BitVec.eq_of_toNat_eq
  unfold fieldP encRrpw
  simp only [bitsOf, BitVec.toNat_ofNat, Nat.reducePow] at *
  omega

theorem encRrpw_op2 (op1 : Nat) (op2 : Nat) (a : Reg) (b : Reg) (c : Reg) (p : BitVec 5) (w : BitVec 5) (h1 : op1 < 256) (h2 : op2 < 4) :
    bitsOf (encRrpw op1 op2 a b c p w).toNat 21 2 = op2 := by
  unfold encRrpw
  simp only [bitsOf, BitVec.toNat_ofNat, Nat.reducePow] at *
  omega

theorem encRrpw_fieldWidth (op1 : Nat) (op2 : Nat) (a : Reg) (b : Reg) (c : Reg) (p : BitVec 5) (w : BitVec 5) (h1 : op1 < 256) :
    fieldWidth (encRrpw op1 op2 a b c p w) = w := by
  apply BitVec.eq_of_toNat_eq
  unfold fieldWidth encRrpw
  simp only [bitsOf, BitVec.toNat_ofNat, Nat.reducePow] at *
  omega

theorem encRrpw_fieldS2 (op1 : Nat) (op2 : Nat) (a : Reg) (b : Reg) (c : Reg) (p : BitVec 5) (w : BitVec 5) (h1 : op1 < 256) :
    fieldS2 (encRrpw op1 op2 a b c p w) = b := by
  apply Fin.ext
  unfold fieldS2 encRrpw
  simp only [bitsOf, Fin.val_ofNat, BitVec.toNat_ofNat, Nat.reducePow] at *
  omega

theorem encRrpw_fieldS1 (op1 : Nat) (op2 : Nat) (a : Reg) (b : Reg) (c : Reg) (p : BitVec 5) (w : BitVec 5) (h1 : op1 < 256) :
    fieldS1 (encRrpw op1 op2 a b c p w) = a := by
  apply Fin.ext
  unfold fieldS1 encRrpw
  simp only [bitsOf, Fin.val_ofNat, BitVec.toNat_ofNat, Nat.reducePow] at *
  omega

theorem encRrpw_op1 (op1 : Nat) (op2 : Nat) (a : Reg) (b : Reg) (c : Reg) (p : BitVec 5) (w : BitVec 5) (h1 : op1 < 256) :
    bitsOf (encRrpw op1 op2 a b c p w).toNat 0 8 = op1 := by
  unfold encRrpw
  simp only [bitsOf, BitVec.toNat_ofNat, Nat.reducePow] at *
  omega

/-! ## Format RRR -/

theorem encRrr_fieldD (op1 : Nat) (op2 : Nat) (a : Reg) (b : Reg) (d : Reg) (c : Reg) (n : BitVec 2) (h1 : op1 < 256) (h2 : op2 < 16) :
    fieldD (encRrr op1 op2 a b d c n) = c := by
  apply Fin.ext
  unfold fieldD encRrr
  simp only [bitsOf, Fin.val_ofNat, BitVec.toNat_ofNat, Nat.reducePow] at *
  omega

theorem encRrr_fieldS3 (op1 : Nat) (op2 : Nat) (a : Reg) (b : Reg) (d : Reg) (c : Reg) (n : BitVec 2) (h1 : op1 < 256) (h2 : op2 < 16) :
    fieldS3 (encRrr op1 op2 a b d c n) = d := by
  apply Fin.ext
  unfold fieldS3 encRrr
  simp only [bitsOf, Fin.val_ofNat, BitVec.toNat_ofNat, Nat.reducePow] at *
  omega

theorem encRrr_op2 (op1 : Nat) (op2 : Nat) (a : Reg) (b : Reg) (d : Reg) (c : Reg) (n : BitVec 2) (h1 : op1 < 256) (h2 : op2 < 16) :
    bitsOf (encRrr op1 op2 a b d c n).toNat 20 4 = op2 := by
  unfold encRrr
  simp only [bitsOf, BitVec.toNat_ofNat, Nat.reducePow] at *
  omega

theorem encRrr_fieldN (op1 : Nat) (op2 : Nat) (a : Reg) (b : Reg) (d : Reg) (c : Reg) (n : BitVec 2) (h1 : op1 < 256) :
    fieldN (encRrr op1 op2 a b d c n) = n := by
  apply BitVec.eq_of_toNat_eq
  unfold fieldN encRrr
  simp only [bitsOf, BitVec.toNat_ofNat, Nat.reducePow] at *
  omega

theorem encRrr_fieldS2 (op1 : Nat) (op2 : Nat) (a : Reg) (b : Reg) (d : Reg) (c : Reg) (n : BitVec 2) (h1 : op1 < 256) :
    fieldS2 (encRrr op1 op2 a b d c n) = b := by
  apply Fin.ext
  unfold fieldS2 encRrr
  simp only [bitsOf, Fin.val_ofNat, BitVec.toNat_ofNat, Nat.reducePow] at *
  omega

theorem encRrr_fieldS1 (op1 : Nat) (op2 : Nat) (a : Reg) (b : Reg) (d : Reg) (c : Reg) (n : BitVec 2) (h1 : op1 < 256) :
    fieldS1 (encRrr op1 op2 a b d c n) = a := by
  apply Fin.ext
  unfold fieldS1 encRrr
  simp only [bitsOf, Fin.val_ofNat, BitVec.toNat_ofNat, Nat.reducePow] at *
  omega

theorem encRrr_op1 (op1 : Nat) (op2 : Nat) (a : Reg) (b : Reg) (d : Reg) (c : Reg) (n : BitVec 2) (h1 : op1 < 256) :
    bitsOf (encRrr op1 op2 a b d c n).toNat 0 8 = op1 := by
  unfold encRrr
  simp only [bitsOf, BitVec.toNat_ofNat, Nat.reducePow] at *
  omega

/-! ## Format RRRR -/

theorem encRrrr_fieldD (op1 : Nat) (op2 : Nat) (a : Reg) (b : Reg) (d : Reg) (c : Reg) (h1 : op1 < 256) (h2 : op2 < 8) :
    fieldD (encRrrr op1 op2 a b d c) = c := by
  apply Fin.ext
  unfold fieldD encRrrr
  simp only [bitsOf, Fin.val_ofNat, BitVec.toNat_ofNat, Nat.reducePow] at *
  omega

theorem encRrrr_fieldS3 (op1 : Nat) (op2 : Nat) (a : Reg) (b : Reg) (d : Reg) (c : Reg) (h1 : op1 < 256) (h2 : op2 < 8) :
    fieldS3 (encRrrr op1 op2 a b d c) = d := by
  apply Fin.ext
  unfold fieldS3 encRrrr
  simp only [bitsOf, Fin.val_ofNat, BitVec.toNat_ofNat, Nat.reducePow] at *
  omega

theorem encRrrr_op2 (op1 : Nat) (op2 : Nat) (a : Reg) (b : Reg) (d : Reg) (c : Reg) (h1 : op1 < 256) (h2 : op2 < 8) :
    bitsOf (encRrrr op1 op2 a b d c).toNat 21 3 = op2 := by
  unfold encRrrr
  simp only [bitsOf, BitVec.toNat_ofNat, Nat.reducePow] at *
  omega

theorem encRrrr_fieldS2 (op1 : Nat) (op2 : Nat) (a : Reg) (b : Reg) (d : Reg) (c : Reg) (h1 : op1 < 256) :
    fieldS2 (encRrrr op1 op2 a b d c) = b := by
  apply Fin.ext
  unfold fieldS2 encRrrr
  simp only [bitsOf, Fin.val_ofNat, BitVec.toNat_ofNat, Nat.reducePow] at *
  omega

theorem encRrrr_fieldS1 (op1 : Nat) (op2 : Nat) (a : Reg) (b : Reg) (d : Reg) (c : Reg) (h1 : op1 < 256) :
    fieldS1 (encRrrr op1 op2 a b d c) = a := by
  apply Fin.ext
  unfold fieldS1 encRrrr
  simp only [bitsOf, Fin.val_ofNat, BitVec.toNat_ofNat, Nat.reducePow] at *
  omega

theorem encRrrr_op1 (op1 : Nat) (op2 : Nat) (a : Reg) (b : Reg) (d : Reg) (c : Reg) (h1 : op1 < 256) :
    bitsOf (encRrrr op1 op2 a b d c).toNat 0 8 = op1 := by
  unfold encRrrr
  simp only [bitsOf, BitVec.toNat_ofNat, Nat.reducePow] at *
  omega

/-! ## Format RRRW -/

theorem encRrrw_fieldD (op1 : Nat) (op2 : Nat) (a : Reg) (b : Reg) (d : Reg) (c : Reg) (w : BitVec 5) (h1 : op1 < 256) (h2 : op2 < 8) :
    fieldD (encRrrw op1 op2 a b d c w) = c := by
  apply Fin.ext
  unfold fieldD encRrrw
  simp only [bitsOf, Fin.val_ofNat, BitVec.toNat_ofNat, Nat.reducePow] at *
  omega

theorem encRrrw_fieldS3 (op1 : Nat) (op2 : Nat) (a : Reg) (b : Reg) (d : Reg) (c : Reg) (w : BitVec 5) (h1 : op1 < 256) (h2 : op2 < 8) :
    fieldS3 (encRrrw op1 op2 a b d c w) = d := by
  apply Fin.ext
  unfold fieldS3 encRrrw
  simp only [bitsOf, Fin.val_ofNat, BitVec.toNat_ofNat, Nat.reducePow] at *
  omega

theorem encRrrw_op2 (op1 : Nat) (op2 : Nat) (a : Reg) (b : Reg) (d : Reg) (c : Reg) (w : BitVec 5) (h1 : op1 < 256) (h2 : op2 < 8) :
    bitsOf (encRrrw op1 op2 a b d c w).toNat 21 3 = op2 := by
  unfold encRrrw
  simp only [bitsOf, BitVec.toNat_ofNat, Nat.reducePow] at *
  omega

theorem encRrrw_fieldWidth (op1 : Nat) (op2 : Nat) (a : Reg) (b : Reg) (d : Reg) (c : Reg) (w : BitVec 5) (h1 : op1 < 256) :
    fieldWidth (encRrrw op1 op2 a b d c w) = w := by
  apply BitVec.eq_of_toNat_eq
  unfold fieldWidth encRrrw
  simp only [bitsOf, BitVec.toNat_ofNat, Nat.reducePow] at *
  omega

theorem encRrrw_fieldS2 (op1 : Nat) (op2 : Nat) (a : Reg) (b : Reg) (d : Reg) (c : Reg) (w : BitVec 5) (h1 : op1 < 256) :
    fieldS2 (encRrrw op1 op2 a b d c w) = b := by
  apply Fin.ext
  unfold fieldS2 encRrrw
  simp only [bitsOf, Fin.val_ofNat, BitVec.toNat_ofNat, Nat.reducePow] at *
  omega

theorem encRrrw_fieldS1 (op1 : Nat) (op2 : Nat) (a : Reg) (b : Reg) (d : Reg) (c : Reg) (w : BitVec 5) (h1 : op1 < 256) :
    fieldS1 (encRrrw op1 op2 a b d c w) = a := by
  apply Fin.ext
  unfold fieldS1 encRrrw
  simp only [bitsOf, Fin.val_ofNat, BitVec.toNat_ofNat, Nat.reducePow] at *
  omega

theorem encRrrw_op1 (op1 : Nat) (op2 : Nat) (a : Reg) (b : Reg) (d : Reg) (c : Reg) (w : BitVec 5) (h1 : op1 < 256) :
    bitsOf (encRrrw op1 op2 a b d c w).toNat 0 8 = op1 := by
  unfold encRrrw
  simp only [bitsOf, BitVec.toNat_ofNat, Nat.reducePow] at *
  omega

/-! ## Format SYS -/

theorem encSys_op2 (op1 : Nat) (op2 : Nat) (h1 : op1 < 256) (h2 : op2 < 64) :
    bitsOf (encSys op1 op2).toNat 22 6 = op2 := by
  unfold encSys
  simp only [bitsOf, BitVec.toNat_ofNat, Nat.reducePow] at *
  omega

theorem encSys_op1 (op1 : Nat) (op2 : Nat) (h1 : op1 < 256) :
    bitsOf (encSys op1 op2).toNat 0 8 = op1 := by
  unfold encSys
  simp only [bitsOf, BitVec.toNat_ofNat, Nat.reducePow] at *
  omega

/-! ## Format SB -/

theorem encSb_fieldDisp8 (op1 : Nat) (disp8 : BitVec 8) (h1 : op1 < 256) :
    fieldDisp8 ((encSb op1 disp8).setWidth 32) = disp8 := by
  apply BitVec.eq_of_toNat_eq
  unfold fieldDisp8 encSb
  simp only [bitsOf, BitVec.toNat_setWidth, BitVec.toNat_ofNat, Nat.reducePow] at *
  omega

theorem encSb_op1 (op1 : Nat) (disp8 : BitVec 8) (h1 : op1 < 256) :
    bitsOf ((encSb op1 disp8).setWidth 32).toNat 0 8 = op1 := by
  unfold encSb
  simp only [bitsOf, BitVec.toNat_setWidth, BitVec.toNat_ofNat, Nat.reducePow] at *
  omega

/-! ## Format SBC -/

theorem encSbc_fieldConst4 (op1 : Nat) (const4 : BitVec 4) (disp4 : BitVec 4) (h1 : op1 < 256) :
    fieldConst4 ((encSbc op1 const4 disp4).setWidth 32) = const4 := by
  apply BitVec.eq_of_toNat_eq
  unfold fieldConst4 encSbc
  simp only [bitsOf, BitVec.toNat_setWidth, BitVec.toNat_ofNat, Nat.reducePow] at *
  omega

theorem encSbc_fieldDisp4 (op1 : Nat) (const4 : BitVec 4) (disp4 : BitVec 4) (h1 : op1 < 256) :
    fieldDisp4 ((encSbc op1 const4 disp4).setWidth 32) = disp4 := by
  apply BitVec.eq_of_toNat_eq
  unfold fieldDisp4 encSbc
  simp only [bitsOf, BitVec.toNat_setWidth, BitVec.toNat_ofNat, Nat.reducePow] at *
  omega

theorem encSbc_op1 (op1 : Nat) (const4 : BitVec 4) (disp4 : BitVec 4) (h1 : op1 < 256) :
    bitsOf ((encSbc op1 const4 disp4).setWidth 32).toNat 0 8 = op1 := by
  unfold encSbc
  simp only [bitsOf, BitVec.toNat_setWidth, BitVec.toNat_ofNat, Nat.reducePow] at *
  omega

/-! ## Format SBR -/

theorem encSbr_fieldS2 (op1 : Nat) (b : Reg) (disp4 : BitVec 4) (h1 : op1 < 256) :
    fieldS2 ((encSbr op1 b disp4).setWidth 32) = b := by
  apply Fin.ext
  unfold fieldS2 encSbr
  simp only [bitsOf, BitVec.toNat_setWidth, Fin.val_ofNat, BitVec.toNat_ofNat, Nat.reducePow] at *
  omega

theorem encSbr_fieldDisp4 (op1 : Nat) (b : Reg) (disp4 : BitVec 4) (h1 : op1 < 256) :
    fieldDisp4 ((encSbr op1 b disp4).setWidth 32) = disp4 := by
  apply BitVec.eq_of_toNat_eq
  unfold fieldDisp4 encSbr
  simp only [bitsOf, BitVec.toNat_setWidth, BitVec.toNat_ofNat, Nat.reducePow] at *
  omega

theorem encSbr_op1 (op1 : Nat) (b : Reg) (disp4 : BitVec 4) (h1 : op1 < 256) :
    bitsOf ((encSbr op1 b disp4).setWidth 32).toNat 0 8 = op1 := by
  unfold encSbr
  simp only [bitsOf, BitVec.toNat_setWidth, BitVec.toNat_ofNat, Nat.reducePow] at *
  omega

/-! ## Format SBRN -/

theorem encSbrn_n5_0 (op1 : Nat) (n : BitVec 5) (disp4 : BitVec 4) (h1 : op1 < 128) :
    bitsOf ((encSbrn op1 n disp4).setWidth 32).toNat 12 4 = bitsOf n.toNat 0 4 := by
  unfold encSbrn
  have g0 := bitsOf_lt n.toNat 0 4
  generalize bitsOf n.toNat 0 4 = x0 at *
  have g4 := bitsOf_lt n.toNat 4 1
  generalize bitsOf n.toNat 4 1 = x4 at *
  simp only [bitsOf, BitVec.toNat_setWidth, BitVec.toNat_ofNat, Nat.reducePow] at *
  omega

theorem encSbrn_n5_4 (op1 : Nat) (n : BitVec 5) (disp4 : BitVec 4) (h1 : op1 < 128) :
    bitsOf ((encSbrn op1 n disp4).setWidth 32).toNat 7 1 = bitsOf n.toNat 4 1 := by
  unfold encSbrn
  have g0 := bitsOf_lt n.toNat 0 4
  generalize bitsOf n.toNat 0 4 = x0 at *
  have g4 := bitsOf_lt n.toNat 4 1
  generalize bitsOf n.toNat 4 1 = x4 at *
  simp only [bitsOf, BitVec.toNat_setWidth, BitVec.toNat_ofNat, Nat.reducePow] at *
  omega

theorem encSbrn_fieldBitNumber (op1 : Nat) (n : BitVec 5) (disp4 : BitVec 4) (h1 : op1 < 128) :
    fieldBitNumber ((encSbrn op1 n disp4).setWidth 32) = n := by
  apply BitVec.eq_of_toNat_eq
  unfold fieldBitNumber
  rw [encSbrn_n5_0 op1 n disp4 h1, encSbrn_n5_4 op1 n disp4 h1]
  have := n.isLt
  simp only [bitsOf, BitVec.toNat_ofNat, Nat.reducePow] at *
  omega

theorem encSbrn_fieldDisp4 (op1 : Nat) (n : BitVec 5) (disp4 : BitVec 4) (h1 : op1 < 128) :
    fieldDisp4 ((encSbrn op1 n disp4).setWidth 32) = disp4 := by
  apply BitVec.eq_of_toNat_eq
  unfold fieldDisp4 encSbrn
  have g0 := bitsOf_lt n.toNat 0 4
  generalize bitsOf n.toNat 0 4 = x0 at *
  have g4 := bitsOf_lt n.toNat 4 1
  generalize bitsOf n.toNat 4 1 = x4 at *
  simp only [bitsOf, BitVec.toNat_setWidth, BitVec.toNat_ofNat, Nat.reducePow] at *
  omega

theorem encSbrn_op1 (op1 : Nat) (n : BitVec 5) (disp4 : BitVec 4) (h1 : op1 < 128) :
    bitsOf ((encSbrn op1 n disp4).setWidth 32).toNat 0 7 = op1 := by
  unfold encSbrn
  have g0 := bitsOf_lt n.toNat 0 4
  generalize bitsOf n.toNat 0 4 = x0 at *
  have g4 := bitsOf_lt n.toNat 4 1
  generalize bitsOf n.toNat 4 1 = x4 at *
  simp only [bitsOf, BitVec.toNat_setWidth, BitVec.toNat_ofNat, Nat.reducePow] at *
  omega

/-- The first byte of SBRN holds part of the operand above op1 (30 R210). -/
theorem encSbrn_firstByte (op1 : Nat) (n : BitVec 5) (disp4 : BitVec 4) (h1 : op1 < 128) :
    bitsOf ((encSbrn op1 n disp4).setWidth 32).toNat 0 8 = op1 + bitsOf n.toNat 4 1 * 128 := by
  unfold encSbrn
  have g0 := bitsOf_lt n.toNat 0 4
  generalize bitsOf n.toNat 0 4 = x0 at *
  have g4 := bitsOf_lt n.toNat 4 1
  generalize bitsOf n.toNat 4 1 = x4 at *
  simp only [bitsOf, BitVec.toNat_setWidth, BitVec.toNat_ofNat, Nat.reducePow] at *
  omega

/-! ## Format SC -/

theorem encSc_fieldConst8 (op1 : Nat) (const8 : BitVec 8) (h1 : op1 < 256) :
    fieldConst8 ((encSc op1 const8).setWidth 32) = const8 := by
  apply BitVec.eq_of_toNat_eq
  unfold fieldConst8 encSc
  simp only [bitsOf, BitVec.toNat_setWidth, BitVec.toNat_ofNat, Nat.reducePow] at *
  omega

theorem encSc_op1 (op1 : Nat) (const8 : BitVec 8) (h1 : op1 < 256) :
    bitsOf ((encSc op1 const8).setWidth 32).toNat 0 8 = op1 := by
  unfold encSc
  simp only [bitsOf, BitVec.toNat_setWidth, BitVec.toNat_ofNat, Nat.reducePow] at *
  omega

/-! ## Format SLR -/

theorem encSlr_fieldS2 (op1 : Nat) (a : Reg) (b : Reg) (h1 : op1 < 256) :
    fieldS2 ((encSlr op1 a b).setWidth 32) = b := by
  apply Fin.ext
  unfold fieldS2 encSlr
  simp only [bitsOf, BitVec.toNat_setWidth, Fin.val_ofNat, BitVec.toNat_ofNat, Nat.reducePow] at *
  omega

theorem encSlr_fieldS1 (op1 : Nat) (a : Reg) (b : Reg) (h1 : op1 < 256) :
    fieldS1 ((encSlr op1 a b).setWidth 32) = a := by
  apply Fin.ext
  unfold fieldS1 encSlr
  simp only [bitsOf, BitVec.toNat_setWidth, Fin.val_ofNat, BitVec.toNat_ofNat, Nat.reducePow] at *
  omega

theorem encSlr_op1 (op1 : Nat) (a : Reg) (b : Reg) (h1 : op1 < 256) :
    bitsOf ((encSlr op1 a b).setWidth 32).toNat 0 8 = op1 := by
  unfold encSlr
  simp only [bitsOf, BitVec.toNat_setWidth, BitVec.toNat_ofNat, Nat.reducePow] at *
  omega

/-! ## Format SLRO -/

theorem encSlro_fieldOff4 (op1 : Nat) (a : Reg) (off4 : BitVec 4) (h1 : op1 < 256) :
    fieldOff4 ((encSlro op1 a off4).setWidth 32) = off4 := by
  apply BitVec.eq_of_toNat_eq
  unfold fieldOff4 encSlro
  simp only [bitsOf, BitVec.toNat_setWidth, BitVec.toNat_ofNat, Nat.reducePow] at *
  omega

theorem encSlro_fieldS1 (op1 : Nat) (a : Reg) (off4 : BitVec 4) (h1 : op1 < 256) :
    fieldS1 ((encSlro op1 a off4).setWidth 32) = a := by
  apply Fin.ext
  unfold fieldS1 encSlro
  simp only [bitsOf, BitVec.toNat_setWidth, Fin.val_ofNat, BitVec.toNat_ofNat, Nat.reducePow] at *
  omega

theorem encSlro_op1 (op1 : Nat) (a : Reg) (off4 : BitVec 4) (h1 : op1 < 256) :
    bitsOf ((encSlro op1 a off4).setWidth 32).toNat 0 8 = op1 := by
  unfold encSlro
  simp only [bitsOf, BitVec.toNat_setWidth, BitVec.toNat_ofNat, Nat.reducePow] at *
  omega

/-! ## Format SR -/

theorem encSr_op2 (op1 : Nat) (op2 : Nat) (a : Reg) (h1 : op1 < 256) (h2 : op2 < 16) :
    bitsOf ((encSr op1 op2 a).setWidth 32).toNat 12 4 = op2 := by
  unfold encSr
  simp only [bitsOf, BitVec.toNat_setWidth, BitVec.toNat_ofNat, Nat.reducePow] at *
  omega

theorem encSr_fieldS1 (op1 : Nat) (op2 : Nat) (a : Reg) (h1 : op1 < 256) :
    fieldS1 ((encSr op1 op2 a).setWidth 32) = a := by
  apply Fin.ext
  unfold fieldS1 encSr
  simp only [bitsOf, BitVec.toNat_setWidth, Fin.val_ofNat, BitVec.toNat_ofNat, Nat.reducePow] at *
  omega

theorem encSr_op1 (op1 : Nat) (op2 : Nat) (a : Reg) (h1 : op1 < 256) :
    bitsOf ((encSr op1 op2 a).setWidth 32).toNat 0 8 = op1 := by
  unfold encSr
  simp only [bitsOf, BitVec.toNat_setWidth, BitVec.toNat_ofNat, Nat.reducePow] at *
  omega

/-! ## Format SRC -/

theorem encSrc_fieldConst4 (op1 : Nat) (a : Reg) (const4 : BitVec 4) (h1 : op1 < 256) :
    fieldConst4 ((encSrc op1 a const4).setWidth 32) = const4 := by
  apply BitVec.eq_of_toNat_eq
  unfold fieldConst4 encSrc
  simp only [bitsOf, BitVec.toNat_setWidth, BitVec.toNat_ofNat, Nat.reducePow] at *
  omega

theorem encSrc_fieldS1 (op1 : Nat) (a : Reg) (const4 : BitVec 4) (h1 : op1 < 256) :
    fieldS1 ((encSrc op1 a const4).setWidth 32) = a := by
  apply Fin.ext
  unfold fieldS1 encSrc
  simp only [bitsOf, BitVec.toNat_setWidth, Fin.val_ofNat, BitVec.toNat_ofNat, Nat.reducePow] at *
  omega

theorem encSrc_op1 (op1 : Nat) (a : Reg) (const4 : BitVec 4) (h1 : op1 < 256) :
    bitsOf ((encSrc op1 a const4).setWidth 32).toNat 0 8 = op1 := by
  unfold encSrc
  simp only [bitsOf, BitVec.toNat_setWidth, BitVec.toNat_ofNat, Nat.reducePow] at *
  omega

/-! ## Format SRO -/

theorem encSro_fieldS2 (op1 : Nat) (b : Reg) (off4 : BitVec 4) (h1 : op1 < 256) :
    fieldS2 ((encSro op1 b off4).setWidth 32) = b := by
  apply Fin.ext
  unfold fieldS2 encSro
  simp only [bitsOf, BitVec.toNat_setWidth, Fin.val_ofNat, BitVec.toNat_ofNat, Nat.reducePow] at *
  omega

theorem encSro_fieldOff4Sro (op1 : Nat) (b : Reg) (off4 : BitVec 4) (h1 : op1 < 256) :
    fieldOff4Sro ((encSro op1 b off4).setWidth 32) = off4 := by
  apply BitVec.eq_of_toNat_eq
  unfold fieldOff4Sro encSro
  simp only [bitsOf, BitVec.toNat_setWidth, BitVec.toNat_ofNat, Nat.reducePow] at *
  omega

theorem encSro_op1 (op1 : Nat) (b : Reg) (off4 : BitVec 4) (h1 : op1 < 256) :
    bitsOf ((encSro op1 b off4).setWidth 32).toNat 0 8 = op1 := by
  unfold encSro
  simp only [bitsOf, BitVec.toNat_setWidth, BitVec.toNat_ofNat, Nat.reducePow] at *
  omega

/-! ## Format SRR -/

theorem encSrr_fieldS2 (op1 : Nat) (a : Reg) (b : Reg) (h1 : op1 < 256) :
    fieldS2 ((encSrr op1 a b).setWidth 32) = b := by
  apply Fin.ext
  unfold fieldS2 encSrr
  simp only [bitsOf, BitVec.toNat_setWidth, Fin.val_ofNat, BitVec.toNat_ofNat, Nat.reducePow] at *
  omega

theorem encSrr_fieldS1 (op1 : Nat) (a : Reg) (b : Reg) (h1 : op1 < 256) :
    fieldS1 ((encSrr op1 a b).setWidth 32) = a := by
  apply Fin.ext
  unfold fieldS1 encSrr
  simp only [bitsOf, BitVec.toNat_setWidth, Fin.val_ofNat, BitVec.toNat_ofNat, Nat.reducePow] at *
  omega

theorem encSrr_op1 (op1 : Nat) (a : Reg) (b : Reg) (h1 : op1 < 256) :
    bitsOf ((encSrr op1 a b).setWidth 32).toNat 0 8 = op1 := by
  unfold encSrr
  simp only [bitsOf, BitVec.toNat_setWidth, BitVec.toNat_ofNat, Nat.reducePow] at *
  omega

/-! ## Format SRRS -/

theorem encSrrs_fieldS2 (op1 : Nat) (a : Reg) (b : Reg) (n : BitVec 2) (h1 : op1 < 64) :
    fieldS2 ((encSrrs op1 a b n).setWidth 32) = b := by
  apply Fin.ext
  unfold fieldS2 encSrrs
  simp only [bitsOf, BitVec.toNat_setWidth, Fin.val_ofNat, BitVec.toNat_ofNat, Nat.reducePow] at *
  omega

theorem encSrrs_fieldS1 (op1 : Nat) (a : Reg) (b : Reg) (n : BitVec 2) (h1 : op1 < 64) :
    fieldS1 ((encSrrs op1 a b n).setWidth 32) = a := by
  apply Fin.ext
  unfold fieldS1 encSrrs
  simp only [bitsOf, BitVec.toNat_setWidth, Fin.val_ofNat, BitVec.toNat_ofNat, Nat.reducePow] at *
  omega

theorem encSrrs_fieldNSrrs (op1 : Nat) (a : Reg) (b : Reg) (n : BitVec 2) (h1 : op1 < 64) :
    fieldNSrrs ((encSrrs op1 a b n).setWidth 32) = n := by
  apply BitVec.eq_of_toNat_eq
  unfold fieldNSrrs encSrrs
  simp only [bitsOf, BitVec.toNat_setWidth, BitVec.toNat_ofNat, Nat.reducePow] at *
  omega

theorem encSrrs_op1 (op1 : Nat) (a : Reg) (b : Reg) (n : BitVec 2) (h1 : op1 < 64) :
    bitsOf ((encSrrs op1 a b n).setWidth 32).toNat 0 6 = op1 := by
  unfold encSrrs
  simp only [bitsOf, BitVec.toNat_setWidth, BitVec.toNat_ofNat, Nat.reducePow] at *
  omega

/-- The first byte of SRRS holds part of the operand above op1 (30 R210). -/
theorem encSrrs_firstByte (op1 : Nat) (a : Reg) (b : Reg) (n : BitVec 2) (h1 : op1 < 64) :
    bitsOf ((encSrrs op1 a b n).setWidth 32).toNat 0 8 = op1 + n.toNat * 64 := by
  unfold encSrrs
  simp only [bitsOf, BitVec.toNat_setWidth, BitVec.toNat_ofNat, Nat.reducePow] at *
  omega

/-! ## Format SSR -/

theorem encSsr_fieldS2 (op1 : Nat) (a : Reg) (b : Reg) (h1 : op1 < 256) :
    fieldS2 ((encSsr op1 a b).setWidth 32) = b := by
  apply Fin.ext
  unfold fieldS2 encSsr
  simp only [bitsOf, BitVec.toNat_setWidth, Fin.val_ofNat, BitVec.toNat_ofNat, Nat.reducePow] at *
  omega

theorem encSsr_fieldS1 (op1 : Nat) (a : Reg) (b : Reg) (h1 : op1 < 256) :
    fieldS1 ((encSsr op1 a b).setWidth 32) = a := by
  apply Fin.ext
  unfold fieldS1 encSsr
  simp only [bitsOf, BitVec.toNat_setWidth, Fin.val_ofNat, BitVec.toNat_ofNat, Nat.reducePow] at *
  omega

theorem encSsr_op1 (op1 : Nat) (a : Reg) (b : Reg) (h1 : op1 < 256) :
    bitsOf ((encSsr op1 a b).setWidth 32).toNat 0 8 = op1 := by
  unfold encSsr
  simp only [bitsOf, BitVec.toNat_setWidth, BitVec.toNat_ofNat, Nat.reducePow] at *
  omega

/-! ## Format SSRO -/

theorem encSsro_fieldOff4 (op1 : Nat) (a : Reg) (off4 : BitVec 4) (h1 : op1 < 256) :
    fieldOff4 ((encSsro op1 a off4).setWidth 32) = off4 := by
  apply BitVec.eq_of_toNat_eq
  unfold fieldOff4 encSsro
  simp only [bitsOf, BitVec.toNat_setWidth, BitVec.toNat_ofNat, Nat.reducePow] at *
  omega

theorem encSsro_fieldS1 (op1 : Nat) (a : Reg) (off4 : BitVec 4) (h1 : op1 < 256) :
    fieldS1 ((encSsro op1 a off4).setWidth 32) = a := by
  apply Fin.ext
  unfold fieldS1 encSsro
  simp only [bitsOf, BitVec.toNat_setWidth, Fin.val_ofNat, BitVec.toNat_ofNat, Nat.reducePow] at *
  omega

theorem encSsro_op1 (op1 : Nat) (a : Reg) (off4 : BitVec 4) (h1 : op1 < 256) :
    bitsOf ((encSsro op1 a off4).setWidth 32).toNat 0 8 = op1 := by
  unfold encSsro
  simp only [bitsOf, BitVec.toNat_setWidth, BitVec.toNat_ofNat, Nat.reducePow] at *
  omega

/-! ## The decoding tables at an opcode -/

theorem decodeForm_01 {w : Word} (h : bitsOf w.toNat 0 8 = 0x01) :
    decodeForm w = decodeBrn01 w := by
  have h1 : bitsOf w.toNat 4 4 = 0x0 := by simp only [bitsOf] at *; omega
  have h0 : bitsOf w.toNat 0 4 = 0x1 := by simp only [bitsOf] at *; omega
  simp only [decodeForm, h1, decodeRow0, h0]

theorem decodeForm_81 {w : Word} (h : bitsOf w.toNat 0 8 = 0x81) :
    decodeForm w = decodeBrn01 w := by
  have h1 : bitsOf w.toNat 4 4 = 0x8 := by simp only [bitsOf] at *; omega
  have h0 : bitsOf w.toNat 0 4 = 0x1 := by simp only [bitsOf] at *; omega
  simp only [decodeForm, h1, decodeRow8, h0]

theorem decodeForm_03 {w : Word} (h : bitsOf w.toNat 0 8 = 0x03) :
    decodeForm w = decodeAbs03 w := by
  have h1 : bitsOf w.toNat 4 4 = 0x0 := by simp only [bitsOf] at *; omega
  have h0 : bitsOf w.toNat 0 4 = 0x3 := by simp only [bitsOf] at *; omega
  simp only [decodeForm, h1, decodeRow0, h0]

theorem decodeForm_05 {w : Word} (h : bitsOf w.toNat 0 8 = 0x05) :
    decodeForm w = decodeAbs05 w := by
  have h1 : bitsOf w.toNat 4 4 = 0x0 := by simp only [bitsOf] at *; omega
  have h0 : bitsOf w.toNat 0 4 = 0x5 := by simp only [bitsOf] at *; omega
  simp only [decodeForm, h1, decodeRow0, h0]

theorem decodeForm_07 {w : Word} (h : bitsOf w.toNat 0 8 = 0x07) :
    decodeForm w = decodeAbs07 w := by
  have h1 : bitsOf w.toNat 4 4 = 0x0 := by simp only [bitsOf] at *; omega
  have h0 : bitsOf w.toNat 0 4 = 0x7 := by simp only [bitsOf] at *; omega
  simp only [decodeForm, h1, decodeRow0, h0]

theorem decodeForm_09 {w : Word} (h : bitsOf w.toNat 0 8 = 0x09) :
    decodeForm w = decodeAbs09 w := by
  have h1 : bitsOf w.toNat 4 4 = 0x0 := by simp only [bitsOf] at *; omega
  have h0 : bitsOf w.toNat 0 4 = 0x9 := by simp only [bitsOf] at *; omega
  simp only [decodeForm, h1, decodeRow0, h0]

theorem decodeForm_0B {w : Word} (h : bitsOf w.toNat 0 8 = 0x0B) :
    decodeForm w = decodeAbs0B w := by
  have h1 : bitsOf w.toNat 4 4 = 0x0 := by simp only [bitsOf] at *; omega
  have h0 : bitsOf w.toNat 0 4 = 0xB := by simp only [bitsOf] at *; omega
  simp only [decodeForm, h1, decodeRow0, h0]

theorem decodeForm_0D {w : Word} (h : bitsOf w.toNat 0 8 = 0x0D) :
    decodeForm w = decodeAbs0D w := by
  have h1 : bitsOf w.toNat 4 4 = 0x0 := by simp only [bitsOf] at *; omega
  have h0 : bitsOf w.toNat 0 4 = 0xD := by simp only [bitsOf] at *; omega
  simp only [decodeForm, h1, decodeRow0, h0]

theorem decodeForm_0F {w : Word} (h : bitsOf w.toNat 0 8 = 0x0F) :
    decodeForm w = decodeAbsb0F w := by
  have h1 : bitsOf w.toNat 4 4 = 0x0 := by simp only [bitsOf] at *; omega
  have h0 : bitsOf w.toNat 0 4 = 0xF := by simp only [bitsOf] at *; omega
  simp only [decodeForm, h1, decodeRow0, h0]

theorem decodeForm_11 {w : Word} (h : bitsOf w.toNat 0 8 = 0x11) :
    decodeForm w = some (.callaB (fieldDisp24 w)) := by
  have h1 : bitsOf w.toNat 4 4 = 0x1 := by simp only [bitsOf] at *; omega
  have h0 : bitsOf w.toNat 0 4 = 0x1 := by simp only [bitsOf] at *; omega
  simp only [decodeForm, h1, decodeRow1, h0]

theorem decodeForm_13 {w : Word} (h : bitsOf w.toNat 0 8 = 0x13) :
    decodeForm w = some (.callB (fieldDisp24 w)) := by
  have h1 : bitsOf w.toNat 4 4 = 0x1 := by simp only [bitsOf] at *; omega
  have h0 : bitsOf w.toNat 0 4 = 0x3 := by simp only [bitsOf] at *; omega
  simp only [decodeForm, h1, decodeRow1, h0]

theorem decodeForm_15 {w : Word} (h : bitsOf w.toNat 0 8 = 0x15) :
    decodeForm w = some (.jaB (fieldDisp24 w)) := by
  have h1 : bitsOf w.toNat 4 4 = 0x1 := by simp only [bitsOf] at *; omega
  have h0 : bitsOf w.toNat 0 4 = 0x5 := by simp only [bitsOf] at *; omega
  simp only [decodeForm, h1, decodeRow1, h0]

theorem decodeForm_17 {w : Word} (h : bitsOf w.toNat 0 8 = 0x17) :
    decodeForm w = some (.jlaB (fieldDisp24 w)) := by
  have h1 : bitsOf w.toNat 4 4 = 0x1 := by simp only [bitsOf] at *; omega
  have h0 : bitsOf w.toNat 0 4 = 0x7 := by simp only [bitsOf] at *; omega
  simp only [decodeForm, h1, decodeRow1, h0]

theorem decodeForm_19 {w : Word} (h : bitsOf w.toNat 0 8 = 0x19) :
    decodeForm w = some (.jlB (fieldDisp24 w)) := by
  have h1 : bitsOf w.toNat 4 4 = 0x1 := by simp only [bitsOf] at *; omega
  have h0 : bitsOf w.toNat 0 4 = 0x9 := by simp only [bitsOf] at *; omega
  simp only [decodeForm, h1, decodeRow1, h0]

theorem decodeForm_1B {w : Word} (h : bitsOf w.toNat 0 8 = 0x1B) :
    decodeForm w = some (.jB (fieldDisp24 w)) := by
  have h1 : bitsOf w.toNat 4 4 = 0x1 := by simp only [bitsOf] at *; omega
  have h0 : bitsOf w.toNat 0 4 = 0xB := by simp only [bitsOf] at *; omega
  simp only [decodeForm, h1, decodeRow1, h0]

theorem decodeForm_1D {w : Word} (h : bitsOf w.toNat 0 8 = 0x1D) :
    decodeForm w = decodeBit1D w := by
  have h1 : bitsOf w.toNat 4 4 = 0x1 := by simp only [bitsOf] at *; omega
  have h0 : bitsOf w.toNat 0 4 = 0xD := by simp only [bitsOf] at *; omega
  simp only [decodeForm, h1, decodeRow1, h0]

theorem decodeForm_1F {w : Word} (h : bitsOf w.toNat 0 8 = 0x1F) :
    decodeForm w = decodeBit1F w := by
  have h1 : bitsOf w.toNat 4 4 = 0x1 := by simp only [bitsOf] at *; omega
  have h0 : bitsOf w.toNat 0 4 = 0xF := by simp only [bitsOf] at *; omega
  simp only [decodeForm, h1, decodeRow1, h0]

theorem decodeForm_21 {w : Word} (h : bitsOf w.toNat 0 8 = 0x21) :
    decodeForm w = decodeBit21 w := by
  have h1 : bitsOf w.toNat 4 4 = 0x2 := by simp only [bitsOf] at *; omega
  have h0 : bitsOf w.toNat 0 4 = 0x1 := by simp only [bitsOf] at *; omega
  simp only [decodeForm, h1, decodeRow2, h0]

theorem decodeForm_23 {w : Word} (h : bitsOf w.toNat 0 8 = 0x23) :
    decodeForm w = decodeBit23 w := by
  have h1 : bitsOf w.toNat 4 4 = 0x2 := by simp only [bitsOf] at *; omega
  have h0 : bitsOf w.toNat 0 4 = 0x3 := by simp only [bitsOf] at *; omega
  simp only [decodeForm, h1, decodeRow2, h0]

theorem decodeForm_25 {w : Word} (h : bitsOf w.toNat 0 8 = 0x25) :
    decodeForm w = decodeBit25 w := by
  have h1 : bitsOf w.toNat 4 4 = 0x2 := by simp only [bitsOf] at *; omega
  have h0 : bitsOf w.toNat 0 4 = 0x5 := by simp only [bitsOf] at *; omega
  simp only [decodeForm, h1, decodeRow2, h0]

theorem decodeForm_27 {w : Word} (h : bitsOf w.toNat 0 8 = 0x27) :
    decodeForm w = decodeBit27 w := by
  have h1 : bitsOf w.toNat 4 4 = 0x2 := by simp only [bitsOf] at *; omega
  have h0 : bitsOf w.toNat 0 4 = 0x7 := by simp only [bitsOf] at *; omega
  simp only [decodeForm, h1, decodeRow2, h0]

theorem decodeForm_29 {w : Word} (h : bitsOf w.toNat 0 8 = 0x29) :
    decodeForm w = decodeBit29 w := by
  have h1 : bitsOf w.toNat 4 4 = 0x2 := by simp only [bitsOf] at *; omega
  have h0 : bitsOf w.toNat 0 4 = 0x9 := by simp only [bitsOf] at *; omega
  simp only [decodeForm, h1, decodeRow2, h0]

theorem decodeForm_2B {w : Word} (h : bitsOf w.toNat 0 8 = 0x2B) :
    decodeForm w = decodeBo2B w := by
  have h1 : bitsOf w.toNat 4 4 = 0x2 := by simp only [bitsOf] at *; omega
  have h0 : bitsOf w.toNat 0 4 = 0xB := by simp only [bitsOf] at *; omega
  simp only [decodeForm, h1, decodeRow2, h0]

theorem decodeForm_2D {w : Word} (h : bitsOf w.toNat 0 8 = 0x2D) :
    decodeForm w = decodeBo2D w := by
  have h1 : bitsOf w.toNat 4 4 = 0x2 := by simp only [bitsOf] at *; omega
  have h0 : bitsOf w.toNat 0 4 = 0xD := by simp only [bitsOf] at *; omega
  simp only [decodeForm, h1, decodeRow2, h0]

theorem decodeForm_2F {w : Word} (h : bitsOf w.toNat 0 8 = 0x2F) :
    decodeForm w = decodeBo2F w := by
  have h1 : bitsOf w.toNat 4 4 = 0x2 := by simp only [bitsOf] at *; omega
  have h0 : bitsOf w.toNat 0 4 = 0xF := by simp only [bitsOf] at *; omega
  simp only [decodeForm, h1, decodeRow2, h0]

theorem decodeForm_31 {w : Word} (h : bitsOf w.toNat 0 8 = 0x31) :
    decodeForm w = some (.ldABol (fieldS1 w) (fieldS2 w) (fieldOff16 w)) := by
  have h1 : bitsOf w.toNat 4 4 = 0x3 := by simp only [bitsOf] at *; omega
  have h0 : bitsOf w.toNat 0 4 = 0x1 := by simp only [bitsOf] at *; omega
  simp only [decodeForm, h1, decodeRow3, h0]

theorem decodeForm_33 {w : Word} (h : bitsOf w.toNat 0 8 = 0x33) :
    decodeForm w = some (.ldWBol (fieldS1 w) (fieldS2 w) (fieldOff16 w)) := by
  have h1 : bitsOf w.toNat 4 4 = 0x3 := by simp only [bitsOf] at *; omega
  have h0 : bitsOf w.toNat 0 4 = 0x3 := by simp only [bitsOf] at *; omega
  simp only [decodeForm, h1, decodeRow3, h0]

theorem decodeForm_35 {w : Word} (h : bitsOf w.toNat 0 8 = 0x35) :
    decodeForm w = some (.leaBol (fieldS1 w) (fieldS2 w) (fieldOff16 w)) := by
  have h1 : bitsOf w.toNat 4 4 = 0x3 := by simp only [bitsOf] at *; omega
  have h0 : bitsOf w.toNat 0 4 = 0x5 := by simp only [bitsOf] at *; omega
  simp only [decodeForm, h1, decodeRow3, h0]

theorem decodeForm_37 {w : Word} (h : bitsOf w.toNat 0 8 = 0x37) :
    decodeForm w = some (.stWBol (fieldS1 w) (fieldS2 w) (fieldOff16 w)) := by
  have h1 : bitsOf w.toNat 4 4 = 0x3 := by simp only [bitsOf] at *; omega
  have h0 : bitsOf w.toNat 0 4 = 0x7 := by simp only [bitsOf] at *; omega
  simp only [decodeForm, h1, decodeRow3, h0]

theorem decodeForm_39 {w : Word} (h : bitsOf w.toNat 0 8 = 0x39) :
    decodeForm w = decodeBrc39 w := by
  have h1 : bitsOf w.toNat 4 4 = 0x3 := by simp only [bitsOf] at *; omega
  have h0 : bitsOf w.toNat 0 4 = 0x9 := by simp only [bitsOf] at *; omega
  simp only [decodeForm, h1, decodeRow3, h0]

theorem decodeForm_3B {w : Word} (h : bitsOf w.toNat 0 8 = 0x3B) :
    decodeForm w = decodeBrc3B w := by
  have h1 : bitsOf w.toNat 4 4 = 0x3 := by simp only [bitsOf] at *; omega
  have h0 : bitsOf w.toNat 0 4 = 0xB := by simp only [bitsOf] at *; omega
  simp only [decodeForm, h1, decodeRow3, h0]

theorem decodeForm_3D {w : Word} (h : bitsOf w.toNat 0 8 = 0x3D) :
    decodeForm w = decodeBrc3D w := by
  have h1 : bitsOf w.toNat 4 4 = 0x3 := by simp only [bitsOf] at *; omega
  have h0 : bitsOf w.toNat 0 4 = 0xD := by simp only [bitsOf] at *; omega
  simp only [decodeForm, h1, decodeRow3, h0]

theorem decodeForm_3F {w : Word} (h : bitsOf w.toNat 0 8 = 0x3F) :
    decodeForm w = decodeBrc3F w := by
  have h1 : bitsOf w.toNat 4 4 = 0x3 := by simp only [bitsOf] at *; omega
  have h0 : bitsOf w.toNat 0 4 = 0xF := by simp only [bitsOf] at *; omega
  simp only [decodeForm, h1, decodeRow3, h0]

theorem decodeForm_41 {w : Word} (h : bitsOf w.toNat 0 8 = 0x41) :
    decodeForm w = decodeBrr41 w := by
  have h1 : bitsOf w.toNat 4 4 = 0x4 := by simp only [bitsOf] at *; omega
  have h0 : bitsOf w.toNat 0 4 = 0x1 := by simp only [bitsOf] at *; omega
  simp only [decodeForm, h1, decodeRow4, h0]

theorem decodeForm_43 {w : Word} (h : bitsOf w.toNat 0 8 = 0x43) :
    decodeForm w = decodeBrr43 w := by
  have h1 : bitsOf w.toNat 4 4 = 0x4 := by simp only [bitsOf] at *; omega
  have h0 : bitsOf w.toNat 0 4 = 0x3 := by simp only [bitsOf] at *; omega
  simp only [decodeForm, h1, decodeRow4, h0]

theorem decodeForm_45 {w : Word} (h : bitsOf w.toNat 0 8 = 0x45) :
    decodeForm w = decodeBrr45 w := by
  have h1 : bitsOf w.toNat 4 4 = 0x4 := by simp only [bitsOf] at *; omega
  have h0 : bitsOf w.toNat 0 4 = 0x5 := by simp only [bitsOf] at *; omega
  simp only [decodeForm, h1, decodeRow4, h0]

theorem decodeForm_47 {w : Word} (h : bitsOf w.toNat 0 8 = 0x47) :
    decodeForm w = decodeBrr47 w := by
  have h1 : bitsOf w.toNat 4 4 = 0x4 := by simp only [bitsOf] at *; omega
  have h0 : bitsOf w.toNat 0 4 = 0x7 := by simp only [bitsOf] at *; omega
  simp only [decodeForm, h1, decodeRow4, h0]

theorem decodeForm_49 {w : Word} (h : bitsOf w.toNat 0 8 = 0x49) :
    decodeForm w = decodeBrr49 w := by
  have h1 : bitsOf w.toNat 4 4 = 0x4 := by simp only [bitsOf] at *; omega
  have h0 : bitsOf w.toNat 0 4 = 0x9 := by simp only [bitsOf] at *; omega
  simp only [decodeForm, h1, decodeRow4, h0]

theorem decodeForm_4B {w : Word} (h : bitsOf w.toNat 0 8 = 0x4B) :
    decodeForm w = decodeBrr4B w := by
  have h1 : bitsOf w.toNat 4 4 = 0x4 := by simp only [bitsOf] at *; omega
  have h0 : bitsOf w.toNat 0 4 = 0xB := by simp only [bitsOf] at *; omega
  simp only [decodeForm, h1, decodeRow4, h0]

theorem decodeForm_4D {w : Word} (h : bitsOf w.toNat 0 8 = 0x4D) :
    decodeForm w = decodeBrr4D w := by
  have h1 : bitsOf w.toNat 4 4 = 0x4 := by simp only [bitsOf] at *; omega
  have h0 : bitsOf w.toNat 0 4 = 0xD := by simp only [bitsOf] at *; omega
  simp only [decodeForm, h1, decodeRow4, h0]

theorem decodeForm_4F {w : Word} (h : bitsOf w.toNat 0 8 = 0x4F) :
    decodeForm w = decodeRc4F w := by
  have h1 : bitsOf w.toNat 4 4 = 0x4 := by simp only [bitsOf] at *; omega
  have h0 : bitsOf w.toNat 0 4 = 0xF := by simp only [bitsOf] at *; omega
  simp only [decodeForm, h1, decodeRow4, h0]

theorem decodeForm_51 {w : Word} (h : bitsOf w.toNat 0 8 = 0x51) :
    decodeForm w = decodeRcpw51 w := by
  have h1 : bitsOf w.toNat 4 4 = 0x5 := by simp only [bitsOf] at *; omega
  have h0 : bitsOf w.toNat 0 4 = 0x1 := by simp only [bitsOf] at *; omega
  simp only [decodeForm, h1, decodeRow5, h0]

theorem decodeForm_53 {w : Word} (h : bitsOf w.toNat 0 8 = 0x53) :
    decodeForm w = decodeRcr53 w := by
  have h1 : bitsOf w.toNat 4 4 = 0x5 := by simp only [bitsOf] at *; omega
  have h0 : bitsOf w.toNat 0 4 = 0x3 := by simp only [bitsOf] at *; omega
  simp only [decodeForm, h1, decodeRow5, h0]

theorem decodeForm_55 {w : Word} (h : bitsOf w.toNat 0 8 = 0x55) :
    decodeForm w = decodeRcr55 w := by
  have h1 : bitsOf w.toNat 4 4 = 0x5 := by simp only [bitsOf] at *; omega
  have h0 : bitsOf w.toNat 0 4 = 0x5 := by simp only [bitsOf] at *; omega
  simp only [decodeForm, h1, decodeRow5, h0]

theorem decodeForm_57 {w : Word} (h : bitsOf w.toNat 0 8 = 0x57) :
    decodeForm w = decodeRcr57 w := by
  have h1 : bitsOf w.toNat 4 4 = 0x5 := by simp only [bitsOf] at *; omega
  have h0 : bitsOf w.toNat 0 4 = 0x7 := by simp only [bitsOf] at *; omega
  simp only [decodeForm, h1, decodeRow5, h0]

theorem decodeForm_59 {w : Word} (h : bitsOf w.toNat 0 8 = 0x59) :
    decodeForm w = decodeRcrr59 w := by
  have h1 : bitsOf w.toNat 4 4 = 0x5 := by simp only [bitsOf] at *; omega
  have h0 : bitsOf w.toNat 0 4 = 0x9 := by simp only [bitsOf] at *; omega
  simp only [decodeForm, h1, decodeRow5, h0]

theorem decodeForm_5B {w : Word} (h : bitsOf w.toNat 0 8 = 0x5B) :
    decodeForm w = decodeRcrw5B w := by
  have h1 : bitsOf w.toNat 4 4 = 0x5 := by simp only [bitsOf] at *; omega
  have h0 : bitsOf w.toNat 0 4 = 0xB := by simp only [bitsOf] at *; omega
  simp only [decodeForm, h1, decodeRow5, h0]

theorem decodeForm_5D {w : Word} (h : bitsOf w.toNat 0 8 = 0x5D) :
    decodeForm w = some (.addihARlc (fieldD w) (fieldS1 w) (fieldConst16 w)) := by
  have h1 : bitsOf w.toNat 4 4 = 0x5 := by simp only [bitsOf] at *; omega
  have h0 : bitsOf w.toNat 0 4 = 0xD := by simp only [bitsOf] at *; omega
  simp only [decodeForm, h1, decodeRow5, h0]

theorem decodeForm_5F {w : Word} (h : bitsOf w.toNat 0 8 = 0x5F) :
    decodeForm w = some (.addihRlc (fieldD w) (fieldS1 w) (fieldConst16 w)) := by
  have h1 : bitsOf w.toNat 4 4 = 0x5 := by simp only [bitsOf] at *; omega
  have h0 : bitsOf w.toNat 0 4 = 0xF := by simp only [bitsOf] at *; omega
  simp only [decodeForm, h1, decodeRow5, h0]

theorem decodeForm_61 {w : Word} (h : bitsOf w.toNat 0 8 = 0x61) :
    decodeForm w = some (.addiRlc (fieldD w) (fieldS1 w) (fieldConst16 w)) := by
  have h1 : bitsOf w.toNat 4 4 = 0x6 := by simp only [bitsOf] at *; omega
  have h0 : bitsOf w.toNat 0 4 = 0x1 := by simp only [bitsOf] at *; omega
  simp only [decodeForm, h1, decodeRow6, h0]

theorem decodeForm_63 {w : Word} (h : bitsOf w.toNat 0 8 = 0x63) :
    decodeForm w = some (.mfcrRlc (fieldD w) (fieldConst16 w)) := by
  have h1 : bitsOf w.toNat 4 4 = 0x6 := by simp only [bitsOf] at *; omega
  have h0 : bitsOf w.toNat 0 4 = 0x3 := by simp only [bitsOf] at *; omega
  simp only [decodeForm, h1, decodeRow6, h0]

theorem decodeForm_65 {w : Word} (h : bitsOf w.toNat 0 8 = 0x65) :
    decodeForm w = some (.movURlc (fieldD w) (fieldConst16 w)) := by
  have h1 : bitsOf w.toNat 4 4 = 0x6 := by simp only [bitsOf] at *; omega
  have h0 : bitsOf w.toNat 0 4 = 0x5 := by simp only [bitsOf] at *; omega
  simp only [decodeForm, h1, decodeRow6, h0]

theorem decodeForm_67 {w : Word} (h : bitsOf w.toNat 0 8 = 0x67) :
    decodeForm w = some (.movhARlc (fieldD w) (fieldConst16 w)) := by
  have h1 : bitsOf w.toNat 4 4 = 0x6 := by simp only [bitsOf] at *; omega
  have h0 : bitsOf w.toNat 0 4 = 0x7 := by simp only [bitsOf] at *; omega
  simp only [decodeForm, h1, decodeRow6, h0]

theorem decodeForm_69 {w : Word} (h : bitsOf w.toNat 0 8 = 0x69) :
    decodeForm w = some (.movhRlc (fieldD w) (fieldConst16 w)) := by
  have h1 : bitsOf w.toNat 4 4 = 0x6 := by simp only [bitsOf] at *; omega
  have h0 : bitsOf w.toNat 0 4 = 0x9 := by simp only [bitsOf] at *; omega
  simp only [decodeForm, h1, decodeRow6, h0]

theorem decodeForm_6B {w : Word} (h : bitsOf w.toNat 0 8 = 0x6B) :
    decodeForm w = some (.movRlc (fieldD w) (fieldConst16 w)) := by
  have h1 : bitsOf w.toNat 4 4 = 0x6 := by simp only [bitsOf] at *; omega
  have h0 : bitsOf w.toNat 0 4 = 0xB := by simp only [bitsOf] at *; omega
  simp only [decodeForm, h1, decodeRow6, h0]

theorem decodeForm_6D {w : Word} (h : bitsOf w.toNat 0 8 = 0x6D) :
    decodeForm w = some (.mtcrRlc (fieldConst16 w) (fieldS1 w)) := by
  have h1 : bitsOf w.toNat 4 4 = 0x6 := by simp only [bitsOf] at *; omega
  have h0 : bitsOf w.toNat 0 4 = 0xD := by simp only [bitsOf] at *; omega
  simp only [decodeForm, h1, decodeRow6, h0]

theorem decodeForm_6F {w : Word} (h : bitsOf w.toNat 0 8 = 0x6F) :
    decodeForm w = decodeRr6F w := by
  have h1 : bitsOf w.toNat 4 4 = 0x6 := by simp only [bitsOf] at *; omega
  have h0 : bitsOf w.toNat 0 4 = 0xF := by simp only [bitsOf] at *; omega
  simp only [decodeForm, h1, decodeRow6, h0]

theorem decodeForm_71 {w : Word} (h : bitsOf w.toNat 0 8 = 0x71) :
    decodeForm w = decodeRrpw71 w := by
  have h1 : bitsOf w.toNat 4 4 = 0x7 := by simp only [bitsOf] at *; omega
  have h0 : bitsOf w.toNat 0 4 = 0x1 := by simp only [bitsOf] at *; omega
  simp only [decodeForm, h1, decodeRow7, h0]

theorem decodeForm_73 {w : Word} (h : bitsOf w.toNat 0 8 = 0x73) :
    decodeForm w = decodeRrpw73 w := by
  have h1 : bitsOf w.toNat 4 4 = 0x7 := by simp only [bitsOf] at *; omega
  have h0 : bitsOf w.toNat 0 4 = 0x3 := by simp only [bitsOf] at *; omega
  simp only [decodeForm, h1, decodeRow7, h0]

theorem decodeForm_75 {w : Word} (h : bitsOf w.toNat 0 8 = 0x75) :
    decodeForm w = decodeRrr75 w := by
  have h1 : bitsOf w.toNat 4 4 = 0x7 := by simp only [bitsOf] at *; omega
  have h0 : bitsOf w.toNat 0 4 = 0x5 := by simp only [bitsOf] at *; omega
  simp only [decodeForm, h1, decodeRow7, h0]

theorem decodeForm_77 {w : Word} (h : bitsOf w.toNat 0 8 = 0x77) :
    decodeForm w = decodeRrr77 w := by
  have h1 : bitsOf w.toNat 4 4 = 0x7 := by simp only [bitsOf] at *; omega
  have h0 : bitsOf w.toNat 0 4 = 0x7 := by simp only [bitsOf] at *; omega
  simp only [decodeForm, h1, decodeRow7, h0]

theorem decodeForm_79 {w : Word} (h : bitsOf w.toNat 0 8 = 0x79) :
    decodeForm w = decodeRrr79 w := by
  have h1 : bitsOf w.toNat 4 4 = 0x7 := by simp only [bitsOf] at *; omega
  have h0 : bitsOf w.toNat 0 4 = 0x9 := by simp only [bitsOf] at *; omega
  simp only [decodeForm, h1, decodeRow7, h0]

theorem decodeForm_7B {w : Word} (h : bitsOf w.toNat 0 8 = 0x7B) :
    decodeForm w = decodeRrr7B w := by
  have h1 : bitsOf w.toNat 4 4 = 0x7 := by simp only [bitsOf] at *; omega
  have h0 : bitsOf w.toNat 0 4 = 0xB := by simp only [bitsOf] at *; omega
  simp only [decodeForm, h1, decodeRow7, h0]

theorem decodeForm_7D {w : Word} (h : bitsOf w.toNat 0 8 = 0x7D) :
    decodeForm w = decodeRrrr7D w := by
  have h1 : bitsOf w.toNat 4 4 = 0x7 := by simp only [bitsOf] at *; omega
  have h0 : bitsOf w.toNat 0 4 = 0xD := by simp only [bitsOf] at *; omega
  simp only [decodeForm, h1, decodeRow7, h0]

theorem decodeForm_7F {w : Word} (h : bitsOf w.toNat 0 8 = 0x7F) :
    decodeForm w = decodeRrrw7F w := by
  have h1 : bitsOf w.toNat 4 4 = 0x7 := by simp only [bitsOf] at *; omega
  have h0 : bitsOf w.toNat 0 4 = 0xF := by simp only [bitsOf] at *; omega
  simp only [decodeForm, h1, decodeRow7, h0]

theorem decodeForm_83 {w : Word} (h : bitsOf w.toNat 0 8 = 0x83) :
    decodeForm w = decodeSys83 w := by
  have h1 : bitsOf w.toNat 4 4 = 0x8 := by simp only [bitsOf] at *; omega
  have h0 : bitsOf w.toNat 0 4 = 0x3 := by simp only [bitsOf] at *; omega
  simp only [decodeForm, h1, decodeRow8, h0]

theorem decodeForm_02 {w : Word} (h : bitsOf w.toNat 0 8 = 0x02) :
    decodeForm w = some (.addscASrrs (fieldS1 w) (fieldS2 w) (fieldNSrrs w)) := by
  have h1 : bitsOf w.toNat 4 4 = 0x0 := by simp only [bitsOf] at *; omega
  have h0 : bitsOf w.toNat 0 4 = 0x2 := by simp only [bitsOf] at *; omega
  simp only [decodeForm, h1, decodeRow0, h0]

theorem decodeForm_42 {w : Word} (h : bitsOf w.toNat 0 8 = 0x42) :
    decodeForm w = some (.addscASrrs (fieldS1 w) (fieldS2 w) (fieldNSrrs w)) := by
  have h1 : bitsOf w.toNat 4 4 = 0x4 := by simp only [bitsOf] at *; omega
  have h0 : bitsOf w.toNat 0 4 = 0x2 := by simp only [bitsOf] at *; omega
  simp only [decodeForm, h1, decodeRow4, h0]

theorem decodeForm_82 {w : Word} (h : bitsOf w.toNat 0 8 = 0x82) :
    decodeForm w = some (.addscASrrs (fieldS1 w) (fieldS2 w) (fieldNSrrs w)) := by
  have h1 : bitsOf w.toNat 4 4 = 0x8 := by simp only [bitsOf] at *; omega
  have h0 : bitsOf w.toNat 0 4 = 0x2 := by simp only [bitsOf] at *; omega
  simp only [decodeForm, h1, decodeRow8, h0]

theorem decodeForm_C2 {w : Word} (h : bitsOf w.toNat 0 8 = 0xC2) :
    decodeForm w = some (.addscASrrs (fieldS1 w) (fieldS2 w) (fieldNSrrs w)) := by
  have h1 : bitsOf w.toNat 4 4 = 0xC := by simp only [bitsOf] at *; omega
  have h0 : bitsOf w.toNat 0 4 = 0x2 := by simp only [bitsOf] at *; omega
  simp only [decodeForm, h1, decodeRowC, h0]

theorem decodeForm_04 {w : Word} (h : bitsOf w.toNat 0 8 = 0x04) :
    decodeForm w = some (.jnzTSbrn (fieldBitNumber w) (fieldDisp4 w)) := by
  have h1 : bitsOf w.toNat 4 4 = 0x0 := by simp only [bitsOf] at *; omega
  have h0 : bitsOf w.toNat 0 4 = 0x4 := by simp only [bitsOf] at *; omega
  simp only [decodeForm, h1, decodeRow0, h0]

theorem decodeForm_84 {w : Word} (h : bitsOf w.toNat 0 8 = 0x84) :
    decodeForm w = some (.jnzTSbrn (fieldBitNumber w) (fieldDisp4 w)) := by
  have h1 : bitsOf w.toNat 4 4 = 0x8 := by simp only [bitsOf] at *; omega
  have h0 : bitsOf w.toNat 0 4 = 0x4 := by simp only [bitsOf] at *; omega
  simp only [decodeForm, h1, decodeRow8, h0]

theorem decodeForm_06 {w : Word} (h : bitsOf w.toNat 0 8 = 0x06) :
    decodeForm w = some (.jzTSbrn (fieldBitNumber w) (fieldDisp4 w)) := by
  have h1 : bitsOf w.toNat 4 4 = 0x0 := by simp only [bitsOf] at *; omega
  have h0 : bitsOf w.toNat 0 4 = 0x6 := by simp only [bitsOf] at *; omega
  simp only [decodeForm, h1, decodeRow0, h0]

theorem decodeForm_86 {w : Word} (h : bitsOf w.toNat 0 8 = 0x86) :
    decodeForm w = some (.jzTSbrn (fieldBitNumber w) (fieldDisp4 w)) := by
  have h1 : bitsOf w.toNat 4 4 = 0x8 := by simp only [bitsOf] at *; omega
  have h0 : bitsOf w.toNat 0 4 = 0x6 := by simp only [bitsOf] at *; omega
  simp only [decodeForm, h1, decodeRow8, h0]

theorem decodeForm_08 {w : Word} (h : bitsOf w.toNat 0 8 = 0x08) :
    decodeForm w = some (.jnzSb (fieldDisp8 w)) := by
  have h1 : bitsOf w.toNat 4 4 = 0x0 := by simp only [bitsOf] at *; omega
  have h0 : bitsOf w.toNat 0 4 = 0x8 := by simp only [bitsOf] at *; omega
  simp only [decodeForm, h1, decodeRow0, h0]

theorem decodeForm_0A {w : Word} (h : bitsOf w.toNat 0 8 = 0x0A) :
    decodeForm w = some (.jzSb (fieldDisp8 w)) := by
  have h1 : bitsOf w.toNat 4 4 = 0x0 := by simp only [bitsOf] at *; omega
  have h0 : bitsOf w.toNat 0 4 = 0xA := by simp only [bitsOf] at *; omega
  simp only [decodeForm, h1, decodeRow0, h0]

theorem decodeForm_0C {w : Word} (h : bitsOf w.toNat 0 8 = 0x0C) :
    decodeForm w = some (.jSb (fieldDisp8 w)) := by
  have h1 : bitsOf w.toNat 4 4 = 0x0 := by simp only [bitsOf] at *; omega
  have h0 : bitsOf w.toNat 0 4 = 0xC := by simp only [bitsOf] at *; omega
  simp only [decodeForm, h1, decodeRow0, h0]

theorem decodeForm_0E {w : Word} (h : bitsOf w.toNat 0 8 = 0x0E) :
    decodeForm w = some (.jeqSbc (fieldConst4 w) (fieldDisp4 w)) := by
  have h1 : bitsOf w.toNat 4 4 = 0x0 := by simp only [bitsOf] at *; omega
  have h0 : bitsOf w.toNat 0 4 = 0xE := by simp only [bitsOf] at *; omega
  simp only [decodeForm, h1, decodeRow0, h0]

theorem decodeForm_10 {w : Word} (h : bitsOf w.toNat 0 8 = 0x10) :
    decodeForm w = some (.jneSbc (fieldConst4 w) (fieldDisp4 w)) := by
  have h1 : bitsOf w.toNat 4 4 = 0x1 := by simp only [bitsOf] at *; omega
  have h0 : bitsOf w.toNat 0 4 = 0x0 := by simp only [bitsOf] at *; omega
  simp only [decodeForm, h1, decodeRow1, h0]

theorem decodeForm_12 {w : Word} (h : bitsOf w.toNat 0 8 = 0x12) :
    decodeForm w = some (.jeqSbr (fieldS2 w) (fieldDisp4 w)) := by
  have h1 : bitsOf w.toNat 4 4 = 0x1 := by simp only [bitsOf] at *; omega
  have h0 : bitsOf w.toNat 0 4 = 0x2 := by simp only [bitsOf] at *; omega
  simp only [decodeForm, h1, decodeRow1, h0]

theorem decodeForm_14 {w : Word} (h : bitsOf w.toNat 0 8 = 0x14) :
    decodeForm w = some (.jgezSbr (fieldS2 w) (fieldDisp4 w)) := by
  have h1 : bitsOf w.toNat 4 4 = 0x1 := by simp only [bitsOf] at *; omega
  have h0 : bitsOf w.toNat 0 4 = 0x4 := by simp only [bitsOf] at *; omega
  simp only [decodeForm, h1, decodeRow1, h0]

theorem decodeForm_16 {w : Word} (h : bitsOf w.toNat 0 8 = 0x16) :
    decodeForm w = some (.jgtzSbr (fieldS2 w) (fieldDisp4 w)) := by
  have h1 : bitsOf w.toNat 4 4 = 0x1 := by simp only [bitsOf] at *; omega
  have h0 : bitsOf w.toNat 0 4 = 0x6 := by simp only [bitsOf] at *; omega
  simp only [decodeForm, h1, decodeRow1, h0]

theorem decodeForm_18 {w : Word} (h : bitsOf w.toNat 0 8 = 0x18) :
    decodeForm w = some (.jiSbr (fieldS2 w)) := by
  have h1 : bitsOf w.toNat 4 4 = 0x1 := by simp only [bitsOf] at *; omega
  have h0 : bitsOf w.toNat 0 4 = 0x8 := by simp only [bitsOf] at *; omega
  simp only [decodeForm, h1, decodeRow1, h0]

theorem decodeForm_1A {w : Word} (h : bitsOf w.toNat 0 8 = 0x1A) :
    decodeForm w = some (.jlezSbr (fieldS2 w) (fieldDisp4 w)) := by
  have h1 : bitsOf w.toNat 4 4 = 0x1 := by simp only [bitsOf] at *; omega
  have h0 : bitsOf w.toNat 0 4 = 0xA := by simp only [bitsOf] at *; omega
  simp only [decodeForm, h1, decodeRow1, h0]

theorem decodeForm_1C {w : Word} (h : bitsOf w.toNat 0 8 = 0x1C) :
    decodeForm w = some (.jltzSbr (fieldS2 w) (fieldDisp4 w)) := by
  have h1 : bitsOf w.toNat 4 4 = 0x1 := by simp only [bitsOf] at *; omega
  have h0 : bitsOf w.toNat 0 4 = 0xC := by simp only [bitsOf] at *; omega
  simp only [decodeForm, h1, decodeRow1, h0]

theorem decodeForm_1E {w : Word} (h : bitsOf w.toNat 0 8 = 0x1E) :
    decodeForm w = some (.jneSbr (fieldS2 w) (fieldDisp4 w)) := by
  have h1 : bitsOf w.toNat 4 4 = 0x1 := by simp only [bitsOf] at *; omega
  have h0 : bitsOf w.toNat 0 4 = 0xE := by simp only [bitsOf] at *; omega
  simp only [decodeForm, h1, decodeRow1, h0]

theorem decodeForm_20 {w : Word} (h : bitsOf w.toNat 0 8 = 0x20) :
    decodeForm w = some (.jnzASbr (fieldS2 w) (fieldDisp4 w)) := by
  have h1 : bitsOf w.toNat 4 4 = 0x2 := by simp only [bitsOf] at *; omega
  have h0 : bitsOf w.toNat 0 4 = 0x0 := by simp only [bitsOf] at *; omega
  simp only [decodeForm, h1, decodeRow2, h0]

theorem decodeForm_22 {w : Word} (h : bitsOf w.toNat 0 8 = 0x22) :
    decodeForm w = some (.jnzSbr (fieldS2 w) (fieldDisp4 w)) := by
  have h1 : bitsOf w.toNat 4 4 = 0x2 := by simp only [bitsOf] at *; omega
  have h0 : bitsOf w.toNat 0 4 = 0x2 := by simp only [bitsOf] at *; omega
  simp only [decodeForm, h1, decodeRow2, h0]

theorem decodeForm_24 {w : Word} (h : bitsOf w.toNat 0 8 = 0x24) :
    decodeForm w = some (.jzASbr (fieldS2 w) (fieldDisp4 w)) := by
  have h1 : bitsOf w.toNat 4 4 = 0x2 := by simp only [bitsOf] at *; omega
  have h0 : bitsOf w.toNat 0 4 = 0x4 := by simp only [bitsOf] at *; omega
  simp only [decodeForm, h1, decodeRow2, h0]

theorem decodeForm_26 {w : Word} (h : bitsOf w.toNat 0 8 = 0x26) :
    decodeForm w = some (.jzSbr (fieldS2 w) (fieldDisp4 w)) := by
  have h1 : bitsOf w.toNat 4 4 = 0x2 := by simp only [bitsOf] at *; omega
  have h0 : bitsOf w.toNat 0 4 = 0x6 := by simp only [bitsOf] at *; omega
  simp only [decodeForm, h1, decodeRow2, h0]

theorem decodeForm_28 {w : Word} (h : bitsOf w.toNat 0 8 = 0x28) :
    decodeForm w = some (.loopSbr (fieldS2 w) (fieldDisp4 w)) := by
  have h1 : bitsOf w.toNat 4 4 = 0x2 := by simp only [bitsOf] at *; omega
  have h0 : bitsOf w.toNat 0 4 = 0x8 := by simp only [bitsOf] at *; omega
  simp only [decodeForm, h1, decodeRow2, h0]

theorem decodeForm_2A {w : Word} (h : bitsOf w.toNat 0 8 = 0x2A) :
    decodeForm w = some (.andSc (fieldConst8 w)) := by
  have h1 : bitsOf w.toNat 4 4 = 0x2 := by simp only [bitsOf] at *; omega
  have h0 : bitsOf w.toNat 0 4 = 0xA := by simp only [bitsOf] at *; omega
  simp only [decodeForm, h1, decodeRow2, h0]

theorem decodeForm_2C {w : Word} (h : bitsOf w.toNat 0 8 = 0x2C) :
    decodeForm w = some (.bisrSc (fieldConst8 w)) := by
  have h1 : bitsOf w.toNat 4 4 = 0x2 := by simp only [bitsOf] at *; omega
  have h0 : bitsOf w.toNat 0 4 = 0xC := by simp only [bitsOf] at *; omega
  simp only [decodeForm, h1, decodeRow2, h0]

theorem decodeForm_2E {w : Word} (h : bitsOf w.toNat 0 8 = 0x2E) :
    decodeForm w = some (.movSc (fieldConst8 w)) := by
  have h1 : bitsOf w.toNat 4 4 = 0x2 := by simp only [bitsOf] at *; omega
  have h0 : bitsOf w.toNat 0 4 = 0xE := by simp only [bitsOf] at *; omega
  simp only [decodeForm, h1, decodeRow2, h0]

theorem decodeForm_30 {w : Word} (h : bitsOf w.toNat 0 8 = 0x30) :
    decodeForm w = some (.orSc (fieldConst8 w)) := by
  have h1 : bitsOf w.toNat 4 4 = 0x3 := by simp only [bitsOf] at *; omega
  have h0 : bitsOf w.toNat 0 4 = 0x0 := by simp only [bitsOf] at *; omega
  simp only [decodeForm, h1, decodeRow3, h0]

theorem decodeForm_32 {w : Word} (h : bitsOf w.toNat 0 8 = 0x32) :
    decodeForm w = some (.subASc (fieldConst8 w)) := by
  have h1 : bitsOf w.toNat 4 4 = 0x3 := by simp only [bitsOf] at *; omega
  have h0 : bitsOf w.toNat 0 4 = 0x2 := by simp only [bitsOf] at *; omega
  simp only [decodeForm, h1, decodeRow3, h0]

theorem decodeForm_34 {w : Word} (h : bitsOf w.toNat 0 8 = 0x34) :
    decodeForm w = some (.ldASlr (fieldS1 w) (fieldS2 w)) := by
  have h1 : bitsOf w.toNat 4 4 = 0x3 := by simp only [bitsOf] at *; omega
  have h0 : bitsOf w.toNat 0 4 = 0x4 := by simp only [bitsOf] at *; omega
  simp only [decodeForm, h1, decodeRow3, h0]

theorem decodeForm_36 {w : Word} (h : bitsOf w.toNat 0 8 = 0x36) :
    decodeForm w = some (.ldASlrPostinc (fieldS1 w) (fieldS2 w)) := by
  have h1 : bitsOf w.toNat 4 4 = 0x3 := by simp only [bitsOf] at *; omega
  have h0 : bitsOf w.toNat 0 4 = 0x6 := by simp only [bitsOf] at *; omega
  simp only [decodeForm, h1, decodeRow3, h0]

theorem decodeForm_38 {w : Word} (h : bitsOf w.toNat 0 8 = 0x38) :
    decodeForm w = some (.ldBuSlr (fieldS1 w) (fieldS2 w)) := by
  have h1 : bitsOf w.toNat 4 4 = 0x3 := by simp only [bitsOf] at *; omega
  have h0 : bitsOf w.toNat 0 4 = 0x8 := by simp only [bitsOf] at *; omega
  simp only [decodeForm, h1, decodeRow3, h0]

theorem decodeForm_3A {w : Word} (h : bitsOf w.toNat 0 8 = 0x3A) :
    decodeForm w = some (.ldBuSlrPostinc (fieldS1 w) (fieldS2 w)) := by
  have h1 : bitsOf w.toNat 4 4 = 0x3 := by simp only [bitsOf] at *; omega
  have h0 : bitsOf w.toNat 0 4 = 0xA := by simp only [bitsOf] at *; omega
  simp only [decodeForm, h1, decodeRow3, h0]

theorem decodeForm_3C {w : Word} (h : bitsOf w.toNat 0 8 = 0x3C) :
    decodeForm w = some (.ldBSlr (fieldS1 w) (fieldS2 w)) := by
  have h1 : bitsOf w.toNat 4 4 = 0x3 := by simp only [bitsOf] at *; omega
  have h0 : bitsOf w.toNat 0 4 = 0xC := by simp only [bitsOf] at *; omega
  simp only [decodeForm, h1, decodeRow3, h0]

theorem decodeForm_3E {w : Word} (h : bitsOf w.toNat 0 8 = 0x3E) :
    decodeForm w = some (.ldBSlrPostinc (fieldS1 w) (fieldS2 w)) := by
  have h1 : bitsOf w.toNat 4 4 = 0x3 := by simp only [bitsOf] at *; omega
  have h0 : bitsOf w.toNat 0 4 = 0xE := by simp only [bitsOf] at *; omega
  simp only [decodeForm, h1, decodeRow3, h0]

theorem decodeForm_40 {w : Word} (h : bitsOf w.toNat 0 8 = 0x40) :
    decodeForm w = some (.ldHSlr (fieldS1 w) (fieldS2 w)) := by
  have h1 : bitsOf w.toNat 4 4 = 0x4 := by simp only [bitsOf] at *; omega
  have h0 : bitsOf w.toNat 0 4 = 0x0 := by simp only [bitsOf] at *; omega
  simp only [decodeForm, h1, decodeRow4, h0]

theorem decodeForm_44 {w : Word} (h : bitsOf w.toNat 0 8 = 0x44) :
    decodeForm w = some (.ldHSlrPostinc (fieldS1 w) (fieldS2 w)) := by
  have h1 : bitsOf w.toNat 4 4 = 0x4 := by simp only [bitsOf] at *; omega
  have h0 : bitsOf w.toNat 0 4 = 0x4 := by simp only [bitsOf] at *; omega
  simp only [decodeForm, h1, decodeRow4, h0]

theorem decodeForm_46 {w : Word} (h : bitsOf w.toNat 0 8 = 0x46) :
    decodeForm w = some (.ldWSlr (fieldS1 w) (fieldS2 w)) := by
  have h1 : bitsOf w.toNat 4 4 = 0x4 := by simp only [bitsOf] at *; omega
  have h0 : bitsOf w.toNat 0 4 = 0x6 := by simp only [bitsOf] at *; omega
  simp only [decodeForm, h1, decodeRow4, h0]

theorem decodeForm_48 {w : Word} (h : bitsOf w.toNat 0 8 = 0x48) :
    decodeForm w = some (.ldWSlrPostinc (fieldS1 w) (fieldS2 w)) := by
  have h1 : bitsOf w.toNat 4 4 = 0x4 := by simp only [bitsOf] at *; omega
  have h0 : bitsOf w.toNat 0 4 = 0x8 := by simp only [bitsOf] at *; omega
  simp only [decodeForm, h1, decodeRow4, h0]

theorem decodeForm_4A {w : Word} (h : bitsOf w.toNat 0 8 = 0x4A) :
    decodeForm w = some (.ldASlro (fieldS1 w) (fieldOff4 w)) := by
  have h1 : bitsOf w.toNat 4 4 = 0x4 := by simp only [bitsOf] at *; omega
  have h0 : bitsOf w.toNat 0 4 = 0xA := by simp only [bitsOf] at *; omega
  simp only [decodeForm, h1, decodeRow4, h0]

theorem decodeForm_4C {w : Word} (h : bitsOf w.toNat 0 8 = 0x4C) :
    decodeForm w = some (.ldBuSlro (fieldS1 w) (fieldOff4 w)) := by
  have h1 : bitsOf w.toNat 4 4 = 0x4 := by simp only [bitsOf] at *; omega
  have h0 : bitsOf w.toNat 0 4 = 0xC := by simp only [bitsOf] at *; omega
  simp only [decodeForm, h1, decodeRow4, h0]

theorem decodeForm_4E {w : Word} (h : bitsOf w.toNat 0 8 = 0x4E) :
    decodeForm w = some (.ldBSlro (fieldS1 w) (fieldOff4 w)) := by
  have h1 : bitsOf w.toNat 4 4 = 0x4 := by simp only [bitsOf] at *; omega
  have h0 : bitsOf w.toNat 0 4 = 0xE := by simp only [bitsOf] at *; omega
  simp only [decodeForm, h1, decodeRow4, h0]

theorem decodeForm_50 {w : Word} (h : bitsOf w.toNat 0 8 = 0x50) :
    decodeForm w = some (.ldHSlro (fieldS1 w) (fieldOff4 w)) := by
  have h1 : bitsOf w.toNat 4 4 = 0x5 := by simp only [bitsOf] at *; omega
  have h0 : bitsOf w.toNat 0 4 = 0x0 := by simp only [bitsOf] at *; omega
  simp only [decodeForm, h1, decodeRow5, h0]

theorem decodeForm_52 {w : Word} (h : bitsOf w.toNat 0 8 = 0x52) :
    decodeForm w = some (.ldWSlro (fieldS1 w) (fieldOff4 w)) := by
  have h1 : bitsOf w.toNat 4 4 = 0x5 := by simp only [bitsOf] at *; omega
  have h0 : bitsOf w.toNat 0 4 = 0x2 := by simp only [bitsOf] at *; omega
  simp only [decodeForm, h1, decodeRow5, h0]

theorem decodeForm_54 {w : Word} (h : bitsOf w.toNat 0 8 = 0x54) :
    decodeForm w = decodeSr54 w := by
  have h1 : bitsOf w.toNat 4 4 = 0x5 := by simp only [bitsOf] at *; omega
  have h0 : bitsOf w.toNat 0 4 = 0x4 := by simp only [bitsOf] at *; omega
  simp only [decodeForm, h1, decodeRow5, h0]

theorem decodeForm_56 {w : Word} (h : bitsOf w.toNat 0 8 = 0x56) :
    decodeForm w = some (.addSrc (fieldS1 w) (fieldConst4 w)) := by
  have h1 : bitsOf w.toNat 4 4 = 0x5 := by simp only [bitsOf] at *; omega
  have h0 : bitsOf w.toNat 0 4 = 0x6 := by simp only [bitsOf] at *; omega
  simp only [decodeForm, h1, decodeRow5, h0]

theorem decodeForm_58 {w : Word} (h : bitsOf w.toNat 0 8 = 0x58) :
    decodeForm w = some (.addSrcD15 (fieldS1 w) (fieldConst4 w)) := by
  have h1 : bitsOf w.toNat 4 4 = 0x5 := by simp only [bitsOf] at *; omega
  have h0 : bitsOf w.toNat 0 4 = 0x8 := by simp only [bitsOf] at *; omega
  simp only [decodeForm, h1, decodeRow5, h0]

theorem decodeForm_5A {w : Word} (h : bitsOf w.toNat 0 8 = 0x5A) :
    decodeForm w = some (.caddnSrc (fieldS1 w) (fieldConst4 w)) := by
  have h1 : bitsOf w.toNat 4 4 = 0x5 := by simp only [bitsOf] at *; omega
  have h0 : bitsOf w.toNat 0 4 = 0xA := by simp only [bitsOf] at *; omega
  simp only [decodeForm, h1, decodeRow5, h0]

theorem decodeForm_5C {w : Word} (h : bitsOf w.toNat 0 8 = 0x5C) :
    decodeForm w = some (.caddSrc (fieldS1 w) (fieldConst4 w)) := by
  have h1 : bitsOf w.toNat 4 4 = 0x5 := by simp only [bitsOf] at *; omega
  have h0 : bitsOf w.toNat 0 4 = 0xC := by simp only [bitsOf] at *; omega
  simp only [decodeForm, h1, decodeRow5, h0]

theorem decodeForm_5E {w : Word} (h : bitsOf w.toNat 0 8 = 0x5E) :
    decodeForm w = some (.cmovnSrc (fieldS1 w) (fieldConst4 w)) := by
  have h1 : bitsOf w.toNat 4 4 = 0x5 := by simp only [bitsOf] at *; omega
  have h0 : bitsOf w.toNat 0 4 = 0xE := by simp only [bitsOf] at *; omega
  simp only [decodeForm, h1, decodeRow5, h0]

theorem decodeForm_60 {w : Word} (h : bitsOf w.toNat 0 8 = 0x60) :
    decodeForm w = some (.cmovSrc (fieldS1 w) (fieldConst4 w)) := by
  have h1 : bitsOf w.toNat 4 4 = 0x6 := by simp only [bitsOf] at *; omega
  have h0 : bitsOf w.toNat 0 4 = 0x0 := by simp only [bitsOf] at *; omega
  simp only [decodeForm, h1, decodeRow6, h0]

theorem decodeForm_62 {w : Word} (h : bitsOf w.toNat 0 8 = 0x62) :
    decodeForm w = some (.eqSrc (fieldS1 w) (fieldConst4 w)) := by
  have h1 : bitsOf w.toNat 4 4 = 0x6 := by simp only [bitsOf] at *; omega
  have h0 : bitsOf w.toNat 0 4 = 0x2 := by simp only [bitsOf] at *; omega
  simp only [decodeForm, h1, decodeRow6, h0]

theorem decodeForm_64 {w : Word} (h : bitsOf w.toNat 0 8 = 0x64) :
    decodeForm w = some (.ltUSrc (fieldS1 w) (fieldConst4 w)) := by
  have h1 : bitsOf w.toNat 4 4 = 0x6 := by simp only [bitsOf] at *; omega
  have h0 : bitsOf w.toNat 0 4 = 0x4 := by simp only [bitsOf] at *; omega
  simp only [decodeForm, h1, decodeRow6, h0]

theorem decodeForm_66 {w : Word} (h : bitsOf w.toNat 0 8 = 0x66) :
    decodeForm w = some (.ltSrc (fieldS1 w) (fieldConst4 w)) := by
  have h1 : bitsOf w.toNat 4 4 = 0x6 := by simp only [bitsOf] at *; omega
  have h0 : bitsOf w.toNat 0 4 = 0x6 := by simp only [bitsOf] at *; omega
  simp only [decodeForm, h1, decodeRow6, h0]

theorem decodeForm_68 {w : Word} (h : bitsOf w.toNat 0 8 = 0x68) :
    decodeForm w = some (.movSrc (fieldS1 w) (fieldConst4 w)) := by
  have h1 : bitsOf w.toNat 4 4 = 0x6 := by simp only [bitsOf] at *; omega
  have h0 : bitsOf w.toNat 0 4 = 0x8 := by simp only [bitsOf] at *; omega
  simp only [decodeForm, h1, decodeRow6, h0]

theorem decodeForm_6A {w : Word} (h : bitsOf w.toNat 0 8 = 0x6A) :
    decodeForm w = some (.shaSrc (fieldS1 w) (fieldConst4 w)) := by
  have h1 : bitsOf w.toNat 4 4 = 0x6 := by simp only [bitsOf] at *; omega
  have h0 : bitsOf w.toNat 0 4 = 0xA := by simp only [bitsOf] at *; omega
  simp only [decodeForm, h1, decodeRow6, h0]

theorem decodeForm_6C {w : Word} (h : bitsOf w.toNat 0 8 = 0x6C) :
    decodeForm w = some (.shSrc (fieldS1 w) (fieldConst4 w)) := by
  have h1 : bitsOf w.toNat 4 4 = 0x6 := by simp only [bitsOf] at *; omega
  have h0 : bitsOf w.toNat 0 4 = 0xC := by simp only [bitsOf] at *; omega
  simp only [decodeForm, h1, decodeRow6, h0]

theorem decodeForm_6E {w : Word} (h : bitsOf w.toNat 0 8 = 0x6E) :
    decodeForm w = some (.ldASro (fieldS2 w) (fieldOff4Sro w)) := by
  have h1 : bitsOf w.toNat 4 4 = 0x6 := by simp only [bitsOf] at *; omega
  have h0 : bitsOf w.toNat 0 4 = 0xE := by simp only [bitsOf] at *; omega
  simp only [decodeForm, h1, decodeRow6, h0]

theorem decodeForm_70 {w : Word} (h : bitsOf w.toNat 0 8 = 0x70) :
    decodeForm w = some (.ldBuSro (fieldS2 w) (fieldOff4Sro w)) := by
  have h1 : bitsOf w.toNat 4 4 = 0x7 := by simp only [bitsOf] at *; omega
  have h0 : bitsOf w.toNat 0 4 = 0x0 := by simp only [bitsOf] at *; omega
  simp only [decodeForm, h1, decodeRow7, h0]

theorem decodeForm_72 {w : Word} (h : bitsOf w.toNat 0 8 = 0x72) :
    decodeForm w = some (.ldBSro (fieldS2 w) (fieldOff4Sro w)) := by
  have h1 : bitsOf w.toNat 4 4 = 0x7 := by simp only [bitsOf] at *; omega
  have h0 : bitsOf w.toNat 0 4 = 0x2 := by simp only [bitsOf] at *; omega
  simp only [decodeForm, h1, decodeRow7, h0]

theorem decodeForm_74 {w : Word} (h : bitsOf w.toNat 0 8 = 0x74) :
    decodeForm w = some (.ldHSro (fieldS2 w) (fieldOff4Sro w)) := by
  have h1 : bitsOf w.toNat 4 4 = 0x7 := by simp only [bitsOf] at *; omega
  have h0 : bitsOf w.toNat 0 4 = 0x4 := by simp only [bitsOf] at *; omega
  simp only [decodeForm, h1, decodeRow7, h0]

theorem decodeForm_76 {w : Word} (h : bitsOf w.toNat 0 8 = 0x76) :
    decodeForm w = some (.ldWSro (fieldS2 w) (fieldOff4Sro w)) := by
  have h1 : bitsOf w.toNat 4 4 = 0x7 := by simp only [bitsOf] at *; omega
  have h0 : bitsOf w.toNat 0 4 = 0x6 := by simp only [bitsOf] at *; omega
  simp only [decodeForm, h1, decodeRow7, h0]

theorem decodeForm_78 {w : Word} (h : bitsOf w.toNat 0 8 = 0x78) :
    decodeForm w = some (.stASro (fieldS2 w) (fieldOff4Sro w)) := by
  have h1 : bitsOf w.toNat 4 4 = 0x7 := by simp only [bitsOf] at *; omega
  have h0 : bitsOf w.toNat 0 4 = 0x8 := by simp only [bitsOf] at *; omega
  simp only [decodeForm, h1, decodeRow7, h0]

theorem decodeForm_7A {w : Word} (h : bitsOf w.toNat 0 8 = 0x7A) :
    decodeForm w = some (.stBSro (fieldS2 w) (fieldOff4Sro w)) := by
  have h1 : bitsOf w.toNat 4 4 = 0x7 := by simp only [bitsOf] at *; omega
  have h0 : bitsOf w.toNat 0 4 = 0xA := by simp only [bitsOf] at *; omega
  simp only [decodeForm, h1, decodeRow7, h0]

theorem decodeForm_7C {w : Word} (h : bitsOf w.toNat 0 8 = 0x7C) :
    decodeForm w = some (.stHSro (fieldS2 w) (fieldOff4Sro w)) := by
  have h1 : bitsOf w.toNat 4 4 = 0x7 := by simp only [bitsOf] at *; omega
  have h0 : bitsOf w.toNat 0 4 = 0xC := by simp only [bitsOf] at *; omega
  simp only [decodeForm, h1, decodeRow7, h0]

theorem decodeForm_7E {w : Word} (h : bitsOf w.toNat 0 8 = 0x7E) :
    decodeForm w = some (.stWSro (fieldS2 w) (fieldOff4Sro w)) := by
  have h1 : bitsOf w.toNat 4 4 = 0x7 := by simp only [bitsOf] at *; omega
  have h0 : bitsOf w.toNat 0 4 = 0xE := by simp only [bitsOf] at *; omega
  simp only [decodeForm, h1, decodeRow7, h0]

theorem decodeForm_80 {w : Word} (h : bitsOf w.toNat 0 8 = 0x80) :
    decodeForm w = some (.addSrr (fieldS1 w) (fieldS2 w)) := by
  have h1 : bitsOf w.toNat 4 4 = 0x8 := by simp only [bitsOf] at *; omega
  have h0 : bitsOf w.toNat 0 4 = 0x0 := by simp only [bitsOf] at *; omega
  simp only [decodeForm, h1, decodeRow8, h0]

theorem decodeForm_88 {w : Word} (h : bitsOf w.toNat 0 8 = 0x88) :
    decodeForm w = some (.addSrrD15 (fieldS1 w) (fieldS2 w)) := by
  have h1 : bitsOf w.toNat 4 4 = 0x8 := by simp only [bitsOf] at *; omega
  have h0 : bitsOf w.toNat 0 4 = 0x8 := by simp only [bitsOf] at *; omega
  simp only [decodeForm, h1, decodeRow8, h0]

theorem decodeForm_8A {w : Word} (h : bitsOf w.toNat 0 8 = 0x8A) :
    decodeForm w = some (.andSrr (fieldS1 w) (fieldS2 w)) := by
  have h1 : bitsOf w.toNat 4 4 = 0x8 := by simp only [bitsOf] at *; omega
  have h0 : bitsOf w.toNat 0 4 = 0xA := by simp only [bitsOf] at *; omega
  simp only [decodeForm, h1, decodeRow8, h0]

theorem decodeForm_8C {w : Word} (h : bitsOf w.toNat 0 8 = 0x8C) :
    decodeForm w = some (.caddnSrr (fieldS1 w) (fieldS2 w)) := by
  have h1 : bitsOf w.toNat 4 4 = 0x8 := by simp only [bitsOf] at *; omega
  have h0 : bitsOf w.toNat 0 4 = 0xC := by simp only [bitsOf] at *; omega
  simp only [decodeForm, h1, decodeRow8, h0]

theorem decodeForm_8E {w : Word} (h : bitsOf w.toNat 0 8 = 0x8E) :
    decodeForm w = some (.caddSrr (fieldS1 w) (fieldS2 w)) := by
  have h1 : bitsOf w.toNat 4 4 = 0x8 := by simp only [bitsOf] at *; omega
  have h0 : bitsOf w.toNat 0 4 = 0xE := by simp only [bitsOf] at *; omega
  simp only [decodeForm, h1, decodeRow8, h0]

theorem decodeForm_90 {w : Word} (h : bitsOf w.toNat 0 8 = 0x90) :
    decodeForm w = some (.cmovnSrr (fieldS1 w) (fieldS2 w)) := by
  have h1 : bitsOf w.toNat 4 4 = 0x9 := by simp only [bitsOf] at *; omega
  have h0 : bitsOf w.toNat 0 4 = 0x0 := by simp only [bitsOf] at *; omega
  simp only [decodeForm, h1, decodeRow9, h0]

theorem decodeForm_92 {w : Word} (h : bitsOf w.toNat 0 8 = 0x92) :
    decodeForm w = some (.cmovSrr (fieldS1 w) (fieldS2 w)) := by
  have h1 : bitsOf w.toNat 4 4 = 0x9 := by simp only [bitsOf] at *; omega
  have h0 : bitsOf w.toNat 0 4 = 0x2 := by simp only [bitsOf] at *; omega
  simp only [decodeForm, h1, decodeRow9, h0]

theorem decodeForm_94 {w : Word} (h : bitsOf w.toNat 0 8 = 0x94) :
    decodeForm w = some (.dvadjSrr (fieldS1 w) (fieldS2 w)) := by
  have h1 : bitsOf w.toNat 4 4 = 0x9 := by simp only [bitsOf] at *; omega
  have h0 : bitsOf w.toNat 0 4 = 0x4 := by simp only [bitsOf] at *; omega
  simp only [decodeForm, h1, decodeRow9, h0]

theorem decodeForm_96 {w : Word} (h : bitsOf w.toNat 0 8 = 0x96) :
    decodeForm w = some (.dvstepUSrr (fieldS1 w) (fieldS2 w)) := by
  have h1 : bitsOf w.toNat 4 4 = 0x9 := by simp only [bitsOf] at *; omega
  have h0 : bitsOf w.toNat 0 4 = 0x6 := by simp only [bitsOf] at *; omega
  simp only [decodeForm, h1, decodeRow9, h0]

theorem decodeForm_98 {w : Word} (h : bitsOf w.toNat 0 8 = 0x98) :
    decodeForm w = some (.dvstepSrr (fieldS1 w) (fieldS2 w)) := by
  have h1 : bitsOf w.toNat 4 4 = 0x9 := by simp only [bitsOf] at *; omega
  have h0 : bitsOf w.toNat 0 4 = 0x8 := by simp only [bitsOf] at *; omega
  simp only [decodeForm, h1, decodeRow9, h0]

theorem decodeForm_9A {w : Word} (h : bitsOf w.toNat 0 8 = 0x9A) :
    decodeForm w = some (.eqSrr (fieldS1 w) (fieldS2 w)) := by
  have h1 : bitsOf w.toNat 4 4 = 0x9 := by simp only [bitsOf] at *; omega
  have h0 : bitsOf w.toNat 0 4 = 0xA := by simp only [bitsOf] at *; omega
  simp only [decodeForm, h1, decodeRow9, h0]

theorem decodeForm_9C {w : Word} (h : bitsOf w.toNat 0 8 = 0x9C) :
    decodeForm w = some (.ltUSrr (fieldS1 w) (fieldS2 w)) := by
  have h1 : bitsOf w.toNat 4 4 = 0x9 := by simp only [bitsOf] at *; omega
  have h0 : bitsOf w.toNat 0 4 = 0xC := by simp only [bitsOf] at *; omega
  simp only [decodeForm, h1, decodeRow9, h0]

theorem decodeForm_9E {w : Word} (h : bitsOf w.toNat 0 8 = 0x9E) :
    decodeForm w = some (.ltSrr (fieldS1 w) (fieldS2 w)) := by
  have h1 : bitsOf w.toNat 4 4 = 0x9 := by simp only [bitsOf] at *; omega
  have h0 : bitsOf w.toNat 0 4 = 0xE := by simp only [bitsOf] at *; omega
  simp only [decodeForm, h1, decodeRow9, h0]

theorem decodeForm_A0 {w : Word} (h : bitsOf w.toNat 0 8 = 0xA0) :
    decodeForm w = some (.movAaSrr (fieldS1 w) (fieldS2 w)) := by
  have h1 : bitsOf w.toNat 4 4 = 0xA := by simp only [bitsOf] at *; omega
  have h0 : bitsOf w.toNat 0 4 = 0x0 := by simp only [bitsOf] at *; omega
  simp only [decodeForm, h1, decodeRowA, h0]

theorem decodeForm_A2 {w : Word} (h : bitsOf w.toNat 0 8 = 0xA2) :
    decodeForm w = some (.movASrr (fieldS1 w) (fieldS2 w)) := by
  have h1 : bitsOf w.toNat 4 4 = 0xA := by simp only [bitsOf] at *; omega
  have h0 : bitsOf w.toNat 0 4 = 0x2 := by simp only [bitsOf] at *; omega
  simp only [decodeForm, h1, decodeRowA, h0]

theorem decodeForm_A4 {w : Word} (h : bitsOf w.toNat 0 8 = 0xA4) :
    decodeForm w = some (.movDSrr (fieldS1 w) (fieldS2 w)) := by
  have h1 : bitsOf w.toNat 4 4 = 0xA := by simp only [bitsOf] at *; omega
  have h0 : bitsOf w.toNat 0 4 = 0x4 := by simp only [bitsOf] at *; omega
  simp only [decodeForm, h1, decodeRowA, h0]

theorem decodeForm_A6 {w : Word} (h : bitsOf w.toNat 0 8 = 0xA6) :
    decodeForm w = some (.movSrr (fieldS1 w) (fieldS2 w)) := by
  have h1 : bitsOf w.toNat 4 4 = 0xA := by simp only [bitsOf] at *; omega
  have h0 : bitsOf w.toNat 0 4 = 0x6 := by simp only [bitsOf] at *; omega
  simp only [decodeForm, h1, decodeRowA, h0]

theorem decodeForm_A8 {w : Word} (h : bitsOf w.toNat 0 8 = 0xA8) :
    decodeForm w = some (.mulSrr (fieldS1 w) (fieldS2 w)) := by
  have h1 : bitsOf w.toNat 4 4 = 0xA := by simp only [bitsOf] at *; omega
  have h0 : bitsOf w.toNat 0 4 = 0x8 := by simp only [bitsOf] at *; omega
  simp only [decodeForm, h1, decodeRowA, h0]

theorem decodeForm_AA {w : Word} (h : bitsOf w.toNat 0 8 = 0xAA) :
    decodeForm w = some (.orSrr (fieldS1 w) (fieldS2 w)) := by
  have h1 : bitsOf w.toNat 4 4 = 0xA := by simp only [bitsOf] at *; omega
  have h0 : bitsOf w.toNat 0 4 = 0xA := by simp only [bitsOf] at *; omega
  simp only [decodeForm, h1, decodeRowA, h0]

theorem decodeForm_AC {w : Word} (h : bitsOf w.toNat 0 8 = 0xAC) :
    decodeForm w = some (.subsSrr (fieldS1 w) (fieldS2 w)) := by
  have h1 : bitsOf w.toNat 4 4 = 0xA := by simp only [bitsOf] at *; omega
  have h0 : bitsOf w.toNat 0 4 = 0xC := by simp only [bitsOf] at *; omega
  simp only [decodeForm, h1, decodeRowA, h0]

theorem decodeForm_AE {w : Word} (h : bitsOf w.toNat 0 8 = 0xAE) :
    decodeForm w = some (.subSrr (fieldS1 w) (fieldS2 w)) := by
  have h1 : bitsOf w.toNat 4 4 = 0xA := by simp only [bitsOf] at *; omega
  have h0 : bitsOf w.toNat 0 4 = 0xE := by simp only [bitsOf] at *; omega
  simp only [decodeForm, h1, decodeRowA, h0]

theorem decodeForm_B0 {w : Word} (h : bitsOf w.toNat 0 8 = 0xB0) :
    decodeForm w = some (.subSrrD15 (fieldS1 w) (fieldS2 w)) := by
  have h1 : bitsOf w.toNat 4 4 = 0xB := by simp only [bitsOf] at *; omega
  have h0 : bitsOf w.toNat 0 4 = 0x0 := by simp only [bitsOf] at *; omega
  simp only [decodeForm, h1, decodeRowB, h0]

theorem decodeForm_B2 {w : Word} (h : bitsOf w.toNat 0 8 = 0xB2) :
    decodeForm w = some (.stASsr (fieldS1 w) (fieldS2 w)) := by
  have h1 : bitsOf w.toNat 4 4 = 0xB := by simp only [bitsOf] at *; omega
  have h0 : bitsOf w.toNat 0 4 = 0x2 := by simp only [bitsOf] at *; omega
  simp only [decodeForm, h1, decodeRowB, h0]

theorem decodeForm_B4 {w : Word} (h : bitsOf w.toNat 0 8 = 0xB4) :
    decodeForm w = some (.stASsrPostinc (fieldS1 w) (fieldS2 w)) := by
  have h1 : bitsOf w.toNat 4 4 = 0xB := by simp only [bitsOf] at *; omega
  have h0 : bitsOf w.toNat 0 4 = 0x4 := by simp only [bitsOf] at *; omega
  simp only [decodeForm, h1, decodeRowB, h0]

theorem decodeForm_B6 {w : Word} (h : bitsOf w.toNat 0 8 = 0xB6) :
    decodeForm w = some (.stBSsr (fieldS1 w) (fieldS2 w)) := by
  have h1 : bitsOf w.toNat 4 4 = 0xB := by simp only [bitsOf] at *; omega
  have h0 : bitsOf w.toNat 0 4 = 0x6 := by simp only [bitsOf] at *; omega
  simp only [decodeForm, h1, decodeRowB, h0]

theorem decodeForm_B8 {w : Word} (h : bitsOf w.toNat 0 8 = 0xB8) :
    decodeForm w = some (.stBSsrPostinc (fieldS1 w) (fieldS2 w)) := by
  have h1 : bitsOf w.toNat 4 4 = 0xB := by simp only [bitsOf] at *; omega
  have h0 : bitsOf w.toNat 0 4 = 0x8 := by simp only [bitsOf] at *; omega
  simp only [decodeForm, h1, decodeRowB, h0]

theorem decodeForm_BA {w : Word} (h : bitsOf w.toNat 0 8 = 0xBA) :
    decodeForm w = some (.stHSsr (fieldS1 w) (fieldS2 w)) := by
  have h1 : bitsOf w.toNat 4 4 = 0xB := by simp only [bitsOf] at *; omega
  have h0 : bitsOf w.toNat 0 4 = 0xA := by simp only [bitsOf] at *; omega
  simp only [decodeForm, h1, decodeRowB, h0]

theorem decodeForm_BC {w : Word} (h : bitsOf w.toNat 0 8 = 0xBC) :
    decodeForm w = some (.stHSsrPostinc (fieldS1 w) (fieldS2 w)) := by
  have h1 : bitsOf w.toNat 4 4 = 0xB := by simp only [bitsOf] at *; omega
  have h0 : bitsOf w.toNat 0 4 = 0xC := by simp only [bitsOf] at *; omega
  simp only [decodeForm, h1, decodeRowB, h0]

theorem decodeForm_BE {w : Word} (h : bitsOf w.toNat 0 8 = 0xBE) :
    decodeForm w = some (.stWSsr (fieldS1 w) (fieldS2 w)) := by
  have h1 : bitsOf w.toNat 4 4 = 0xB := by simp only [bitsOf] at *; omega
  have h0 : bitsOf w.toNat 0 4 = 0xE := by simp only [bitsOf] at *; omega
  simp only [decodeForm, h1, decodeRowB, h0]

theorem decodeForm_C0 {w : Word} (h : bitsOf w.toNat 0 8 = 0xC0) :
    decodeForm w = some (.stWSsrPostinc (fieldS1 w) (fieldS2 w)) := by
  have h1 : bitsOf w.toNat 4 4 = 0xC := by simp only [bitsOf] at *; omega
  have h0 : bitsOf w.toNat 0 4 = 0x0 := by simp only [bitsOf] at *; omega
  simp only [decodeForm, h1, decodeRowC, h0]

theorem decodeForm_C4 {w : Word} (h : bitsOf w.toNat 0 8 = 0xC4) :
    decodeForm w = some (.stASsro (fieldS1 w) (fieldOff4 w)) := by
  have h1 : bitsOf w.toNat 4 4 = 0xC := by simp only [bitsOf] at *; omega
  have h0 : bitsOf w.toNat 0 4 = 0x4 := by simp only [bitsOf] at *; omega
  simp only [decodeForm, h1, decodeRowC, h0]

theorem decodeForm_C6 {w : Word} (h : bitsOf w.toNat 0 8 = 0xC6) :
    decodeForm w = some (.stBSsro (fieldS1 w) (fieldOff4 w)) := by
  have h1 : bitsOf w.toNat 4 4 = 0xC := by simp only [bitsOf] at *; omega
  have h0 : bitsOf w.toNat 0 4 = 0x6 := by simp only [bitsOf] at *; omega
  simp only [decodeForm, h1, decodeRowC, h0]

theorem decodeForm_C8 {w : Word} (h : bitsOf w.toNat 0 8 = 0xC8) :
    decodeForm w = some (.stHSsro (fieldS1 w) (fieldOff4 w)) := by
  have h1 : bitsOf w.toNat 4 4 = 0xC := by simp only [bitsOf] at *; omega
  have h0 : bitsOf w.toNat 0 4 = 0x8 := by simp only [bitsOf] at *; omega
  simp only [decodeForm, h1, decodeRowC, h0]

theorem decodeForm_CA {w : Word} (h : bitsOf w.toNat 0 8 = 0xCA) :
    decodeForm w = some (.stWSsro (fieldS1 w) (fieldOff4 w)) := by
  have h1 : bitsOf w.toNat 4 4 = 0xC := by simp only [bitsOf] at *; omega
  have h0 : bitsOf w.toNat 0 4 = 0xA := by simp only [bitsOf] at *; omega
  simp only [decodeForm, h1, decodeRowC, h0]

end Sys2Proof.Laws
end

