-- ==== Sys2Proof/Laws/Invariant.lean ====
section
/-! SUPPORT. Laws/Invariant.lean: for every shared operation, that its next state keeps the invariant of Safety.lean and the special registers outside the context lists, so that a fact about every instruction is one line per meaning. -/

namespace Sys2Proof.Machine

open Sys2Proof

/-- `t` satisfies the invariant if `s` does, and LCX to TR1EVT, the range tables and the parameters are unchanged. -/
structure Keeps (s t : State) : Prop where
  inv : Inv s → Inv t
  sys : SystemKept s t

/-- Every next state of the outcome `o` keeps what `s` has. -/
def OutKeeps (s : State) (o : Out) : Prop := ∀ t, o = .next t → Keeps s t

theorem Keeps.refl (s : State) : Keeps s s := ⟨id, rfl, rfl, rfl, rfl⟩

theorem Keeps.trans {s t u : State} (h : Keeps s t) (k : Keeps t u) : Keeps s u :=
  ⟨fun i => k.inv (h.inv i), k.sys.1.trans h.sys.1, k.sys.2.1.trans h.sys.2.1, k.sys.2.2.1.trans h.sys.2.2.1,
    k.sys.2.2.2.trans h.sys.2.2.2⟩

theorem outKeeps_next {s t : State} (h : Keeps s t) : OutKeeps s (.next t) := by
  intro u hu; cases hu; exact h

theorem outKeeps_refused {s : State} (r : Refusal) : OutKeeps s (.refused r) := by intro u hu; cases hu

theorem outKeeps_fault {s : State} (f : Fault) : OutKeeps s (.fault f) := by intro u hu; cases hu

theorem OutKeeps.trans {s t : State} {o : Out} (h : Keeps s t) (k : OutKeeps t o) : OutKeeps s o :=
  fun u hu => h.trans (k u hu)

/-! ## Even addresses -/

theorem even_add {x y : Word} (hx : x.getLsbD 0 = false) (hy : y.getLsbD 0 = false) : (x + y).getLsbD 0 = false := by
  have h : ∀ z : Word, z.getLsbD 0 = decide (z.toNat % 2 = 1) := by
    intro z; rw [← BitVec.testBit_toNat, Nat.testBit_zero]
  rw [h] at *
  simp only [decide_eq_false_iff_not] at *
  rw [BitVec.toNat_add]
  omega

theorem relTarget24_even {pc : Word} (h : pc.getLsbD 0 = false) (d : BitVec 24) : (relTarget24 pc d).getLsbD 0 = false :=
  even_add h (by rw [BitVec.getLsbD_signExtend, BitVec.getLsbD_append]; simp)

theorem relTarget15_even {pc : Word} (h : pc.getLsbD 0 = false) (d : BitVec 15) : (relTarget15 pc d).getLsbD 0 = false :=
  even_add h (by rw [BitVec.getLsbD_signExtend, BitVec.getLsbD_append]; simp)

theorem relTarget8_even {pc : Word} (h : pc.getLsbD 0 = false) (d : BitVec 8) : (relTarget8 pc d).getLsbD 0 = false :=
  even_add h (by rw [BitVec.getLsbD_signExtend, BitVec.getLsbD_append]; simp)

theorem relTarget4_even {pc : Word} (h : pc.getLsbD 0 = false) (d : BitVec 4) : (relTarget4 pc d).getLsbD 0 = false :=
  even_add h (by rw [BitVec.getLsbD_setWidth, BitVec.getLsbD_append]; simp)

theorem loopTarget4_even {pc : Word} (h : pc.getLsbD 0 = false) (d : BitVec 4) :
    (loopTarget4 pc d).getLsbD 0 = false :=
  even_add h (by rw [BitVec.getLsbD_append]; simp)

theorem absTarget24_even (d : BitVec 24) : (absTarget24 d).getLsbD 0 = false := by
  unfold absTarget24; rw [BitVec.getLsbD_append]; simp

/-! ## The reserved bits -/

/-- A word and a mask have no bit in common if the bits of the mask are 0 in the word. -/
theorem and_eq_zero_of {x m : Word} (h : ∀ k, k < 32 → m.getLsbD k = true → x.getLsbD k = false) : x &&& m = 0 := by
  apply BitVec.eq_of_getLsbD_eq
  intro k hk
  rw [BitVec.getLsbD_and]
  cases hm : m.getLsbD k
  · simp
  · simp [h k hk hm]

/-- Of a word that has no bit in common with a mask, the bits of the mask are 0. -/
theorem getLsbD_of_and {x m : Word} (h : x &&& m = 0) {k : Nat} (hk : m.getLsbD k = true) : x.getLsbD k = false := by
  have := congrArg (fun y : Word => y.getLsbD k) h
  simpa [BitVec.getLsbD_and, hk] using this

/-- A word that agrees with one whose reserved bits are 0 on those bits has them 0 too. -/
theorem reserved_of_agree {x y m : Word} (h : x &&& m = 0)
    (hxy : ∀ k, k < 32 → m.getLsbD k = true → y.getLsbD k = x.getLsbD k) : y &&& m = 0 :=
  and_eq_zero_of fun k hk hm => (hxy k hk hm).trans (getLsbD_of_and h hm)

/-- The reserved bits of the PSW are the bits 14 to 26. -/
theorem pswReserved {k : Nat} (h : (0x07FFC000 : Word).getLsbD k = true) : 14 ≤ k ∧ k < 27 := by
  have hk : k < 32 := by
    by_contra hc; rw [BitVec.getLsbD_of_ge _ _ (by omega)] at h; cases h
  interval_cases k <;> first | exact ⟨by omega, by omega⟩ | (exact absurd h (by decide))

theorem pswReserved_of {x y : Word} (h : x &&& 0x07FFC000 = 0)
    (hxy : ∀ k, 14 ≤ k → k < 27 → y.getLsbD k = x.getLsbD k) : y &&& 0x07FFC000 = 0 :=
  reserved_of_agree h fun k _ hm => hxy k (pswReserved hm).1 (pswReserved hm).2

theorem setOverflow_reserved {x : Word} (v av : Bool) (h : x &&& 0x07FFC000 = 0) :
    Psw.setOverflow x v av &&& 0x07FFC000 = 0 :=
  pswReserved_of h fun _ _ h2 => Psw.getLsbD_setOverflow_low x v av (by omega)

theorem setC_reserved {x : Word} (b : Bool) (h : x &&& 0x07FFC000 = 0) : Psw.setC x b &&& 0x07FFC000 = 0 :=
  pswReserved_of h fun k _ h2 => by rw [Psw.getLsbD_setC, if_neg (by omega)]

theorem setV_reserved {x : Word} (v : Bool) (h : x &&& 0x07FFC000 = 0) : Psw.setV x v &&& 0x07FFC000 = 0 :=
  pswReserved_of h fun k _ h2 => by
    unfold Psw.setV
    rw [getLsbD_setBit _ _ _ _ (by omega), if_neg (by omega), getLsbD_setBit _ _ _ _ (by omega), if_neg (by omega)]

theorem clearOverflow_reserved {x : Word} (h : x &&& 0x07FFC000 = 0) : Psw.clearOverflow x &&& 0x07FFC000 = 0 :=
  pswReserved_of h fun k _ h2 => by
    unfold Psw.clearOverflow
    rw [getLsbD_setBit _ _ _ _ (by omega), if_neg (by omega), getLsbD_setBit _ _ _ _ (by omega), if_neg (by omega),
      getLsbD_setBit _ _ _ _ (by omega), if_neg (by omega), getLsbD_setBit _ _ _ _ (by omega), if_neg (by omega)]

theorem clearV_reserved {x : Word} (h : x &&& 0x07FFC000 = 0) : Psw.clearV x &&& 0x07FFC000 = 0 :=
  pswReserved_of h fun k _ h2 => by
    unfold Psw.clearV
    rw [getLsbD_setBit _ _ _ _ (by omega), if_neg (by omega)]

theorem afterCall_reserved {x : Word} (h : x &&& 0x07FFC000 = 0) : Psw.afterCall x &&& 0x07FFC000 = 0 :=
  pswReserved_of h fun k h1 h2 => by
    unfold Psw.afterCall
    rw [getLsbD_setBit _ _ _ _ (by omega), if_neg (by omega), getLsbD_setField _ _ _ _ _ (by omega), if_neg (by omega)]

theorem entry_reserved (x : Word) : Psw.entry x &&& 0x07FFC000 = 0 :=
  and_eq_zero_of fun k _ hm => by
    obtain ⟨h1, h2⟩ := pswReserved hm
    have := congrArg (fun y : BitVec 27 => y.getLsbD k) (Psw.entry_low x)
    simp only [BitVec.getLsbD_extractLsb', Nat.zero_add, h2, decide_true, Bool.true_and] at this
    rw [this]
    interval_cases k <;> rfl

theorem defined_reserved (x : Word) : Psw.defined x &&& 0x07FFC000 = 0 := by
  unfold Psw.defined
  rw [BitVec.and_assoc, show (0xF8003FFF : Word) &&& 0x07FFC000 = 0 from rfl]; exact BitVec.and_zero

theorem pcxiDefined_reserved (x : Word) : Pcxi.defined x &&& 0x00300000 = 0 := by
  unfold Pcxi.defined
  rw [BitVec.and_assoc, show (0xFFCFFFFF : Word) &&& 0x00300000 = 0 from rfl]; exact BitVec.and_zero

theorem pcxiAfterSave_reserved (icr fcx : Word) (upper : Bool) : pcxiAfterSave icr fcx upper &&& 0x00300000 = 0 :=
  and_eq_zero_of fun k hk hm => by
    obtain ⟨-, -, -, -, h⟩ := pcxiAfterSave_fields icr fcx upper
    have h20 : 20 ≤ k ∧ k < 22 := by
      interval_cases k <;> first | exact ⟨by omega, by omega⟩ | (exact absurd hm (by decide))
    have := congrArg (fun y : BitVec 2 => y.getLsbD (k - 20)) h
    simpa [BitVec.getLsbD_extractLsb', show k - 20 < 2 by omega, show 20 + (k - 20) = k by omega] using this

/-- The reserved bits of FCX and LCX are the bits 20 to 31. -/
theorem setField_fcx_reserved {x : Word} (v : BitVec 20) (h : x &&& 0xFFF00000 = 0) :
    setField x 0 20 v &&& 0xFFF00000 = 0 :=
  reserved_of_agree h fun k hk hm => by
    have h20 : 20 ≤ k := by
      by_contra hc
      have : k < 20 := by omega
      interval_cases k <;> exact absurd hm (by decide)
    rw [getLsbD_setField _ _ _ _ _ (by omega), if_neg (by omega)]

/-- The reserved bits of ICR lie above the bits that IE and CCPN take. -/
theorem setEnable_reserved {x : Word} (ie : Bool) (p : BitVec 8) (h : x &&& 0xFC00FE00 = 0) :
    Icr.setEnable x ie p &&& 0xFC00FE00 = 0 :=
  reserved_of_agree h fun k hk hm => by
    have h9 : 9 ≤ k := by
      by_contra hc
      have : k < 9 := by omega
      interval_cases k <;> exact absurd hm (by decide)
    exact (Icr.setEnable_fields x ie p).2.2 k h9

/-! ## Single updates -/

theorem keeps_setD (s : State) (c : Reg) (v : Word) : Keeps s (s.setD c v) := ⟨id, rfl, rfl, rfl, rfl⟩
theorem keeps_setE (s : State) (c : Reg) (v : DWord) : Keeps s (s.setE c v) := ⟨id, rfl, rfl, rfl, rfl⟩
theorem keeps_setA (s : State) (c : Reg) (v : Word) : Keeps s (s.setA c v) := ⟨id, rfl, rfl, rfl, rfl⟩
theorem keeps_setAPair (s : State) (c : Reg) (v : DWord) : Keeps s (s.setAPair c v) := ⟨id, rfl, rfl, rfl, rfl⟩
theorem keeps_setEnv (s : State) (e : Boundary) : Keeps s { s with env := e } := ⟨id, rfl, rfl, rfl, rfl⟩
theorem keeps_emit (s : State) (l : List HostOutput) : Keeps s (s.emit l) := ⟨id, rfl, rfl, rfl, rfl⟩
theorem keeps_signal (s : State) (k : Access) (x : Word) : Keeps s (s.signal k x) := ⟨id, rfl, rfl, rfl, rfl⟩
theorem keeps_drawFree (s : State) (n : Nat) : Keeps s (s.drawFree n) := ⟨id, rfl, rfl, rfl, rfl⟩
theorem keeps_loadUpper (s : State) (v : Nat) : Keeps s (s.loadUpper v) := ⟨id, rfl, rfl, rfl, rfl⟩
theorem keeps_loadLower (s : State) (v : Nat) : Keeps s (s.loadLower v) := ⟨id, rfl, rfl, rfl, rfl⟩

theorem keeps_setPc (s : State) (v : Word) (h : s.pc.getLsbD 0 = false → v.getLsbD 0 = false) : Keeps s (s.setPc v) :=
  ⟨fun ⟨m, p, x, f, l, i, y, c, e, r⟩ => ⟨m, p, x, f, l, i, y, c, h e, r⟩, rfl, rfl, rfl, rfl⟩

theorem keeps_setPsw (s : State) (v : Word) (h : s.psw &&& 0x07FFC000 = 0 → v &&& 0x07FFC000 = 0) :
    Keeps s (s.setPsw v) :=
  ⟨fun ⟨m, p, x, f, l, i, y, c, e, r⟩ => ⟨m, h p, x, f, l, i, y, c, e, r⟩, rfl, rfl, rfl, rfl⟩

theorem keeps_setMem (s : State) (m : List Host.Cell) (h : Memory.wf s.mem = true → Memory.wf m = true) :
    Keeps s (s.setMem m) :=
  ⟨fun ⟨m, p, x, f, l, i, y, c, e, r⟩ => ⟨h m, p, x, f, l, i, y, c, e, r⟩, rfl, rfl, rfl, rfl⟩

theorem keeps_setIcr (s : State) (v : Word) (h : s.icr &&& 0xFC00FE00 = 0 → v &&& 0xFC00FE00 = 0) :
    Keeps s (s.setIcr v) :=
  ⟨fun ⟨m, p, x, f, l, i, y, c, e, r⟩ => ⟨m, p, x, f, l, h i, y, c, e, r⟩, rfl, rfl, rfl, rfl⟩

theorem keeps_setLists (s : State) (pcxi fcx : Word) (hp : pcxi &&& 0x00300000 = 0)
    (hf : s.fcx &&& 0xFFF00000 = 0 → fcx &&& 0xFFF00000 = 0) : Keeps s (s.setLists pcxi fcx) :=
  ⟨fun ⟨m, p, _, f, l, i, y, c, e, r⟩ => ⟨m, p, hp, hf f, l, i, y, c, e, r⟩, rfl, rfl, rfl, rfl⟩

theorem keeps_advance (s : State) (len : Word) (h : len.getLsbD 0 = false) : Keeps s (s.advance len) :=
  keeps_setPc s _ fun e => even_add e h

/-! ## What the register instructions share -/

theorem keeps_putD (s : State) (c : Reg) (v len : Word) (h : len.getLsbD 0 = false) : Keeps s (s.putD c v len) :=
  (keeps_setD s c v).trans (keeps_advance _ len h)

theorem keeps_putE (s : State) (c : Reg) (v : DWord) (len : Word) (h : len.getLsbD 0 = false) :
    Keeps s (s.putE c v len) :=
  (keeps_setE s c v).trans (keeps_advance _ len h)

theorem keeps_putA (s : State) (c : Reg) (v len : Word) (h : len.getLsbD 0 = false) : Keeps s (s.putA c v len) :=
  (keeps_setA s c v).trans (keeps_advance _ len h)

theorem keeps_putResult (s : State) (c : Reg) (q : Result 32) (len : Word) (h : len.getLsbD 0 = false) :
    Keeps s (s.putResult c q len) :=
  ((keeps_setD s c q.value).trans (keeps_setPsw _ _ (setOverflow_reserved q.v q.av))).trans (keeps_advance _ len h)

theorem keeps_putResultE (s : State) (c : Reg) (q : Result 64) (len : Word) (h : len.getLsbD 0 = false) :
    Keeps s (s.putResultE c q len) :=
  ((keeps_setE s c q.value).trans (keeps_setPsw _ _ (setOverflow_reserved q.v q.av))).trans (keeps_advance _ len h)

theorem keeps_putResultC (s : State) (c : Reg) (q : Result 32) (b : Bool) (len : Word) (h : len.getLsbD 0 = false) :
    Keeps s (s.putResultC c q b len) :=
  ((keeps_setD s c q.value).trans
    (keeps_setPsw _ _ fun p => setC_reserved b (setOverflow_reserved q.v q.av p))).trans (keeps_advance _ len h)

theorem keeps_branchIf (s : State) (b : Bool) (target len : Word)
    (ht : s.pc.getLsbD 0 = false → target.getLsbD 0 = false) (h : len.getLsbD 0 = false) :
    Keeps s (s.branchIf b target len) :=
  keeps_setPc s _ fun e => by cases b <;> [exact even_add e h; exact ht e]

/-! ## Accesses -/

theorem keeps_afterRead (s : State) (kind : Option MemKind) (addr : Nat → Word) (n : Nat) :
    Keeps s (s.afterRead kind addr n) := by
  unfold State.afterRead
  split
  · exact Keeps.refl s
  · exact ⟨id, rfl, rfl, rfl, rfl⟩
  · exact ⟨id, rfl, rfl, rfl, rfl⟩

theorem keeps_writeValue (s : State) (kind : Option MemKind) (addr : Nat → Word) (n v : Nat) :
    Keeps s (s.writeValue kind addr n v) := by
  unfold State.writeValue
  split
  · exact keeps_setMem s _ fun h => Memory.writeBytes_wf addr v n h
  · exact ⟨id, rfl, rfl, rfl, rfl⟩
  · exact Keeps.refl s

theorem keeps_applyUpdate (s : State) (p : Place) : Keeps s (s.applyUpdate p) := by
  unfold State.applyUpdate
  split
  · exact Keeps.refl s
  · exact keeps_setA s _ _

/-! ## Contexts, traps and interrupts -/

theorem keeps_saveContext (s : State) (upper : Bool) : Keeps s (s.saveContext upper) := by
  have k := (keeps_afterRead s (csaKind s.cfg (csaAddress s.fcx)) (csaByte (csaAddress s.fcx)) 4).trans
    (keeps_writeValue _ (csaKind s.cfg (csaAddress s.fcx)) (csaByte (csaAddress s.fcx)) 64
      (blockValue (if upper then s.upperContext else s.lowerContext)))
  refine ⟨fun i => ?_, k.sys⟩
  obtain ⟨m, p, x, f, l, ic, y, c, e, r⟩ := k.inv i
  exact ⟨m, p, pcxiAfterSave_reserved _ _ _, setField_fcx_reserved _ i.2.2.2.1, l, ic, y, c, e, r⟩

theorem keeps_restoreContext (s : State) (upper : Bool) : Keeps s (s.restoreContext upper) := by
  unfold State.restoreContext
  simp only
  generalize s.readValue _ _ _ = v
  have k := (keeps_afterRead s (csaKind s.cfg (csaAddress s.pcxi)) (csaByte (csaAddress s.pcxi)) 64).trans
    (keeps_writeValue _ (csaKind s.cfg (csaAddress s.pcxi)) (csaByte (csaAddress s.pcxi)) 4 s.fcx.toNat)
  generalize State.writeValue _ _ _ 4 _ = t at *
  have h : Keeps s (t.setLists (Pcxi.defined (blockWord v 0)) (setField s.fcx 0 20 (pointer s.pcxi))) := by
    refine ⟨fun i => ?_, k.sys⟩
    obtain ⟨m, p, x, f, l, ic, y, c, e, r⟩ := k.inv i
    exact ⟨m, p, pcxiDefined_reserved _, setField_fcx_reserved _ i.2.2.2.1, l, ic, y, c, e, r⟩
  generalize State.setLists _ _ _ = u at *
  cases upper
  · exact (h.trans (keeps_setA u 11 _)).trans (keeps_loadLower _ v)
  · exact (h.trans (keeps_setPsw u _ fun _ => defined_reserved _)).trans (keeps_loadUpper _ v)

theorem keeps_enter (s : State) (ret : Word) (p : BitVec 8) : Keeps s (s.enter ret p) := by
  have k := keeps_saveContext s true
  obtain ⟨em, ep, ef, es, ei, ec, ed, eo, eg, -, -, -⟩ := enter_fields s ret p
  have epc : (s.enter ret p).pc = (s.saveContext true).pc := by
    unfold State.enter
    cases Psw.is s.psw <;> rfl
  refine ⟨fun i => ?_, ec.trans k.sys.1, ed.trans k.sys.2.1, eo.trans k.sys.2.2.1, eg.trans k.sys.2.2.2⟩
  have hi := i.2.2.2.2.2.1
  obtain ⟨m, pw, x, f, l, ic, y, c, e, r⟩ := k.inv i
  refine ⟨?_, ?_, ?_, ?_, ?_, ?_, ?_, ?_, ?_, ?_⟩
  · rw [em]; exact m
  · rw [es]; exact entry_reserved _
  · rw [ep]; exact x
  · rw [ef]; exact f
  · rw [ec]; exact l
  · rw [ei]; exact setEnable_reserved _ _ hi
  · rw [ec]; exact y
  · rw [eo]; exact c
  · rw [epc]; exact e
  · rw [eg]; exact r

theorem keeps_enterTrap (s : State) (x : Trap) (ret : Word) : Keeps s (s.enterTrap x ret) :=
  ((keeps_enter s ret _).trans (keeps_setD _ 15 _)).trans (keeps_setPc _ _ fun _ => evenTarget_even _)

theorem keeps_enterInterrupt (s : State) : Keeps s s.enterInterrupt :=
  ((keeps_enter s s.pc _).trans (keeps_setPc _ _ fun _ => evenTarget_even _)).trans (keeps_emit _ _)

theorem outKeeps_takeTraps (n : Nat) (s : State) (x : Trap) (ret : Word) : OutKeeps s (takeTraps n s x ret) := by
  induction n generalizing s x ret with
  | zero => exact outKeeps_fault _
  | succ n ih =>
    unfold takeTraps
    split
    · split
      · exact OutKeeps.trans (keeps_enterTrap s x ret) (ih _ _ _)
      · exact outKeeps_next (keeps_enterTrap s x ret)
    · exact outKeeps_fault _

theorem outKeeps_takeTrap (s : State) (x : Trap) (ret : Word) : OutKeeps s (takeTrap s x ret) :=
  outKeeps_takeTraps 3 s x ret

theorem outKeeps_raise (s : State) (x : Trap) : OutKeeps s (raise s x) := outKeeps_takeTrap s x s.pc

theorem outKeeps_takeInterrupt (s : State) : OutKeeps s (takeInterrupt s) := by
  unfold takeInterrupt
  split
  · split
    · exact OutKeeps.trans (keeps_enterInterrupt s) (outKeeps_takeTrap _ _ _)
    · exact outKeeps_next (keeps_enterInterrupt s)
  · exact outKeeps_fault _

theorem outKeeps_completeSave {s t : State} (h : Keeps s t) : OutKeeps s (completeSave s t) := by
  unfold completeSave
  split
  · exact OutKeeps.trans h (outKeeps_takeTrap _ _ _)
  · exact outKeeps_next h

theorem outKeeps_returnFrom (s : State) : OutKeeps s (returnFrom s) := by
  unfold returnFrom
  split
  · exact outKeeps_raise _ _
  · split
    · exact outKeeps_raise _ _
    · split
      · exact outKeeps_raise _ _
      · exact outKeeps_next ((((keeps_signal s _ _).trans (keeps_setIcr _ _ fun h => setEnable_reserved _ _ h)).trans
          (keeps_restoreContext _ true)).trans (keeps_setPc _ _ fun _ => evenTarget_even _))

/-! ## What the meanings share -/

theorem outKeeps_onPairs {s t : State} (ok : Bool) (h : Keeps s t) : OutKeeps s (onPairs s ok t) := by
  unfold onPairs
  split
  · exact outKeeps_next h
  · exact outKeeps_raise _ _

theorem outKeeps_onAddress {s t : State} (c : Reg) (h : Keeps s t) : OutKeeps s (onAddress s c t) := by
  unfold onAddress
  split
  · exact outKeeps_next h
  · exact outKeeps_raise _ _

theorem outKeeps_onQShift {s : State} (n : BitVec 2) {o : Out} (h : OutKeeps s o) : OutKeeps s (onQShift n o) := by
  unfold onQShift
  split
  · exact h
  · exact outKeeps_refused _

theorem outKeeps_loadOp (s : State) (m : AddrMode) (pairOk mayWrite : Bool) (align n : Nat) (len : Word)
    (put : State → Nat → State) (hl : len.getLsbD 0 = false) (hp : ∀ u v, Keeps u (put u v)) :
    OutKeeps s (loadOp s m pairOk mayWrite align n len put) := by
  unfold loadOp
  split
  · exact outKeeps_raise _ _
  · exact outKeeps_next (((((keeps_signal s _ _).trans (keeps_afterRead _ _ _ _)).trans (keeps_applyUpdate _ _)).trans
      (hp _ _)).trans (keeps_advance _ _ hl))

theorem outKeeps_storeOp (s : State) (m : AddrMode) (pairOk : Bool) (align n : Nat) (len : Word) (v : Nat)
    (hl : len.getLsbD 0 = false) : OutKeeps s (storeOp s m pairOk align n len v) := by
  unfold storeOp
  split
  · exact outKeeps_raise _ _
  · exact outKeeps_next ((((keeps_signal s _ _).trans (keeps_writeValue _ _ _ _ _)).trans
      (keeps_applyUpdate _ _)).trans (keeps_advance _ _ hl))

theorem outKeeps_modifyOp (s : State) (m : AddrMode) (pairOk mayWrite : Bool) (align n : Nat) (len : Word)
    (f : Nat → Nat) (put : State → Nat → State) (hl : len.getLsbD 0 = false) (hp : ∀ u v, Keeps u (put u v)) :
    OutKeeps s (modifyOp s m pairOk mayWrite align n len f put) := by
  unfold modifyOp
  split
  · exact outKeeps_raise _ _
  · exact outKeeps_next ((((((keeps_signal s _ _).trans (keeps_afterRead _ _ _ _)).trans
      (keeps_writeValue _ _ _ _ _)).trans (keeps_applyUpdate _ _)).trans (hp _ _)).trans (keeps_advance _ _ hl))

theorem outKeeps_leaOp (s : State) (m : AddrMode) (a : Reg) (len : Word) (hl : len.getLsbD 0 = false) :
    OutKeeps s (leaOp s m a len) := by
  unfold leaOp
  split
  · exact outKeeps_raise _ _
  · split
    · exact outKeeps_raise _ _
    · exact outKeeps_next (((keeps_applyUpdate s _).trans (keeps_setA _ _ _)).trans (keeps_advance _ _ hl))

theorem outKeeps_callOp (s : State) (target : Word) (h : s.pc.getLsbD 0 = false → target.getLsbD 0 = false) :
    OutKeeps s (callOp s target) := by
  unfold callOp
  split
  · exact outKeeps_raise _ _
  · split
    · exact outKeeps_raise _ _
    · split
      · exact outKeeps_raise _ _
      · refine outKeeps_completeSave ?_
        have k := ((keeps_signal s .modify (csaAddress s.fcx)).trans (keeps_saveContext _ true))
        refine ⟨fun i => ?_, k.sys⟩
        obtain ⟨m, p, x, f, l, ic, y, c, e, r⟩ := k.inv i
        exact ⟨m, afterCall_reserved i.2.1, x, f, l, ic, y, c, h i.2.2.2.2.2.2.2.2.1, r⟩

theorem outKeeps_retOp (s : State) : OutKeeps s (retOp s) := by
  unfold retOp
  split
  · exact outKeeps_raise _ _
  · exact outKeeps_returnFrom s

theorem outKeeps_rfeOp (s : State) : OutKeeps s (rfeOp s) := by
  unfold rfeOp
  split
  · exact outKeeps_raise _ _
  · exact outKeeps_returnFrom s

theorem outKeeps_loopOp (s : State) (r : Reg) (target len : Word)
    (h : s.pc.getLsbD 0 = false → target.getLsbD 0 = false) (hl : len.getLsbD 0 = false) :
    OutKeeps s (loopOp s r target len) := by
  unfold loopOp
  split
  · exact outKeeps_next (keeps_advance _ _ hl)
  · exact outKeeps_onAddress _ ((keeps_setA s _ _).trans (keeps_setPc _ _ h))

theorem outKeeps_saveLowerOp (s : State) (icr len : Word) (h : s.icr &&& 0xFC00FE00 = 0 → icr &&& 0xFC00FE00 = 0)
    (hl : len.getLsbD 0 = false) : OutKeeps s (saveLowerOp s icr len) := by
  unfold saveLowerOp
  split
  · exact outKeeps_raise _ _
  · split
    · exact outKeeps_raise _ _
    · refine outKeeps_completeSave ?_
      have k := (keeps_signal s .modify (csaAddress s.fcx)).trans (keeps_saveContext _ false)
      generalize State.saveContext _ false = t at *
      have k' : Keeps s (t.setIcr icr) := by
        refine ⟨fun i => ?_, k.sys⟩
        obtain ⟨m, p, x, f, l, ic, y, c, e, r⟩ := k.inv i
        exact ⟨m, p, x, f, l, h i.2.2.2.2.2.1, y, c, e, r⟩
      exact k'.trans (keeps_advance _ _ hl)

theorem outKeeps_bisrOp (s : State) (n : BitVec 8) (len : Word) (hl : len.getLsbD 0 = false) :
    OutKeeps s (bisrOp s n len) := by
  unfold bisrOp
  split
  · exact outKeeps_saveLowerOp s _ _ (fun h => setEnable_reserved _ _ h) hl
  · exact outKeeps_raise _ _

theorem outKeeps_restoreLowerOp (s : State) : OutKeeps s (restoreLowerOp s) := by
  unfold restoreLowerOp
  split
  · exact outKeeps_raise _ _
  · split
    · exact outKeeps_raise _ _
    · split
      · exact outKeeps_raise _ _
      · exact outKeeps_next (((keeps_signal s _ _).trans (keeps_restoreContext _ false)).trans (keeps_advance _ _ rfl))

theorem outKeeps_enableOp (s : State) (ie : Bool) : OutKeeps s (enableOp s ie) := by
  unfold enableOp
  split
  · exact outKeeps_raise _ _
  · exact outKeeps_next ((keeps_setIcr s _ fun h => setEnable_reserved _ _ h).trans (keeps_advance _ _ rfl))

theorem keeps_debugOp (s : State) (len : Word) (hl : len.getLsbD 0 = false) : Keeps s (debugOp s len) := by
  unfold debugOp
  split
  · exact (keeps_emit s _).trans (keeps_advance _ _ hl)
  · exact keeps_advance s _ hl

theorem outKeeps_divideInitOp (s : State) (c a b : Reg) (shift : Nat) (signed : Bool) :
    OutKeeps s (divideInitOp s c a b shift signed) :=
  outKeeps_onPairs _ (((keeps_setE s _ _).trans (keeps_setPsw _ _ (setV_reserved _))).trans (keeps_advance _ _ rfl))

/-! ## Writes to the special registers (49 R902) -/

/-- A field that a mask cuts has no bit outside the mask. -/
theorem masked_reserved (x m r : Word) (h : m &&& r = 0) : x &&& m &&& r = 0 := by
  rw [BitVec.and_assoc, h]; exact BitVec.and_zero

theorem updateSets_modes {sets : List (List RangeEntry)} {q : RangeAddr} (hq : q.code = true) (v : Word)
    (h : ∀ set, set ∈ sets → ∀ e, e ∈ set → e.mode &&& 0x56 = 0) :
    ∀ set, set ∈ updateSets sets q v → ∀ e, e ∈ set → e.mode &&& 0x56 = 0 := by
  intro set hs e he
  unfold updateSets at hs
  obtain ⟨j, hj⟩ := List.mem_iff_getElem?.1 hs
  rw [List.getElem?_modify] at hj
  cases h1 : sets[j]? with
  | none => rw [h1] at hj; cases hj
  | some old =>
    have hold := List.mem_iff_getElem?.2 ⟨j, h1⟩
    rw [h1] at hj
    by_cases hjq : q.set = j
    · have : set = old.modify q.num fun e => e.update q.code q.part v := by
        have := Option.some.inj hj; simp only [if_pos hjq] at this; exact this.symm
      subst this
      obtain ⟨n, hn⟩ := List.mem_iff_getElem?.1 he
      rw [List.getElem?_modify] at hn
      cases h2 : old[n]? with
      | none => rw [h2] at hn; cases hn
      | some e0 =>
        have he0 := h old hold e0 (List.mem_iff_getElem?.2 ⟨n, h2⟩)
        rw [h2] at hn
        have hn := Option.some.inj hn
        split at hn
        · subst hn
          unfold RangeEntry.update
          rw [hq]
          split
          · exact he0
          · exact he0
          · show (BitVec.setWidth 8 v &&& 0xA9) &&& 0x56 = 0
            rw [BitVec.and_assoc, show (0xA9 : BitVec 8) &&& 0x56 = 0 from rfl]; exact BitVec.and_zero
        · subst hn; exact he0
    · have : set = old := by
        have := Option.some.inj hj; simp only [if_neg hjq] at this; exact this.symm
      subst this
      exact h set hold e he

/-- A write to a special register keeps the invariant (10 R58, R74, R81, R83, R95, R105, R124). -/
theorem inv_putCsfr (s : State) (q : CsfrName) (w : Word) (i : Inv s) : Inv (s.putCsfr q w) := by
  obtain ⟨m, p, x, f, l, ic, y, c, e, r⟩ := i
  cases q with
  | pcxi => exact ⟨m, p, pcxiDefined_reserved _, f, l, ic, y, c, e, r⟩
  | psw => exact ⟨m, defined_reserved _, x, f, l, ic, y, c, e, r⟩
  | fcx => exact ⟨m, p, x, masked_reserved _ _ _ rfl, l, ic, y, c, e, r⟩
  | lcx => exact ⟨m, p, x, f, masked_reserved _ _ _ rfl, ic, y, c, e, r⟩
  | icr =>
    refine ⟨m, p, x, f, l, ?_, y, c, e, r⟩
    show (s.icr &&& 0x00FF0000 ||| w &&& 0x030001FF) &&& 0xFC00FE00 = 0
    rw [BitVec.and_or_distrib_right, masked_reserved _ _ _ rfl, masked_reserved _ _ _ rfl]; rfl
  | syscon =>
    refine ⟨m, p, x, f, l, ic, ?_, c, e, r⟩
    show (w &&& 3 ||| s.csfr.syscon &&& 1) &&& 0xFFFFFFFC = 0
    rw [BitVec.and_or_distrib_right, masked_reserved _ _ _ rfl, masked_reserved _ _ _ rfl]; rfl
  | range q =>
    unfold State.putCsfr State.writeRange
    simp only
    split
    · rename_i hq
      exact ⟨m, p, x, f, l, ic, y, updateSets_modes hq _ c, e, r⟩
    · exact ⟨m, p, x, f, l, ic, y, c, e, r⟩
  | pc | isp | biv | btv | pmucon | dmucon | dbgsr | gprwb | exevt | swevt | crevt | tr0evt | tr1evt =>
    exact ⟨m, p, x, f, l, ic, y, c, e, r⟩

theorem inv_writeCsfr (s : State) (off : BitVec 16) (v : Word) (i : Inv s) : Inv (s.writeCsfr off v) := by
  unfold State.writeCsfr
  split
  · exact inv_putCsfr s _ _ i
  · exact i

end Sys2Proof.Machine
end

