-- ==== Sys2Proof/Laws/LoadStore.lean ====
section
/-! SUPPORT. Laws/LoadStore.lean: the shared operations of the loads, stores, read-modify-writes and LEA in the words of Safety.lean (spec/48_load_store.md rule R802, R803): one lemma per operation that says everything it can do. -/

namespace Sys2Proof.Machine

open Sys2Proof

/-! ## The boundary and the memory of an access -/

theorem signal_env (s : State) (k : Access) (x : Word) :
    (s.signal k x).env = { s.env with outputs := accessSignals s k x ++ s.env.outputs } := by
  cases k <;> rfl

theorem freeBytes_lt (start n : Nat) : freeBytes start n < 256 ^ n := by
  induction n with
  | zero => simp [freeBytes]
  | succ n ih =>
    have := (Config.freeByte (start + n)).isLt
    rw [freeBytes, pow_succ]
    generalize freeBytes start n = f at *
    generalize (Config.freeByte (start + n)).toNat = b at *
    nlinarith

theorem loadValue_lt (s : State) (p : Place) (n : Nat) : s.loadValue p n < 256 ^ n := by
  unfold State.loadValue State.readValue
  split
  · exact Memory.readBytes_lt _ _ _
  · exact freeBytes_lt _ _
  · exact freeBytes_lt _ _

/-- The state after the read of an access: only the boundary changes. -/
theorem afterRead_kept (s : State) (kind : Option MemKind) (addr : Nat → Word) (n : Nat) :
    (∀ r, (s.afterRead kind addr n).getD r = s.getD r) ∧ (∀ r, (s.afterRead kind addr n).getA r = s.getA r) ∧
    (s.afterRead kind addr n).pc = s.pc ∧ ControlKept s (s.afterRead kind addr n) ∧
    (s.afterRead kind addr n).mem = s.mem := by
  unfold State.afterRead
  split
  · exact ⟨fun _ => rfl, fun _ => rfl, rfl, ⟨rfl, ⟨rfl, rfl⟩, rfl, rfl, rfl, rfl, rfl⟩, rfl⟩
  · exact ⟨fun _ => rfl, fun _ => rfl, rfl, ⟨rfl, ⟨rfl, rfl⟩, rfl, rfl, rfl, rfl, rfl⟩, rfl⟩
  · exact ⟨fun _ => rfl, fun _ => rfl, rfl, ⟨rfl, ⟨rfl, rfl⟩, rfl, rfl, rfl, rfl, rfl⟩, rfl⟩

/-- The state after the write of an access: only the memory or the boundary changes. -/
theorem writeValue_kept (s : State) (kind : Option MemKind) (addr : Nat → Word) (n v : Nat) :
    (∀ r, (s.writeValue kind addr n v).getD r = s.getD r) ∧ (∀ r, (s.writeValue kind addr n v).getA r = s.getA r) ∧
    (s.writeValue kind addr n v).pc = s.pc ∧ ControlKept s (s.writeValue kind addr n v) ∧
    (s.writeValue kind addr n v).mem =
      (if kind = some .storage then Memory.writeBytes s.mem addr v n else s.mem) := by
  unfold State.writeValue
  split
  · exact ⟨fun _ => rfl, fun _ => rfl, rfl, ⟨rfl, ⟨rfl, rfl⟩, rfl, rfl, rfl, rfl, rfl⟩, rfl⟩
  · exact ⟨fun _ => rfl, fun _ => rfl, rfl, ⟨rfl, ⟨rfl, rfl⟩, rfl, rfl, rfl, rfl, rfl⟩, rfl⟩
  · exact ⟨fun _ => rfl, fun _ => rfl, rfl, ⟨rfl, ⟨rfl, rfl⟩, rfl, rfl, rfl, rfl, rfl⟩, rfl⟩

theorem applyUpdate_kept (s : State) (p : Place) :
    (∀ r, (s.applyUpdate p).getD r = s.getD r) ∧ (s.applyUpdate p).pc = s.pc ∧ ControlKept s (s.applyUpdate p) ∧
    (s.applyUpdate p).mem = s.mem ∧ (s.applyUpdate p).env = s.env := by
  unfold State.applyUpdate
  split
  · exact ⟨fun _ => rfl, rfl, ⟨rfl, ⟨rfl, rfl⟩, rfl, rfl, rfl, rfl, rfl⟩, rfl, rfl⟩
  · exact ⟨fun _ => rfl, rfl, ⟨rfl, ⟨rfl, rfl⟩, rfl, rfl, rfl, rfl, rfl⟩, rfl, rfl⟩

/-- The address registers after the update of a mode, from a state with the address registers of `s`. -/
theorem getA_applyUpdate (s t : State) (p : Place) (h : ∀ r, t.getA r = s.getA r) (r : Reg) :
    (t.applyUpdate p).getA r = Updated s p r := by
  unfold State.applyUpdate Updated
  cases hu : p.update with
  | none => exact h r
  | some q => obtain ⟨c, v⟩ := q; simp only [State.getA_setA, h]

theorem ControlKept.trans {s t u : State} (h : ControlKept s t) (h' : ControlKept t u) : ControlKept s u := by
  obtain ⟨a, ⟨b, c⟩, d, e, f, g, i⟩ := h
  obtain ⟨a', ⟨b', c'⟩, d', e', f', g', i'⟩ := h'
  exact ⟨a'.trans a, ⟨b'.trans b, c'.trans c⟩, d'.trans d, e'.trans e, f'.trans f, g'.trans g, i'.trans i⟩

theorem signal_kept (s : State) (k : Access) (x : Word) : ControlKept s (s.signal k x) :=
  ⟨rfl, ⟨rfl, rfl⟩, rfl, rfl, rfl, rfl, rfl⟩

theorem boundaryAfter_congr {s t u : State} {k : Access} {p : Place} {n v : Nat} (h : u.env = t.env)
    (hb : BoundaryAfter s t k p n v) : BoundaryAfter s u k p n v := by
  unfold BoundaryAfter HostKept at *; rw [h]; exact hb

/-- What an access leaves at the boundary. -/
theorem boundaryAfter_of (s t : State) (k : Access) (p : Place) (n v : Nat)
    (h : t.env = (match k with
      | .read => s.afterLoad p n
      | .write => s.afterStore p n v
      | .modify => s.afterModify p n v).env) : BoundaryAfter s t k p n v := by
  unfold BoundaryAfter HostKept
  rw [h]
  unfold State.afterLoad State.afterStore State.afterModify deviceEvents State.afterRead State.writeValue
  cases k with
  | read =>
    rcases hm : memKind s.cfg p.ea with _ | _ | _
    · exact ⟨⟨rfl, rfl, rfl⟩, rfl, rfl⟩
    · exact ⟨⟨rfl, rfl, rfl⟩, rfl, rfl⟩
    · exact ⟨⟨rfl, rfl, rfl⟩, rfl, rfl⟩
  | write =>
    rcases hm : memKind s.cfg p.ea with _ | _ | _
    · exact ⟨⟨rfl, rfl, rfl⟩, rfl, rfl⟩
    · exact ⟨⟨rfl, rfl, rfl⟩, rfl, rfl⟩
    · exact ⟨⟨rfl, rfl, rfl⟩, rfl, rfl⟩
  | modify =>
    rcases hm : memKind s.cfg p.ea with _ | _ | _
    · exact ⟨⟨rfl, rfl, rfl⟩, rfl, rfl⟩
    · exact ⟨⟨rfl, rfl, rfl⟩, rfl, rfl⟩
    · exact ⟨⟨rfl, rfl, rfl⟩, rfl, rfl⟩

/-- The addresses of the bytes of an access that passes its checks differ from one another (20 R169). -/
theorem byteAddr_inj (s : State) (m : AddrMode) {n : Nat} (hn : 0 < n) (hn' : n ≤ 64)
    (hr : ∀ r, (m.place s).ring = some r → r.base.toNat % n = 0 ∧ r.len % n = 0) :
    ∀ i < n, ∀ j < n, (m.place s).byteAddr n i = (m.place s).byteAddr n j → i = j := by
  intro i hi j hj
  have key : ∀ x : Word, x + BitVec.ofNat 32 i = x + BitVec.ofNat 32 j → i = j := fun x h => csaByte_inj x hn' i hi j hj h
  unfold Place.byteAddr
  cases h : (m.place s).ring with
  | none => exact key _
  | some r =>
    simp only
    have hlen : r.len < 2 ^ 16 := by
      cases m with
      | circ b off =>
        simp only [AddrMode.place, Option.some.injEq] at h
        rw [← h]
        exact (hiHalf (s.getA (b + 1))).isLt
      | _ => simp [AddrMode.place] at h
    split
    · rename_i hc
      intro e
      rw [BitVec.add_right_inj] at e
      have e' := congrArg BitVec.toNat e
      have hd := (hr r h).2
      have hl : n ≤ r.len := Nat.le_of_dvd (by omega) (Nat.dvd_of_mod_eq_zero hd)
      have hi' : (r.index + i) % r.len = if r.index + i < r.len then r.index + i else r.index + i - r.len := by
        split
        · exact Nat.mod_eq_of_lt (by omega)
        · rw [Nat.mod_eq_sub_mod (by omega)]; exact Nat.mod_eq_of_lt (by omega)
      have hj' : (r.index + j) % r.len = if r.index + j < r.len then r.index + j else r.index + j - r.len := by
        split
        · exact Nat.mod_eq_of_lt (by omega)
        · rw [Nat.mod_eq_sub_mod (by omega)]; exact Nat.mod_eq_of_lt (by omega)
      rw [hi', hj', BitVec.toNat_ofNat, BitVec.toNat_ofNat] at e'
      split at e' <;> split at e' <;> omega
    · exact key _

/-- The bytes of memory after an access that writes. -/
theorem storedAt_of (s t : State) (m : AddrMode) {n : Nat} (v : Nat) (hn : 0 < n) (hn' : n ≤ 64)
    (hr : ∀ r, (m.place s).ring = some r → r.base.toNat % n = 0 ∧ r.len % n = 0)
    (h : t.mem = if memKind s.cfg (m.place s).ea = some .storage
      then Memory.writeBytes s.mem ((m.place s).byteAddr n) v n else s.mem) : StoredAt s t (m.place s) n v := by
  unfold StoredAt
  rw [h]
  by_cases hk : memKind s.cfg (m.place s).ea = some .storage
  · rw [if_pos hk]
    refine ⟨fun x hx => Memory.read_writeBytes_other s.mem _ v n x (hx hk), fun _ hw k hk' => ?_⟩
    exact Memory.read_writeBytes_at hw _ v n k hk' (byteAddr_inj s m hn hn' hr)
  · rw [if_neg hk]
    exact ⟨fun _ _ => rfl, fun h' => absurd h' hk⟩

/-! ## The shared operations -/

theorem afterLoad_kept (s : State) (p : Place) (n : Nat) :
    (∀ r, (s.afterLoad p n).getD r = s.getD r) ∧ (∀ r, (s.afterLoad p n).getA r = s.getA r) ∧
    (s.afterLoad p n).pc = s.pc ∧ ControlKept s (s.afterLoad p n) ∧ (s.afterLoad p n).mem = s.mem := by
  obtain ⟨h1, h2, h3, h4, h5⟩ := afterRead_kept (s.signal .read p.ea) (memKind s.cfg p.ea) (p.byteAddr n) n
  exact ⟨h1, h2, h3, (signal_kept s _ _).trans h4, h5⟩

theorem afterStore_kept (s : State) (p : Place) (n v : Nat) :
    (∀ r, (s.afterStore p n v).getD r = s.getD r) ∧ (∀ r, (s.afterStore p n v).getA r = s.getA r) ∧
    (s.afterStore p n v).pc = s.pc ∧ ControlKept s (s.afterStore p n v) ∧
    (s.afterStore p n v).mem =
      (if memKind s.cfg p.ea = some .storage then Memory.writeBytes s.mem (p.byteAddr n) v n else s.mem) := by
  obtain ⟨h1, h2, h3, h4, h5⟩ := writeValue_kept (s.signal .write p.ea) (memKind s.cfg p.ea) (p.byteAddr n) n v
  exact ⟨h1, h2, h3, (signal_kept s _ _).trans h4, h5⟩

theorem afterModify_kept (s : State) (p : Place) (n v : Nat) :
    (∀ r, (s.afterModify p n v).getD r = s.getD r) ∧ (∀ r, (s.afterModify p n v).getA r = s.getA r) ∧
    (s.afterModify p n v).pc = s.pc ∧ ControlKept s (s.afterModify p n v) ∧
    (s.afterModify p n v).mem =
      (if memKind s.cfg p.ea = some .storage then Memory.writeBytes s.mem (p.byteAddr n) v n else s.mem) := by
  obtain ⟨h1, h2, h3, h4, h5⟩ := afterRead_kept (s.signal .modify p.ea) (memKind s.cfg p.ea) (p.byteAddr n) n
  unfold State.afterModify
  generalize State.afterRead _ _ _ _ = u at *
  obtain ⟨g1, g2, g3, g4, g5⟩ := writeValue_kept u (memKind s.cfg p.ea) (p.byteAddr n) n v
  refine ⟨fun r => (g1 r).trans (h1 r), fun r => (g2 r).trans (h2 r), g3.trans h3,
    ((signal_kept s _ _).trans h4).trans g4, ?_⟩
  rw [g5, h5]; rfl

theorem pairOk_nil : (true = true) ↔ ∀ r, r ∈ ([] : List Reg) → ¬ IsOdd r := by simp
theorem mayWrite_nil (s : State) : (true = true) ↔ ∀ r, r ∈ ([] : List Reg) → MayWriteA s r := by simp

theorem isPair_iff (r : Reg) : Reg.isPair r = true ↔ ¬ IsOdd r := by
  unfold Reg.isPair IsOdd
  simp

theorem pairOk_one (c : Reg) : Reg.isPair c = true ↔ ∀ r, r ∈ [c] → ¬ IsOdd r := by
  simp [isPair_iff]

theorem mayWrite_one (s : State) (c : Reg) : s.mayWriteA c = true ↔ ∀ r, r ∈ [c] → MayWriteA s r := by
  simp [mayWriteA_iff]

theorem mayWrite_two (s : State) (c : Reg) :
    (s.mayWriteA c && s.mayWriteA (c + 1)) = true ↔ ∀ r, r ∈ [c, c + 1] → MayWriteA s r := by
  simp [mayWriteA_iff]

/-- A load (48 R802): it completes or takes the first trap. `put` writes registers only, as `regs` says. -/
theorem loadForm_of {i : Instr} {s : State} {m : AddrMode} {pairOk mayWrite : Bool} {pairs writes : List Reg}
    {align n : Nat} {len : Word} {put : State → Nat → State} {regs : Nat → State → Prop}
    (h : exec i s = loadOp s m pairOk mayWrite align n len put)
    (hp : pairOk = true ↔ ∀ r, r ∈ pairs → ¬ IsOdd r) (hw : mayWrite = true ↔ ∀ r, r ∈ writes → MayWriteA s r)
    (hregs : ∀ u, (∀ r, u.getD r = s.getD r) → (∀ r, u.getA r = Updated s (m.place s) r) → u.cfg = s.cfg →
      regs (s.loadValue (m.place s) n) (put u (s.loadValue (m.place s) n)))
    (hregs' : ∀ u v len, regs v u → regs v (u.advance len))
    (hput : ∀ u v, (put u v).pc = u.pc ∧ ControlKept u (put u v) ∧ (put u v).mem = u.mem ∧ (put u v).env = u.env) :
    LoadForm i s m pairs writes align n len regs := by
  unfold LoadForm
  unfold loadOp at h
  rcases operandTrap_spec s .read m pairs writes align n pairOk mayWrite hp hw with ⟨e, hok⟩ | ⟨x, e, hno, hf⟩
  · rw [e] at h
    refine ⟨fun _ => ⟨_, h, ?_⟩, fun hno => absurd hok hno⟩
    obtain ⟨a1, a2, a3, a4, a5⟩ := afterLoad_kept s (m.place s) n
    have b := boundaryAfter_of s (s.afterLoad (m.place s) n) .read (m.place s) n 0 rfl
    generalize s.afterLoad (m.place s) n = t at *
    obtain ⟨b1, b3, b4, b5, b6⟩ := applyUpdate_kept t (m.place s)
    have b2 := getA_applyUpdate s t (m.place s) a2
    generalize t.applyUpdate (m.place s) = u at *
    have hr := hregs u (fun r => (b1 r).trans (a1 r)) b2 (a4.trans b4).2.2.2.2.2.2
    obtain ⟨c1, c2, c3, c4⟩ := hput u (s.loadValue (m.place s) n)
    generalize put u (s.loadValue (m.place s) n) = w at *
    refine ⟨hregs' _ _ _ hr, (a4.trans b4).trans c2, fun x => ?_, ?_, ?_⟩
    · show Memory.read w.mem x = _
      rw [c3, b5, a5]
    · show w.pc + len = _
      rw [c1, b3, a3]
    · exact boundaryAfter_congr (c4.trans b6) b
  · rw [e] at h
    exact ⟨fun hok => absurd hok hno, fun _ => ⟨x, hf, h⟩⟩

/-- A store (48 R803): it completes or takes the first trap. -/
theorem storeForm_of {i : Instr} {s : State} {m : AddrMode} {pairOk : Bool} {pairs : List Reg} {align n : Nat}
    {len : Word} {v : Nat} (h : exec i s = storeOp s m pairOk align n len v)
    (hp : pairOk = true ↔ ∀ r, r ∈ pairs → ¬ IsOdd r) (hn : 0 < n) (hn' : n ≤ 64) :
    StoreForm i s m pairs align n len v := by
  unfold StoreForm
  unfold storeOp at h
  rcases operandTrap_spec s .write m pairs [] align n pairOk true hp (mayWrite_nil s) with ⟨e, hok⟩ | ⟨x, e, hno, hf⟩
  · rw [e] at h
    refine ⟨fun _ => ⟨_, h, ?_⟩, fun hno => absurd hok hno⟩
    obtain ⟨a1, a2, a3, a4, a5⟩ := afterStore_kept s (m.place s) n v
    have b := boundaryAfter_of s (s.afterStore (m.place s) n v) .write (m.place s) n v rfl
    generalize s.afterStore (m.place s) n v = t at *
    obtain ⟨b1, b3, b4, b5, b6⟩ := applyUpdate_kept t (m.place s)
    have b2 := getA_applyUpdate s t (m.place s) a2
    generalize t.applyUpdate (m.place s) = u at *
    refine ⟨fun r => (b1 r).trans (a1 r), b2, a4.trans b4, ?_, ?_, ?_⟩
    · exact storedAt_of s _ m v hn hn' hok.2.2.2.2.1 (b5.trans a5)
    · show u.pc + len = _
      rw [b3, a3]
    · exact boundaryAfter_congr b6 b
  · rw [e] at h
    exact ⟨fun hok => absurd hok hno, fun _ => ⟨x, hf, h⟩⟩

/-- A read-modify-write (48 R803): it completes or takes the first trap. -/
theorem modifyForm_of {i : Instr} {s : State} {m : AddrMode} {pairOk mayWrite : Bool} {pairs writes : List Reg}
    {align n : Nat} {f : Nat → Nat} {put : State → Nat → State} {regs : Nat → State → Prop}
    (h : exec i s = modifyOp s m pairOk mayWrite align n 4 f put)
    (hp : pairOk = true ↔ ∀ r, r ∈ pairs → ¬ IsOdd r) (hw : mayWrite = true ↔ ∀ r, r ∈ writes → MayWriteA s r)
    (hn : 0 < n) (hn' : n ≤ 64)
    (hregs : ∀ u, (∀ r, u.getD r = s.getD r) → (∀ r, u.getA r = Updated s (m.place s) r) →
      regs (s.loadValue (m.place s) n) (put u (s.loadValue (m.place s) n)))
    (hregs' : ∀ u v len, regs v u → regs v (u.advance len))
    (hput : ∀ u v, (put u v).pc = u.pc ∧ ControlKept u (put u v) ∧ (put u v).mem = u.mem ∧ (put u v).env = u.env) :
    ModifyForm i s m pairs writes align n f regs := by
  unfold ModifyForm
  unfold modifyOp at h
  rcases operandTrap_spec s .modify m pairs writes align n pairOk mayWrite hp hw with ⟨e, hok⟩ | ⟨x, e, hno, hf⟩
  · rw [e] at h
    refine ⟨fun _ => ⟨_, h, ?_⟩, fun hno => absurd hok hno⟩
    obtain ⟨a1, a2, a3, a4, a5⟩ := afterModify_kept s (m.place s) n (f (s.loadValue (m.place s) n))
    have b := boundaryAfter_of s (s.afterModify (m.place s) n (f (s.loadValue (m.place s) n))) .modify (m.place s) n
      (f (s.loadValue (m.place s) n)) rfl
    generalize s.afterModify (m.place s) n (f (s.loadValue (m.place s) n)) = t at *
    obtain ⟨b1, b3, b4, b5, b6⟩ := applyUpdate_kept t (m.place s)
    have b2 := getA_applyUpdate s t (m.place s) a2
    generalize t.applyUpdate (m.place s) = u at *
    have hr := hregs u (fun r => (b1 r).trans (a1 r)) b2
    obtain ⟨c1, c2, c3, c4⟩ := hput u (s.loadValue (m.place s) n)
    generalize put u (s.loadValue (m.place s) n) = w at *
    refine ⟨hregs' _ _ _ hr, (a4.trans b4).trans c2, ?_, ?_, ?_⟩
    · exact storedAt_of s _ m _ hn hn' hok.2.2.2.2.1 ((c3.trans b5).trans a5)
    · show w.pc + 4 = _
      rw [c1, b3, a3]
    · exact boundaryAfter_congr (c4.trans b6) b
  · rw [e] at h
    exact ⟨fun hok => absurd hok hno, fun _ => ⟨x, hf, h⟩⟩

/-- LEA (48 R830): it completes or takes OPD or GRWP. -/
theorem leaForm_of {i : Instr} {s : State} {m : AddrMode} {c : Reg} (h : exec i s = leaOp s m c 4) : LeaForm i s m c := by
  have hu := mayUpdate_iff s (m.place s)
  have hw := mayWrite_one s c
  unfold LeaForm
  unfold leaOp at h
  have hup : (s.mayWriteA c && s.mayUpdate (m.place s)) = true ↔ UpdateOk s (m.place s) [c] := by
    rw [Bool.and_eq_true, hu, hw]; rfl
  refine ⟨fun ⟨hp, hk⟩ => ?_, fun hp => ?_, fun ⟨hp, hk⟩ => ?_⟩
  · rw [hp, if_neg (by simp), hup.2 hk, if_neg (by simp)] at h
    refine ⟨_, h, ?_⟩
    obtain ⟨b1, b3, ⟨b41, b42, b43, b44⟩, b5, b6⟩ := applyUpdate_kept s (m.place s)
    have b2 := getA_applyUpdate s s (m.place s) (fun _ => rfl)
    generalize s.applyUpdate (m.place s) = u at *
    refine ⟨b1, fun r => ?_, b41, ?_, b42, b43, b44, fun x => ?_, b6⟩
    · rw [State.getA_advance, State.getA_setA, b2]
    · show u.pc + 4 = _
      rw [b3]
    · show Memory.read u.mem x = _
      rw [b5]
  · rw [hp, if_pos (by simp)] at h; exact h
  · rw [hp, if_neg (by simp), if_pos] at h
    · exact h
    · rw [Bool.not_eq_true', ← Bool.not_eq_true, hup]; exact hk

/-! ## The forms of the instructions -/

/-- A load into a data register (48 R802). -/
theorem loadsData_of {i : Instr} {s : State} {m : AddrMode} {align n : Nat} {len : Word} {c : Reg} {f g : Nat → Word}
  (h : exec i s = loadOp s m true true align n len (fun u v => u.setD c (g v))) (hg : ∀ v, g v = f v) : LoadsData i s m align n len c f := by
  refine loadForm_of h pairOk_nil (mayWrite_nil s) ?_ ?_ ?_
  · intro u hd ha _
    refine ⟨fun r => ?_, fun r => ?_⟩
    · rw [State.getD_setD, hd, hg]
    · rw [State.getA_setD, ha]
  · intro u v len h; exact h
  · intro u v; exact ⟨rfl, ⟨rfl, ⟨rfl, rfl⟩, rfl, rfl, rfl, rfl, rfl⟩, rfl, rfl⟩

/-- A load into an address register (48 R805). -/
theorem loadsAddress_of {i : Instr} {s : State} {m : AddrMode} {len : Word} {c : Reg}
  (h : exec i s = loadOp s m true (s.mayWriteA c) s.cfg.align.ldA 4 len (fun u v => u.setA c (BitVec.ofNat 32 v))) : LoadsAddress i s m len c := by
  refine loadForm_of h pairOk_nil (mayWrite_one s c) ?_ ?_ ?_
  · intro u hd ha _
    refine ⟨fun r => ?_, fun r => ?_⟩
    · rw [State.getD_setA, hd]
    · rw [State.getA_setA, ha]
  · intro u v len h; exact h
  · intro u v; exact ⟨rfl, ⟨rfl, ⟨rfl, rfl⟩, rfl, rfl, rfl, rfl, rfl⟩, rfl, rfl⟩

/-- A load into a data register pair (48 R808). -/
theorem loadsPair_of {i : Instr} {s : State} {m : AddrMode} {c : Reg}
  (h : exec i s = loadOp s m (Reg.isPair c) true s.cfg.align.ldD 8 4 (fun u v => u.setE c (BitVec.ofNat 64 v))) : LoadsPair i s m c := by
  refine loadForm_of h (pairOk_one c) (mayWrite_nil s) ?_ ?_ ?_
  · intro u hd ha _
    refine ⟨fun r => ?_, fun r => ?_⟩
    · rw [State.getD_setE, hd]
    · rw [State.getA_setE, ha]
  · intro u v len h; exact h
  · intro u v; exact ⟨rfl, ⟨rfl, ⟨rfl, rfl⟩, rfl, rfl, rfl, rfl, rfl⟩, rfl, rfl⟩

/-- A load into an address register pair (48 R809). -/
theorem loadsAddressPair_of {i : Instr} {s : State} {m : AddrMode} {c : Reg}
  (h : exec i s = loadOp s m (Reg.isPair c) (s.mayWriteA c && s.mayWriteA (c + 1)) s.cfg.align.ldDa 8 4 (fun u v => u.setAPair c (BitVec.ofNat 64 v))) : LoadsAddressPair i s m c := by
  refine loadForm_of h (pairOk_one c) (mayWrite_two s c) ?_ ?_ ?_
  · intro u hd ha _
    have hl := loadValue_lt s (m.place s) 8
    generalize s.loadValue (m.place s) 8 = v at *
    refine ⟨fun r => ?_, fun r => ?_⟩
    · rw [State.getD_setAPair, hd]
    · rw [State.getA_setAPair, ha]
      congr 1
      · apply BitVec.eq_of_toNat_eq; rw [BitVec.extractLsb'_toNat, Nat.shiftRight_eq_div_pow]; simp; omega
      · congr 1; apply BitVec.eq_of_toNat_eq; rw [BitVec.extractLsb'_toNat]; simp
  · intro u v len h; exact h
  · intro u v; exact ⟨rfl, ⟨rfl, ⟨rfl, rfl⟩, rfl, rfl, rfl, rfl, rfl⟩, rfl, rfl⟩

/-- LDUCX (49 R877): the upper context from the block at EA. -/
theorem loadsUpper_of {i : Instr} {s : State} {m : AddrMode} (hu : (m.place s).update = none)
    (h : exec i s = loadOp s m true true 64 64 4 (fun u v => u.loadUpper v)) :
    LoadForm i s m [] [] 64 64 4 (fun v t => UpperLoaded s t fun k => BitVec.ofNat 32 (v / 2 ^ (32 * k))) := by
  refine loadForm_of h pairOk_nil (mayWrite_nil s) ?_ ?_ ?_
  · intro u hd ha hc
    have ha' : ∀ r, u.getA r = s.getA r := fun r => by rw [ha, Updated, hu]
    exact ⟨fun r => by rw [State.getD_loadUpper, hd, hc]; rfl, fun r => by rw [State.getA_loadUpper, ha', hc]; rfl⟩
  · intro u v len h; exact h
  · intro u v; exact ⟨rfl, ⟨rfl, ⟨rfl, rfl⟩, rfl, rfl, rfl, rfl, rfl⟩, rfl, rfl⟩

/-- LDLCX (49 R879): the lower context from the block at EA. -/
theorem loadsLower_of {i : Instr} {s : State} {m : AddrMode} (hu : (m.place s).update = none)
    (h : exec i s = loadOp s m true true 64 64 4 (fun u v => u.loadLower v)) :
    LoadForm i s m [] [] 64 64 4 (fun v t => LowerLoaded s t fun k => BitVec.ofNat 32 (v / 2 ^ (32 * k))) := by
  refine loadForm_of h pairOk_nil (mayWrite_nil s) ?_ ?_ ?_
  · intro u hd ha hc
    have ha' : ∀ r, u.getA r = s.getA r := fun r => by rw [ha, Updated, hu]
    exact ⟨fun r => by rw [State.getD_loadLower, hd, hc]; rfl, fun r => by rw [State.getA_loadLower, ha', hc]; rfl⟩
  · intro u v len h; exact h
  · intro u v; exact ⟨rfl, ⟨rfl, ⟨rfl, rfl⟩, rfl, rfl, rfl, rfl, rfl⟩, rfl, rfl⟩

/-- A read-modify-write that writes no register (48 R821, R822). -/
theorem modifiesData_of {i : Instr} {s : State} {m : AddrMode} {pairOk : Bool} {pairs : List Reg} {align n : Nat} {f : Nat → Nat}
  (h : exec i s = modifyOp s m pairOk true align n 4 f (fun u _ => u))
    (hp : pairOk = true ↔ ∀ r, r ∈ pairs → ¬ IsOdd r) (hn : 0 < n) (hn' : n ≤ 64) : ModifiesData i s m pairs align n f (fun _ t => DataKept s t) := by
  refine modifyForm_of h hp (mayWrite_nil s) hn hn' ?_ ?_ ?_
  · intro u hd ha; exact ⟨hd, ha⟩
  · intro u v len h; exact h
  · intro u v; exact ⟨rfl, ⟨rfl, ⟨rfl, rfl⟩, rfl, rfl, rfl, rfl, rfl⟩, rfl, rfl⟩

/-- SWAP.W (48 R824). -/
theorem swapsData_of {i : Instr} {s : State} {m : AddrMode} {a : Reg} 
  (h : exec i s = modifyOp s m true true s.cfg.align.swapW 4 4 (fun _ => (s.getD a).toNat) (fun u v => u.setD a (BitVec.ofNat 32 v))) : ModifiesData i s m [] s.cfg.align.swapW 4 (fun _ => (s.getD a).toNat) (fun v t => DataIs s t a (BitVec.ofNat 32 v)) := by
  refine modifyForm_of h pairOk_nil (mayWrite_nil s) (by omega) (by omega) ?_ ?_ ?_
  · intro u hd ha; exact ⟨fun r => by rw [State.getD_setD, hd], ha⟩
  · intro u v len h; exact h
  · intro u v; exact ⟨rfl, ⟨rfl, ⟨rfl, rfl⟩, rfl, rfl, rfl, rfl, rfl⟩, rfl, rfl⟩

/-- SWAP.A (48 R823). -/
theorem swapsAddress_of {i : Instr} {s : State} {m : AddrMode} {a : Reg} 
  (h : exec i s = modifyOp s m true (s.mayWriteA a) s.cfg.align.swapA 4 4 (fun _ => (s.getA a).toNat) (fun u v => u.setA a (BitVec.ofNat 32 v))) : SwapsAddress i s m a := by
  refine modifyForm_of h pairOk_nil (mayWrite_one s a) (by omega) (by omega) ?_ ?_ ?_
  · intro u hd ha; exact ⟨hd, fun r => by rw [State.getA_setA, ha]⟩
  · intro u v len h; exact h
  · intro u v; exact ⟨rfl, ⟨rfl, ⟨rfl, rfl⟩, rfl, rfl, rfl, rfl, rfl⟩, rfl, rfl⟩

end Sys2Proof.Machine
end

