-- ==== Sys2Proof/Tests/Slice0.lean ====
section
/-! SUPPORT. Tests/Slice0.lean: the tests of this model: ill-formed terms, a word of every row of spec/opcode_table.json, vectors of spec/95_test_vectors.md to spec/99_vectors_encoding_memory_division.md, and the witnesses that the hypotheses of the statements are met. -/

namespace Sys2Proof.Tests

open Sys2Proof Sys2Proof.Machine

-- The evaluations below run one after another: side by side they would need a thread each.
set_option Elab.async false

/-! ## WellFormed -/

/-- Each check refuses a term: an odd pair operand, a shift of 2 or 3, one at a time. -/
theorem test_illFormed_1 : ([
    .ldDaAbs 5 0, .ldDAbs 5 0, .ldmstAbs 5 0, .stDaAbs 5 0, .stDAbs 5 0, .ldABoCirc 0 5 0, .ldABoBrev 0 5,
    .ldBBoCirc 0 5 0, .ldBBoBrev 0 5, .ldBuBoCirc 0 5 0, .ldBuBoBrev 0 5, .ldDBoShort 5 0 0,
    .ldDBoPreinc 5 0 0, .ldDBoPostinc 5 0 0, .ldDBoCirc 5 4 0, .ldDBoCirc 4 5 0, .ldDBoBrev 5 4,
    .ldDBoBrev 4 5, .ldDaBoShort 5 0 0, .ldDaBoPreinc 5 0 0, .ldDaBoPostinc 5 0 0, .ldDaBoCirc 5 4 0,
    .ldDaBoCirc 4 5 0, .ldDaBoBrev 5 4, .ldDaBoBrev 4 5, .ldHBoCirc 0 5 0, .ldHBoBrev 0 5, .ldHuBoCirc 0 5 0,
    .ldHuBoBrev 0 5, .ldQBoCirc 0 5 0, .ldQBoBrev 0 5, .ldWBoCirc 0 5 0, .ldWBoBrev 0 5, .ldmstBoShort 5 0 0,
    .ldmstBoPreinc 5 0 0, .ldmstBoPostinc 5 0 0, .ldmstBoCirc 5 4 0, .ldmstBoCirc 4 5 0, .ldmstBoBrev 5 4,
    .ldmstBoBrev 4 5, .leaBoCirc 0 5 0, .leaBoBrev 0 5, .stABoCirc 0 5 0, .stABoBrev 0 5, .stBBoCirc 0 5 0,
    .stBBoBrev 0 5, .stDBoShort 5 0 0, .stDBoPreinc 5 0 0, .stDBoPostinc 5 0 0, .stDBoCirc 5 4 0,
    .stDBoCirc 4 5 0, .stDBoBrev 5 4, .stDBoBrev 4 5, .stDaBoShort 5 0 0, .stDaBoPreinc 5 0 0,
    .stDaBoPostinc 5 0 0, .stDaBoCirc 5 4 0, .stDaBoCirc 4 5 0, .stDaBoBrev 5 4, .stDaBoBrev 4 5,
    .stHBoCirc 0 5 0, .stHBoBrev 0 5, .stQBoCirc 0 5 0, .stQBoBrev 0 5, .stWBoCirc 0 5 0] : List Instr).all (fun i => !i.wellFormed) = true := by decide

/-- Each check refuses a term: an odd pair operand, a shift of 2 or 3, one at a time. -/
theorem test_illFormed_2 : ([
    .stWBoBrev 0 5, .swapABoCirc 0 5 0, .swapABoBrev 0 5, .swapWBoCirc 0 5 0, .swapWBoBrev 0 5,
    .mulmURc 5 0 0, .mulmRc 5 0 0, .imaskRcpw 5 0 0 0, .maddmURcr 5 4 0 0, .maddmURcr 4 5 0 0,
    .maddmsURcr 5 4 0 0, .maddmsURcr 4 5 0 0, .maddmsRcr 5 4 0 0, .maddmsRcr 4 5 0 0, .maddmRcr 5 4 0 0,
    .maddmRcr 4 5 0 0, .msubmURcr 5 4 0 0, .msubmURcr 4 5 0 0, .msubmsURcr 5 4 0 0, .msubmsURcr 4 5 0 0,
    .msubmsRcr 5 4 0 0, .msubmsRcr 4 5 0 0, .msubmRcr 5 4 0 0, .msubmRcr 4 5 0 0, .insertRcrr 0 0 0 5,
    .imaskRcrw 5 0 0 0, .dvinitBuRr 5 0 0, .dvinitBRr 5 0 0, .dvinitHuRr 5 0 0, .dvinitHRr 5 0 0,
    .dvinitURr 5 0 0, .dvinitRr 5 0 0, .mulHRr 5 0 0 1, .mulHRr 4 0 0 2, .mulHRr 4 0 0 3, .mulQRr 0 0 0 2,
    .mulQRr 0 0 0 3, .mulmURr 5 0 0, .mulmRr 5 0 0, .mulrHRr 0 0 0 2, .mulrHRr 0 0 0 3, .mulrQRr 0 0 0 2,
    .mulrQRr 0 0 0 3, .imaskRrpw 5 0 0 0, .dvadjRrr 5 4 0, .dvadjRrr 4 5 0, .dvstepURrr 5 4 0,
    .dvstepURrr 4 5 0, .dvstepRrr 5 4 0, .dvstepRrr 4 5 0, .maddHRrr 5 4 0 0 1, .maddHRrr 4 5 0 0 1,
    .maddHRrr 4 4 0 0 2, .maddHRrr 4 4 0 0 3, .maddQRrr 0 0 0 0 2, .maddQRrr 0 0 0 0 3, .maddmHRrr 5 4 0 0,
    .maddmHRrr 4 5 0 0, .maddmQRrr 5 4 0 0, .maddmQRrr 4 5 0 0, .maddmURrr 5 4 0 0, .maddmURrr 4 5 0 0,
    .maddmsURrr 5 4 0 0, .maddmsURrr 4 5 0 0, .maddmsRrr 5 4 0 0] : List Instr).all (fun i => !i.wellFormed) = true := by decide

/-- Each check refuses a term: an odd pair operand, a shift of 2 or 3, one at a time. -/
theorem test_illFormed_3 : ([
    .maddmsRrr 4 5 0 0, .maddmRrr 5 4 0 0, .maddmRrr 4 5 0 0, .maddrHRrr 0 5 0 0 1, .maddrHRrr 0 4 0 0 2,
    .maddrHRrr 0 4 0 0 3, .maddrQRrr 0 0 0 0 2, .maddrQRrr 0 0 0 0 3, .maddrsHRrr 0 5 0 0 1,
    .maddrsHRrr 0 4 0 0 2, .maddrsHRrr 0 4 0 0 3, .maddrsQRrr 0 0 0 0 2, .maddrsQRrr 0 0 0 0 3,
    .maddsHRrr 5 4 0 0 1, .maddsHRrr 4 5 0 0 1, .maddsHRrr 4 4 0 0 2, .maddsHRrr 4 4 0 0 3,
    .maddsQRrr 0 0 0 0 2, .maddsQRrr 0 0 0 0 3, .msubHRrr 5 4 0 0 1, .msubHRrr 4 5 0 0 1, .msubHRrr 4 4 0 0 2,
    .msubHRrr 4 4 0 0 3, .msubQRrr 0 0 0 0 2, .msubQRrr 0 0 0 0 3, .msubmHRrr 5 4 0 0, .msubmHRrr 4 5 0 0,
    .msubmQRrr 5 4 0 0, .msubmQRrr 4 5 0 0, .msubmURrr 5 4 0 0, .msubmURrr 4 5 0 0, .msubmsURrr 5 4 0 0,
    .msubmsURrr 4 5 0 0, .msubmsRrr 5 4 0 0, .msubmsRrr 4 5 0 0, .msubmRrr 5 4 0 0, .msubmRrr 4 5 0 0,
    .msubrHRrr 0 5 0 0 1, .msubrHRrr 0 4 0 0 2, .msubrHRrr 0 4 0 0 3, .msubrQRrr 0 0 0 0 2,
    .msubrQRrr 0 0 0 0 3, .msubrsHRrr 0 5 0 0 1, .msubrsHRrr 0 4 0 0 2, .msubrsHRrr 0 4 0 0 3,
    .msubrsQRrr 0 0 0 0 2, .msubrsQRrr 0 0 0 0 3, .msubsHRrr 5 4 0 0 1, .msubsHRrr 4 5 0 0 1,
    .msubsHRrr 4 4 0 0 2, .msubsHRrr 4 4 0 0 3, .msubsQRrr 0 0 0 0 2, .msubsQRrr 0 0 0 0 3, .extrURrrr 0 0 5,
    .extrRrrr 0 0 5, .insertRrrr 0 0 0 5, .imaskRrrw 5 0 0 0, .dvadjSrr 5 0, .dvstepUSrr 5 0, .dvstepSrr 5 0] : List Instr).all (fun i => !i.wellFormed) = true := by decide

/-- The same forms with even pairs and a shift of 1 pass. -/
theorem test_wellFormed_1 : ([
    .ldDaAbs 14 1, .ldDAbs 14 1, .ldmstAbs 14 1, .stDaAbs 14 1, .stDAbs 14 1, .ldABoCirc 1 14 1,
    .ldABoBrev 1 14, .ldBBoCirc 1 14 1, .ldBBoBrev 1 14, .ldBuBoCirc 1 14 1, .ldBuBoBrev 1 14,
    .ldDBoShort 14 1 1, .ldDBoPreinc 14 1 1, .ldDBoPostinc 14 1 1, .ldDBoCirc 14 14 1, .ldDBoBrev 14 14,
    .ldDaBoShort 14 1 1, .ldDaBoPreinc 14 1 1, .ldDaBoPostinc 14 1 1, .ldDaBoCirc 14 14 1, .ldDaBoBrev 14 14,
    .ldHBoCirc 1 14 1, .ldHBoBrev 1 14, .ldHuBoCirc 1 14 1, .ldHuBoBrev 1 14, .ldQBoCirc 1 14 1,
    .ldQBoBrev 1 14, .ldWBoCirc 1 14 1, .ldWBoBrev 1 14, .ldmstBoShort 14 1 1, .ldmstBoPreinc 14 1 1,
    .ldmstBoPostinc 14 1 1, .ldmstBoCirc 14 14 1, .ldmstBoBrev 14 14, .leaBoCirc 1 14 1, .leaBoBrev 1 14,
    .stABoCirc 1 14 1, .stABoBrev 1 14, .stBBoCirc 1 14 1, .stBBoBrev 1 14, .stDBoShort 14 1 1,
    .stDBoPreinc 14 1 1, .stDBoPostinc 14 1 1, .stDBoCirc 14 14 1, .stDBoBrev 14 14, .stDaBoShort 14 1 1,
    .stDaBoPreinc 14 1 1, .stDaBoPostinc 14 1 1, .stDaBoCirc 14 14 1, .stDaBoBrev 14 14, .stHBoCirc 1 14 1,
    .stHBoBrev 1 14, .stQBoCirc 1 14 1, .stQBoBrev 1 14, .stWBoCirc 1 14 1, .stWBoBrev 1 14,
    .swapABoCirc 1 14 1, .swapABoBrev 1 14, .swapWBoCirc 1 14 1, .swapWBoBrev 1 14, .mulmURc 14 1 1,
    .mulmRc 14 1 1, .imaskRcpw 14 1 1 1, .maddmURcr 14 14 1 1, .maddmsURcr 14 14 1 1] : List Instr).all Instr.wellFormed = true := by decide

/-- The same forms with even pairs and a shift of 1 pass. -/
theorem test_wellFormed_2 : ([
    .maddmsRcr 14 14 1 1, .maddmRcr 14 14 1 1, .msubmURcr 14 14 1 1, .msubmsURcr 14 14 1 1,
    .msubmsRcr 14 14 1 1, .msubmRcr 14 14 1 1, .insertRcrr 1 1 1 14, .imaskRcrw 14 1 1 1, .dvinitBuRr 14 1 1,
    .dvinitBRr 14 1 1, .dvinitHuRr 14 1 1, .dvinitHRr 14 1 1, .dvinitURr 14 1 1, .dvinitRr 14 1 1,
    .mulHRr 14 1 1 1, .mulQRr 1 1 1 1, .mulmURr 14 1 1, .mulmRr 14 1 1, .mulrHRr 1 1 1 1, .mulrQRr 1 1 1 1,
    .imaskRrpw 14 1 1 1, .dvadjRrr 14 14 1, .dvstepURrr 14 14 1, .dvstepRrr 14 14 1, .maddHRrr 14 14 1 1 1,
    .maddQRrr 1 1 1 1 1, .maddmHRrr 14 14 1 1, .maddmQRrr 14 14 1 1, .maddmURrr 14 14 1 1,
    .maddmsURrr 14 14 1 1, .maddmsRrr 14 14 1 1, .maddmRrr 14 14 1 1, .maddrHRrr 1 14 1 1 1,
    .maddrQRrr 1 1 1 1 1, .maddrsHRrr 1 14 1 1 1, .maddrsQRrr 1 1 1 1 1, .maddsHRrr 14 14 1 1 1,
    .maddsQRrr 1 1 1 1 1, .msubHRrr 14 14 1 1 1, .msubQRrr 1 1 1 1 1, .msubmHRrr 14 14 1 1,
    .msubmQRrr 14 14 1 1, .msubmURrr 14 14 1 1, .msubmsURrr 14 14 1 1, .msubmsRrr 14 14 1 1,
    .msubmRrr 14 14 1 1, .msubrHRrr 1 14 1 1 1, .msubrQRrr 1 1 1 1 1, .msubrsHRrr 1 14 1 1 1,
    .msubrsQRrr 1 1 1 1 1, .msubsHRrr 14 14 1 1 1, .msubsQRrr 1 1 1 1 1, .extrURrrr 1 1 14, .extrRrrr 1 1 14,
    .insertRrrr 1 1 1 14, .imaskRrrw 14 1 1 1, .dvadjSrr 14 1, .dvstepUSrr 14 1, .dvstepSrr 14 1] : List Instr).all Instr.wellFormed = true := by decide

/-! ## Decode

For every row of spec/opcode_table.json one word, made of the row's match value and of field values placed by its field list,
with the top bit of every field set; the unused fields are filled too (30 R224). -/

/-- Every word decodes to the instruction beside it. -/
def decodesTo (bits : Nat) : List (Nat × Instr) → Prop
  | [] => True
  | r :: rest => decodeTableWord bits r.1 = some r.2 ∧ decodesTo bits rest

theorem test_decode_brn : decodesTo 32 [
    (0x480CD881, .jnzTBrn 8 29 0x480c),
    (0xC343F981, .jzTBrn 9 31 0x4343)] :=
  ⟨rfl, rfl, trivial⟩

theorem test_decode_abs : decodesTo 32 [
    (0xA2C19B03, .ldAAbs 11 0x26e81),
    (0x548F9C03, .ldBuAbs 12 0x2494f),
    (0xEAF1BA03, .ldBAbs 10 0x2efb1),
    (0xAF54BD03, .ldDaAbs 13 0x2f694),
    (0xF002AB05, .ldDAbs 11 0x283c2),
    (0x261BC805, .ldHuAbs 8 0x3209b),
    (0xAA12EA05, .ldHAbs 10 0x3a292),
    (0x5DDA9E05, .ldQAbs 14 0x25d5a),
    (0xD194AF07, .ldWAbs 15 0x29b54),
    (0x8685EB07, .ldlcxAbs 0x3aa05),
    (0xDA009F07, .ldmstAbs 15 0x26340),
    (0x5F9DD807, .lducxAbs 0x3795d),
    (0xD356C809, .leaAbs 8 0x33756),
    (0xC7738B09, .stAAbs 11 0x23733),
    (0x1B04A909, .stBAbs 9 0x2b044),
    (0x1E8ABA09, .stDaAbs 10 0x2e84a),
    (0xA2788E0B, .stDAbs 14 0x226b8),
    (0x7584AC0B, .stHAbs 12 0x299c4),
    (0xD80CEB0B, .stQAbs 11 0x3834c),
    (0xBC40AC0B, .stWAbs 12 0x286c0),
    (0x10338C0D, .stlcxAbs 0x20073),
    (0xC75EF90D, .stucxAbs 0x3f71e),
    (0x6AE3CB0D, .swapAAbs 11 0x32da3),
    (0xDC94AC0D, .swapWAbs 12 0x28b54)] :=
  ⟨rfl, rfl, rfl, rfl, rfl, rfl, rfl, rfl, rfl, rfl, rfl, rfl, rfl, rfl, rfl, rfl, rfl, rfl, rfl, rfl, rfl, rfl, rfl, rfl, trivial⟩

theorem test_decode_absb : decodesTo 32 [
    (0x5348FF0F, .stTAbsb 0x3f548 7 1)] :=
  ⟨rfl, trivial⟩

theorem test_decode_b : decodesTo 32 [
    (0x9C329811, .callaB 0x989c32),
    (0xA333D813, .callB 0xd8a333),
    (0x35729C15, .jaB 0x9c3572),
    (0x7A0C8317, .jlaB 0x837a0c),
    (0x81D99F19, .jlB 0x9f81d9),
    (0x435EEA1B, .jB 0xea435e)] :=
  ⟨rfl, rfl, rfl, rfl, rfl, rfl, trivial⟩

theorem test_decode_bit : decodesTo 32 [
    (0xEC95FF1D, .andAndTBit 14 15 21 15 25),
    (0xFB3A9D1D, .andAndnTBit 15 13 26 9 22),
    (0xAAD48F1D, .andNorTBit 10 15 20 8 21),
    (0xF876BB1D, .andOrTBit 15 11 22 11 16),
    (0xBF17F91F, .andTBit 11 9 23 15 30),
    (0xEFB9EF1F, .andnTBit 14 15 25 14 31),
    (0xFC5EEC1F, .insTBit 15 12 30 14 24),
    (0x8D7ADF1F, .insnTBit 8 15 26 13 26),
    (0x8F16BF21, .nandTBit 8 15 22 11 30),
    (0x993B8B21, .norTBit 9 11 27 8 18),
    (0xFE5CBC21, .orAndTBit 15 12 28 11 28),
    (0xE8F6DB21, .orAndnTBit 14 11 22 13 17),
    (0xDA18DA23, .orNorTBit 13 10 24 13 20),
    (0xD83FCB23, .orOrTBit 13 11 31 12 16),
    (0x8BD7FA23, .orTBit 8 10 23 15 23),
    (0x8B7C8F23, .ornTBit 8 15 28 8 22),
    (0x9C93AD25, .shAndTBit 9 13 19 10 25),
    (0xAFB8FF25, .shAndnTBit 10 15 24 15 31),
    (0xBC5E9D25, .shNandTBit 11 13 30 9 24),
    (0xBF7A9D25, .shNorTBit 11 13 26 9 30),
    (0xBF128A27, .shOrTBit 11 10 18 8 30),
    (0xB93FDF27, .shOrnTBit 11 15 31 13 18),
    (0xBE59CF27, .shXnorTBit 11 15 25 12 28),
    (0xACFE8C27, .shXorTBit 10 12 30 8 25),
    (0xAC19B929, .xnorTBit 10 9 25 11 24),
    (0xCFB0E829, .xorTBit 12 8 16 14 31)] :=
  ⟨rfl, rfl, rfl, rfl, rfl, rfl, rfl, rfl, rfl, rfl, rfl, rfl, rfl, rfl, rfl, rfl, rfl, rfl, rfl, rfl, rfl, rfl, rfl, rfl, rfl, rfl, trivial⟩

theorem test_decode_bo_1 : decodesTo 32 [
    (0x8024DB2B, .ldABoShort 11 13 0x224),
    (0x92229E2B, .ldABoPreinc 14 9 0x262),
    (0x940FBA2B, .ldABoPostinc 10 11 0x24f),
    (0xB624DC2B, .ldABoCirc 12 13 0x2e4),
    (0xA811BA2B, .ldABoBrev 10 11),
    (0xA07FE82B, .ldBBoShort 8 14 0x2bf),
    (0x9241EF2B, .ldBBoPreinc 15 14 0x241),
    (0x84609B2B, .ldBBoPostinc 11 9 0x220),
    (0xF64D882B, .ldBBoCirc 8 8 0x3cd),
    (0xC857AA2B, .ldBBoBrev 10 10),
    (0x8082EF2B, .ldBuBoShort 15 14 0x202),
    (0xD29AB92B, .ldBuBoPreinc 9 11 0x35a),
    (0xF484BF2B, .ldBuBoPostinc 15 11 0x3c4),
    (0xA69CBC2B, .ldBuBoCirc 12 11 0x29c),
    (0xA899BA2B, .ldBuBoBrev 10 11),
    (0xE0E09D2B, .ldDBoShort 13 9 0x3a0),
    (0xE2CDB92B, .ldDBoPreinc 9 11 0x38d),
    (0xA4C99C2B, .ldDBoPostinc 12 9 0x289),
    (0xA6EFDB2B, .ldDBoCirc 11 13 0x2af),
    (0xF8DA8A2B, .ldDBoBrev 10 8),
    (0xA128EB2B, .ldDaBoShort 11 14 0x2a8),
    (0x930E8F2B, .ldDaBoPreinc 15 8 0x24e),
    (0xA504CB2B, .ldDaBoPostinc 11 12 0x284),
    (0xF72ADC2B, .ldDaBoCirc 12 13 0x3ea),
    (0x9928982B, .ldDaBoBrev 8 9),
    (0x91459B2B, .ldHBoShort 11 9 0x245),
    (0xA366FA2B, .ldHBoPreinc 10 15 0x2a6),
    (0xC55FFF2B, .ldHBoPostinc 15 15 0x31f),
    (0x9759AC2B, .ldHBoCirc 12 10 0x259),
    (0xF957DE2B, .ldHBoBrev 14 13),
    (0xB190EE2B, .ldHuBoShort 14 14 0x2d0),
    (0xA389ED2B, .ldHuBoPreinc 13 14 0x289),
    (0xB5938E2B, .ldHuBoPostinc 14 8 0x2d3),
    (0xD7B3EE2B, .ldHuBoCirc 14 14 0x373),
    (0x99B0EA2B, .ldHuBoBrev 10 14),
    (0xE1DFCC2B, .ldQBoShort 12 12 0x39f),
    (0xB3D78F2B, .ldQBoPreinc 15 8 0x2d7),
    (0xD5F6D82B, .ldQBoPostinc 8 13 0x376),
    (0xC7FBD92B, .ldQBoCirc 9 13 0x33b),
    (0xB9D5DC2B, .ldQBoBrev 12 13)] :=
  ⟨rfl, rfl, rfl, rfl, rfl, rfl, rfl, rfl, rfl, rfl, rfl, rfl, rfl, rfl, rfl, rfl, rfl, rfl, rfl, rfl, rfl, rfl, rfl, rfl, rfl, rfl, rfl, rfl, rfl, rfl, rfl, rfl, rfl, rfl, rfl, rfl, rfl, rfl, rfl, rfl, trivial⟩

theorem test_decode_bo_2 : decodesTo 32 [
    (0xC012FF2D, .ldWBoShort 15 15 0x312),
    (0xD2158D2D, .ldWBoPreinc 13 8 0x355),
    (0xB424982D, .ldWBoPostinc 8 9 0x2e4),
    (0x8622AB2D, .ldWBoCirc 11 10 0x222),
    (0xB80BEB2D, .ldWBoBrev 11 14),
    (0xB0459A2D, .ldlcxBoShort 9 0x2c5),
    (0x80989C2D, .ldmstBoShort 12 9 0x218),
    (0x928ABF2D, .ldmstBoPreinc 15 11 0x24a),
    (0xA4A9DA2D, .ldmstBoPostinc 10 13 0x2a9),
    (0x9686FA2D, .ldmstBoCirc 10 15 0x246),
    (0xA88F8B2D, .ldmstBoBrev 11 8),
    (0xB0DDC82D, .lducxBoShort 12 0x2dd),
    (0xE124B82D, .leaBoShort 8 11 0x3a4),
    (0x93319D2D, .leaBoPreinc 13 9 0x271),
    (0xB5029D2D, .leaBoPostinc 13 9 0x2c2),
    (0xB70ADD2D, .leaBoCirc 13 13 0x2ca),
    (0xF911992D, .leaBoBrev 9 9),
    (0x915EE82D, .stABoShort 8 14 0x25e),
    (0x9369C92D, .stABoPreinc 9 12 0x269),
    (0xD56FA82D, .stABoPostinc 8 10 0x36f),
    (0xE772EC2D, .stABoCirc 12 14 0x3b2),
    (0xA952DC2D, .stABoBrev 12 13),
    (0xA193CB2D, .stBBoShort 11 12 0x293),
    (0xC3B0EA2D, .stBBoPreinc 10 14 0x330),
    (0xB5BD8E2D, .stBBoPostinc 14 8 0x2fd),
    (0xF786DE2D, .stBBoCirc 14 13 0x3c6),
    (0x89A79A2D, .stBBoBrev 10 9),
    (0xF1FFD82D, .stDBoShort 8 13 0x3ff),
    (0xE3E1C82D, .stDBoPreinc 8 12 0x3a1),
    (0x95D0FF2D, .stDBoPostinc 15 15 0x250),
    (0x87C1CC2D, .stDBoCirc 12 12 0x201),
    (0xB9F0DA2D, .stDBoBrev 10 13),
    (0xD01C9D2F, .stDaBoShort 13 9 0x35c),
    (0xF21E9C2F, .stDaBoPreinc 12 9 0x3de),
    (0x84139D2F, .stDaBoPostinc 13 9 0x213),
    (0x960AFB2F, .stDaBoCirc 11 15 0x24a),
    (0xA823D82F, .stDaBoBrev 8 13),
    (0xE05CE92F, .stHBoShort 9 14 0x39c),
    (0x92788D2F, .stHBoPreinc 13 8 0x278),
    (0xB45FBA2F, .stHBoPostinc 10 11 0x2df)] :=
  ⟨rfl, rfl, rfl, rfl, rfl, rfl, rfl, rfl, rfl, rfl, rfl, rfl, rfl, rfl, rfl, rfl, rfl, rfl, rfl, rfl, rfl, rfl, rfl, rfl, rfl, rfl, rfl, rfl, rfl, rfl, rfl, rfl, rfl, rfl, rfl, rfl, rfl, rfl, rfl, rfl, trivial⟩

theorem test_decode_bo_3 : decodesTo 32 [
    (0xA670FA2F, .stHBoCirc 10 15 0x2b0),
    (0xE866EA2F, .stHBoBrev 10 14),
    (0x8096D82F, .stQBoShort 8 13 0x216),
    (0xE2B79F2F, .stQBoPreinc 15 9 0x3b7),
    (0xF4ADC92F, .stQBoPostinc 9 12 0x3ed),
    (0x86B2F82F, .stQBoCirc 8 15 0x232),
    (0xD88DDA2F, .stQBoBrev 10 13),
    (0xB0E4BC2F, .stWBoShort 12 11 0x2e4),
    (0xC2CDED2F, .stWBoPreinc 13 14 0x30d),
    (0xE4FDDB2F, .stWBoPostinc 11 13 0x3bd),
    (0xE6DD9D2F, .stWBoCirc 13 9 0x39d),
    (0x98D9CB2F, .stWBoBrev 11 12),
    (0x8119CF2F, .stlcxBoShort 12 0x219),
    (0xB156E82F, .stucxBoShort 14 0x2d6),
    (0x81A8FE2F, .swapABoShort 14 15 0x228),
    (0xD3A4F92F, .swapABoPreinc 9 15 0x364),
    (0xA5869B2F, .swapABoPostinc 11 9 0x286),
    (0xD783EA2F, .swapABoCirc 10 14 0x343),
    (0xB9BE992F, .swapABoBrev 9 9),
    (0xB1F19F2F, .swapWBoShort 15 9 0x2f1),
    (0x83FF9F2F, .swapWBoPreinc 15 9 0x23f),
    (0xA5F2FE2F, .swapWBoPostinc 14 15 0x2b2),
    (0xE7E4EC2F, .swapWBoCirc 12 14 0x3a4),
    (0xB9D7B82F, .swapWBoBrev 8 11)] :=
  ⟨rfl, rfl, rfl, rfl, rfl, rfl, rfl, rfl, rfl, rfl, rfl, rfl, rfl, rfl, rfl, rfl, rfl, rfl, rfl, rfl, rfl, rfl, rfl, rfl, trivial⟩

theorem test_decode_bol : decodesTo 32 [
    (0xCEA59931, .ldABol 9 9 0xeb25),
    (0x5AB3FC33, .ldWBol 12 15 0xa973),
    (0x8E94AC35, .leaBol 12 10 0xea14),
    (0x0963FD37, .stWBol 13 15 0x9423)] :=
  ⟨rfl, rfl, rfl, rfl, trivial⟩

theorem test_decode_brc : decodesTo 32 [
    (0x6A2BAA39, .jeqBrc 10 10 0x6a2b),
    (0xE551C839, .jgeUBrc 8 12 0x6551),
    (0x76768B3B, .jgeBrc 11 8 0x7676),
    (0xEE8F893B, .jltUBrc 9 8 0x6e8f),
    (0x60FC893D, .jltBrc 9 8 0x60fc),
    (0xF2D29F3D, .jnedBrc 15 9 0x72d2),
    (0x7DDECE3F, .jneiBrc 14 12 0x7dde),
    (0xF502CB3F, .jneBrc 11 12 0x7502)] :=
  ⟨rfl, rfl, rfl, rfl, rfl, rfl, rfl, rfl, trivial⟩

theorem test_decode_brr : decodesTo 32 [
    (0x788DA841, .jeqABrr 8 10 0x788d),
    (0xC98DAF41, .jeqBrr 15 10 0x498d),
    (0x5E22E843, .jgeUBrr 8 14 0x5e22),
    (0xF93F9943, .jgeBrr 9 9 0x793f),
    (0x4B58FD45, .jltUBrr 13 15 0x4b58),
    (0xC754D845, .jltBrr 8 13 0x4754),
    (0x5523DF47, .jneABrr 15 13 0x5523),
    (0xF4E7BB47, .jnedBrr 11 11 0x74e7),
    (0x5E68BD49, .jneiBrr 13 11 0x5e68),
    (0xCF51AC49, .jneBrr 12 10 0x4f51),
    (0x5F01EC4B, .jnzABrr 12 0x5f01),
    (0xF63B984B, .jzABrr 8 0x763b),
    (0x6680A84D, .loopBrr 8 0x6680)] :=
  ⟨rfl, rfl, rfl, rfl, rfl, rfl, rfl, rfl, rfl, rfl, rfl, rfl, rfl, trivial⟩

theorem test_decode_rc_1 : decodesTo 32 [
    (0x90176A4F, .absdifsRc 9 10 0x176),
    (0xF0304C4F, .absdifRc 15 12 0x104),
    (0xB05A0F4F, .addcRc 11 15 0x1a0),
    (0x80760C4F, .addsURc 8 12 0x160),
    (0xA091BF4F, .addsRc 10 15 0x11b),
    (0xB0B9C84F, .addxRc 11 8 0x19c),
    (0xC0DF594F, .addRc 12 9 0x1f5),
    (0x80F70D4F, .andEqRc 8 13 0x170),
    (0xC1124D4F, .andGeURc 12 13 0x124),
    (0xC13DB94F, .andGeRc 12 9 0x1db),
    (0xE15E4A4F, .andLtURc 14 10 0x1e4),
    (0xD17C884F, .andLtRc 13 8 0x1c8),
    (0xE1905E4F, .andNeRc 14 14 0x105),
    (0xD1BD5E4F, .andnRc 13 14 0x1d5),
    (0xD1DE684F, .andRc 13 8 0x1e6),
    (0xF1F08B4F, .bisrRc 0x108),
    (0x921AAA4F, .eqanyBRc 9 10 0x1aa),
    (0xC2311A4F, .eqanyHRc 12 10 0x111),
    (0xF2541F4F, .eqRc 15 15 0x141),
    (0xE2716B4F, .geURc 14 11 0x116),
    (0xE2912A4F, .geRc 14 10 0x112),
    (0xC2BF384F, .ltURc 12 8 0x1f3),
    (0x82D6AF4F, .ltRc 8 15 0x16a),
    (0xC2FD7A4F, .maxURc 12 10 0x1d7),
    (0xD3165F4F, .maxRc 13 15 0x165),
    (0xB330DB4F, .minURc 11 11 0x10d),
    (0xE358D94F, .minRc 14 9 0x18d),
    (0x937E1A4F, .mulmURc 9 10 0x1e1),
    (0xD393DA4F, .mulmRc 13 10 0x13d),
    (0xD3BF7D4F, .mulsURc 13 13 0x1f7),
    (0x93D65B4F, .mulsRc 9 11 0x165),
    (0xC3FD6F4F, .mulRc 12 15 0x1d6),
    (0x941D2F4F, .nandRc 9 15 0x1d2),
    (0xD439084F, .neRc 13 8 0x190),
    (0x945FA84F, .norRc 9 8 0x1fa),
    (0xF4770B4F, .orEqRc 15 11 0x170),
    (0xA492D84F, .orGeURc 10 8 0x12d),
    (0xD4BC6F4F, .orGeRc 13 15 0x1c6),
    (0xE4D3A94F, .orLtURc 14 9 0x13a),
    (0xF4FE5B4F, .orLtRc 15 11 0x1e5)] :=
  ⟨rfl, rfl, rfl, rfl, rfl, rfl, rfl, rfl, rfl, rfl, rfl, rfl, rfl, rfl, rfl, rfl, rfl, rfl, rfl, rfl, rfl, rfl, rfl, rfl, rfl, rfl, rfl, rfl, rfl, rfl, rfl, rfl, rfl, rfl, rfl, rfl, rfl, rfl, rfl, rfl, trivial⟩

theorem test_decode_rc_2 : decodesTo 32 [
    (0x9513C84F, .orNeRc 9 8 0x13c),
    (0x853E094F, .ornRc 8 9 0x1e0),
    (0xD5520D4F, .orRc 13 13 0x120),
    (0xF577BD4F, .rsubsURc 15 13 0x17b),
    (0xF590FB4F, .rsubsRc 15 11 0x10f),
    (0xB5BB4D4F, .rsubRc 11 13 0x1b4),
    (0x95D13C4F, .shBRc 9 12 0x113),
    (0xC5FC4E4F, .shEqRc 12 14 0x1c4),
    (0x86188A4F, .shGeURc 8 10 0x188),
    (0xC633CB4F, .shGeRc 12 11 0x13c),
    (0xC6508C4F, .shHRc 12 12 0x108),
    (0xC672BC4F, .shLtURc 12 12 0x12b),
    (0xE695A94F, .shLtRc 14 9 0x15a),
    (0x96B0CB4F, .shNeRc 9 11 0x10c),
    (0x96DA6B4F, .shaBRc 9 11 0x1a6),
    (0xF6F1AB4F, .shaHRc 15 11 0x11a),
    (0xE7191D4F, .shasRc 14 13 0x191),
    (0xB734894F, .shaRc 11 9 0x148),
    (0xB752AA4F, .shRc 11 10 0x12a),
    (0x977DCC4F, .syscallRc 0x1dc),
    (0xC79EAE4F, .xnorRc 12 14 0x1ea),
    (0xD7BA2E4F, .xorEqRc 13 14 0x1a2),
    (0xF7D3994F, .xorGeURc 15 9 0x139),
    (0xA7FA7B4F, .xorGeRc 10 11 0x1a7),
    (0xC814A94F, .xorLtURc 12 9 0x14a),
    (0x9838BF4F, .xorLtRc 9 15 0x18b),
    (0xE85E5D4F, .xorNeRc 14 13 0x1e5),
    (0xA8786B4F, .xorRc 10 11 0x186)] :=
  ⟨rfl, rfl, rfl, rfl, rfl, rfl, rfl, rfl, rfl, rfl, rfl, rfl, rfl, rfl, rfl, rfl, rfl, rfl, rfl, rfl, rfl, rfl, rfl, rfl, rfl, rfl, rfl, rfl, trivial⟩

theorem test_decode_rcpw : decodesTo 32 [
    (0xFB949E51, .imaskRcpw 15 9 23 20),
    (0xBF37BC51, .insertRcpw 11 12 11 30 23)] :=
  ⟨rfl, rfl, trivial⟩

theorem test_decode_rcr : decodesTo 32 [
    (0xAD18FE53, .caddARcr 10 13 14 0x18f),
    (0xCF349D53, .caddnARcr 12 15 13 0x149),
    (0xBA576F53, .caddnRcr 11 10 15 0x176),
    (0xFD7D1C53, .caddRcr 15 13 12 0x1d1),
    (0xCB961A53, .maddmURcr 12 11 10 0x161),
    (0xFBB88C53, .maddmsURcr 15 11 12 0x188),
    (0xCAD8CE53, .maddmsRcr 12 10 14 0x18c),
    (0xEAFD5D53, .maddmRcr 14 10 13 0x1d5),
    (0xCA19CF55, .maddsURcr 12 10 15 0x19c),
    (0xBE3CBB55, .maddsRcr 11 14 11 0x1cb),
    (0xCB532855, .maddRcr 12 11 8 0x132),
    (0xB8705955, .msubmURcr 11 8 9 0x105),
    (0xBD911A55, .msubmsURcr 11 13 10 0x111),
    (0xBEBE1D55, .msubmsRcr 11 14 13 0x1e1),
    (0xE9D87A55, .msubmRcr 14 9 10 0x187),
    (0x8BF67855, .msubsURcr 8 11 8 0x167),
    (0x8C14FE57, .msubsRcr 8 12 14 0x14f),
    (0x8F3C4E57, .msubRcr 8 15 14 0x1c4),
    (0xDE567D57, .selARcr 13 14 13 0x167),
    (0xEC763A57, .selnARcr 14 12 10 0x163),
    (0xCA924A57, .selnRcr 12 10 10 0x124),
    (0xC9BF4D57, .selRcr 12 9 13 0x1f4)] :=
  ⟨rfl, rfl, rfl, rfl, rfl, rfl, rfl, rfl, rfl, rfl, rfl, rfl, rfl, rfl, rfl, rfl, rfl, rfl, rfl, rfl, rfl, rfl, trivial⟩

theorem test_decode_rcrr : decodesTo 32 [
    (0xBD009F59, .insertRcrr 11 15 9 13)] :=
  ⟨rfl, trivial⟩

theorem test_decode_rcrw : decodesTo 32 [
    (0xDF1C895B, .imaskRcrw 13 8 15 28),
    (0xBD359C5B, .insertRcrw 11 12 9 13 21)] :=
  ⟨rfl, rfl, trivial⟩

theorem test_decode_rlc : decodesTo 32 [
    (0x8F371B5D, .addihARlc 8 11 0xf371),
    (0x8BD13F5F, .addihRlc 8 15 0xbd13),
    (0x9CDDAB61, .addiRlc 9 11 0xcdda),
    (0xDB3B2963, .mfcrRlc 13 0xb3b2),
    (0x8C894965, .movURlc 8 0xc894),
    (0xDF9ABB67, .movhARlc 13 0xf9ab),
    (0xEB96E869, .movhRlc 14 0xb96e),
    (0xCB96BA6B, .movRlc 12 0xb96b),
    (0x8B41486D, .mtcrRlc 0xb414 8)] :=
  ⟨rfl, rfl, rfl, rfl, rfl, rfl, rfl, rfl, rfl, trivial⟩

theorem test_decode_rr_1 : decodesTo 32 [
    (0xB003FA6F, .absBRr 11 10),
    (0x9012996F, .absHRr 9 9),
    (0xF023896F, .absdifBRr 15 9 8),
    (0xF032FC6F, .absdifHRr 15 12 15),
    (0xD042DB6F, .absdifsBRr 13 11 13),
    (0xC052FA6F, .absdifsHRr 12 10 15),
    (0x90638D6F, .absdifsRr 9 13 8),
    (0xE0729A6F, .absdifRr 14 10 9),
    (0x90828C6F, .abssBRr 9 12),
    (0xD093CF6F, .abssHRr 13 15),
    (0xE0A2896F, .abssRr 14 9),
    (0xB0B3BD6F, .absRr 11 13),
    (0x80C38F6F, .addARr 8 15 8),
    (0xB0D2EE6F, .addBRr 11 14 14),
    (0xE0E29C6F, .addHRr 14 12 9),
    (0xB0F2CA6F, .addcRr 11 10 12),
    (0x9102E86F, .addsBuRr 9 8 14),
    (0xE112BA6F, .addsBRr 14 10 11),
    (0xD122D86F, .addsHuRr 13 8 13),
    (0xF132EA6F, .addsHRr 15 10 14),
    (0x9142F86F, .addsURr 9 8 15),
    (0xB152FC6F, .addscAtRr 11 12 15),
    (0x81628A6F, .addscARr 8 10 8 2),
    (0x9172DE6F, .addsRr 9 14 13),
    (0xC1828F6F, .addxRr 12 15 8),
    (0xA192FA6F, .addRr 10 10 15),
    (0x91A3BD6F, .andEqRr 9 13 11),
    (0xC1B3FB6F, .andGeURr 12 11 15),
    (0x81C2EB6F, .andGeRr 8 11 14),
    (0x91D3A96F, .andLtURr 9 9 10),
    (0x91E2FE6F, .andLtRr 9 14 15),
    (0x81F2EB6F, .andNeRr 8 11 14),
    (0xD2039C6F, .andnRr 13 12 9),
    (0xB2128C6F, .andRr 11 12 8),
    (0x9223AA6F, .calliRr 10),
    (0xA232F86F, .cloBRr 10 8),
    (0xB242FF6F, .cloHRr 11 15),
    (0x8252BE6F, .cloRr 8 14),
    (0xD263CB6F, .clsBRr 13 11),
    (0x8272EC6F, .clsHRr 8 12)] :=
  ⟨rfl, rfl, rfl, rfl, rfl, rfl, rfl, rfl, rfl, rfl, rfl, rfl, rfl, rfl, rfl, rfl, rfl, rfl, rfl, rfl, rfl, rfl, rfl, rfl, rfl, rfl, rfl, rfl, rfl, rfl, rfl, rfl, rfl, rfl, rfl, rfl, rfl, rfl, rfl, rfl, trivial⟩

theorem test_decode_rr_2 : decodesTo 32 [
    (0xE282CA6F, .clsRr 14 10),
    (0xC293BC6F, .clzBRr 12 12),
    (0x92A3996F, .clzHRr 9 9),
    (0xE2B2DC6F, .clzRr 14 12),
    (0xE2C29B6F, .difscARr 14 11 9 2),
    (0xF2D2E86F, .dvinitBuRr 15 8 14),
    (0xB2E39E6F, .dvinitBRr 11 14 9),
    (0xC2F2CF6F, .dvinitHuRr 12 15 12),
    (0x8302AF6F, .dvinitHRr 8 15 10),
    (0x9313CA6F, .dvinitURr 9 10 12),
    (0xC322ED6F, .dvinitRr 12 13 14),
    (0xC3338E6F, .eqARr 12 14 8),
    (0xB343CB6F, .eqBRr 11 11 12),
    (0xE3539E6F, .eqHRr 14 14 9),
    (0xB362FD6F, .eqWRr 11 13 15),
    (0xE372C96F, .eqanyBRr 14 9 12),
    (0xA383EE6F, .eqanyHRr 10 14 14),
    (0x93938D6F, .eqzARr 9 13),
    (0xB3A3DC6F, .eqRr 11 12 13),
    (0xC3B2CC6F, .geARr 12 12 12),
    (0xF3C3FC6F, .geURr 15 12 15),
    (0xD3D3BF6F, .geRr 13 15 11),
    (0x83E3AF6F, .jiRr 10),
    (0xD3F2ED6F, .jliRr 14),
    (0xC402DC6F, .ltARr 12 12 13),
    (0x8413896F, .ltBuRr 8 9 8),
    (0xB423B96F, .ltBRr 11 9 11),
    (0xC433DC6F, .ltHuRr 12 12 13),
    (0x8443CC6F, .ltHRr 8 12 12),
    (0xA4539B6F, .ltURr 10 11 9),
    (0xF4629E6F, .ltWuRr 15 14 9),
    (0xC4728D6F, .ltWRr 12 13 8),
    (0x8483DE6F, .ltRr 8 14 13),
    (0x9492CB6F, .maxBuRr 9 11 12),
    (0xE4A3E96F, .maxBRr 14 9 14),
    (0xD4B2CA6F, .maxHuRr 13 10 12),
    (0xA4C3CF6F, .maxHRr 10 15 12),
    (0x94D2B86F, .maxURr 9 8 11),
    (0xE4E2BB6F, .maxRr 14 11 11),
    (0x84F2DF6F, .minBuRr 8 15 13)] :=
  ⟨rfl, rfl, rfl, rfl, rfl, rfl, rfl, rfl, rfl, rfl, rfl, rfl, rfl, rfl, rfl, rfl, rfl, rfl, rfl, rfl, rfl, rfl, rfl, rfl, rfl, rfl, rfl, rfl, rfl, rfl, rfl, rfl, rfl, rfl, rfl, rfl, rfl, rfl, rfl, rfl, trivial⟩

theorem test_decode_rr_3 : decodesTo 32 [
    (0xC502E86F, .minBRr 12 8 14),
    (0x95138F6F, .minHuRr 9 15 8),
    (0xB523CE6F, .minHRr 11 14 12),
    (0x9533EC6F, .minURr 9 12 14),
    (0xF542AA6F, .minRr 15 10 10),
    (0xB5528B6F, .movAaRr 11 8),
    (0xD5629D6F, .movARr 13 9),
    (0xF572DE6F, .movDRr 15 13),
    (0xE582D86F, .movRr 14 13),
    (0x9593CC6F, .mulHRr 9 12 12 3),
    (0x95A2996F, .mulQRr 9 9 9 2),
    (0xF5B29F6F, .mulmURr 15 15 9),
    (0xE5C3CB6F, .mulmRr 14 11 12),
    (0x95D3886F, .mulrHRr 9 8 8 3),
    (0xD5E3C96F, .mulrQRr 13 9 12 3),
    (0xF5F2A86F, .mulsURr 15 8 10),
    (0xE602F96F, .mulsRr 14 9 15),
    (0xE613EB6F, .mulRr 14 11 14),
    (0xA6229E6F, .nandRr 10 14 9),
    (0xD632DB6F, .neARr 13 11 13),
    (0x8642CE6F, .nezARr 8 14),
    (0xB652EB6F, .neRr 11 11 14),
    (0xA6629E6F, .norRr 10 14 9),
    (0x96728C6F, .orEqRr 9 12 8),
    (0xB682886F, .orGeURr 11 8 8),
    (0xC693896F, .orGeRr 12 9 8),
    (0x96A2BC6F, .orLtURr 9 12 11),
    (0xA6B3FE6F, .orLtRr 10 14 15),
    (0xF6C2D96F, .orNeRr 15 9 13),
    (0xF6D2CF6F, .ornRr 15 15 12),
    (0xF6E2AE6F, .orRr 15 14 10),
    (0xB6F3B96F, .satBuRr 11 9),
    (0xA702CE6F, .satBRr 10 14),
    (0xB712BA6F, .satHuRr 11 10),
    (0xE7228A6F, .satHRr 14 10),
    (0xB733986F, .shBRr 11 8 9),
    (0xA7438E6F, .shEqRr 10 14 8),
    (0xF753986F, .shGeURr 15 8 9),
    (0xF762EE6F, .shGeRr 15 14 14),
    (0xA773E86F, .shHRr 10 8 14)] :=
  ⟨rfl, rfl, rfl, rfl, rfl, rfl, rfl, rfl, rfl, rfl, rfl, rfl, rfl, rfl, rfl, rfl, rfl, rfl, rfl, rfl, rfl, rfl, rfl, rfl, rfl, rfl, rfl, rfl, rfl, rfl, rfl, rfl, rfl, rfl, rfl, rfl, rfl, rfl, rfl, rfl, trivial⟩

theorem test_decode_rr_4 : decodesTo 32 [
    (0x9782DA6F, .shLtURr 9 10 13),
    (0xD792DF6F, .shLtRr 13 15 13),
    (0xE7A2886F, .shNeRr 14 8 8),
    (0x87B3AB6F, .shaBRr 8 11 10),
    (0x97C2CB6F, .shaHRr 9 11 12),
    (0xA7D3BE6F, .shasRr 10 14 11),
    (0xB7E2CB6F, .shaRr 11 11 12),
    (0xA7F3CE6F, .shRr 10 14 12),
    (0xF802CA6F, .subARr 15 10 12),
    (0xE813B96F, .subBRr 14 9 11),
    (0xE822996F, .subHRr 14 9 9),
    (0xE8339D6F, .subcRr 14 13 9),
    (0x9843DB6F, .subsBuRr 9 11 13),
    (0x9852FB6F, .subsBRr 9 11 15),
    (0xD862BB6F, .subsHuRr 13 11 11),
    (0xB873DB6F, .subsHRr 11 11 13),
    (0xD8828D6F, .subsURr 13 13 8),
    (0x8893EB6F, .subscARr 8 11 14 3),
    (0xF8A3CE6F, .subsRr 15 14 12),
    (0xD8B2BC6F, .subxRr 13 12 11),
    (0xC8C3FF6F, .subRr 12 15 15),
    (0xC8D3EA6F, .xnorRr 12 10 14),
    (0xF8E28E6F, .xorEqRr 15 14 8),
    (0xC8F2AF6F, .xorGeURr 12 15 10),
    (0xF9028E6F, .xorGeRr 15 14 8),
    (0xC913AD6F, .xorLtURr 12 13 10),
    (0xA923AE6F, .xorLtRr 10 14 10),
    (0xF933ED6F, .xorNeRr 15 13 14),
    (0xF942B86F, .xorRr 15 8 11)] :=
  ⟨rfl, rfl, rfl, rfl, rfl, rfl, rfl, rfl, rfl, rfl, rfl, rfl, rfl, rfl, rfl, rfl, rfl, rfl, rfl, rfl, rfl, rfl, rfl, rfl, rfl, rfl, rfl, rfl, rfl, trivial⟩

theorem test_decode_rrpw : decodesTo 32 [
    (0xDE17B871, .dextrRrpw 13 8 11 28),
    (0xCC31DA71, .extrURrpw 12 10 24 17),
    (0xAFD89E71, .extrRrpw 10 14 31 24),
    (0x9CF9DF71, .imaskRrpw 9 13 25 25),
    (0xB917EC73, .insertRrpw 11 12 14 18 23)] :=
  ⟨rfl, rfl, rfl, rfl, rfl, trivial⟩

theorem test_decode_rrr_1 : decodesTo 32 [
    (0x9F029975, .caddARrr 9 15 9 9),
    (0xBC12BA75, .caddnARrr 11 12 10 11),
    (0xB9238875, .caddnRrr 11 9 8 8),
    (0xAB338875, .caddRrr 10 11 8 8),
    (0x9B43FA75, .csubARrr 9 11 10 15),
    (0xF852AC75, .csubnARrr 15 8 12 10),
    (0x9E63CB75, .csubnRrr 9 14 11 12),
    (0xA872DC75, .csubRrr 10 8 12 13),
    (0xFF829975, .dvadjRrr 15 15 9),
    (0xAC929F75, .dvstepURrr 10 12 9),
    (0xDFA2EF75, .dvstepRrr 13 15 14),
    (0xBEB2B975, .maddHRrr 11 14 9 11 2),
    (0xCDC3BD75, .maddQRrr 12 13 13 11 3),
    (0xFCD3BF75, .maddmHRrr 15 12 15 11),
    (0xCFE3D875, .maddmQRrr 12 15 8 13),
    (0x88F2EE75, .maddmURrr 8 8 14 14),
    (0x8C029A77, .maddmsURrr 8 12 10 9),
    (0x8812E977, .maddmsRrr 8 8 9 14),
    (0xD922AF77, .maddmRrr 13 9 15 10),
    (0x9A329C77, .maddrHRrr 9 10 12 9 2),
    (0xFF42A877, .maddrQRrr 15 15 8 10 2),
    (0x9D53BE77, .maddrsHRrr 9 13 14 11 3),
    (0x8C62BF77, .maddrsQRrr 8 12 15 11 2),
    (0xAC72BC77, .maddsHRrr 10 12 12 11 2),
    (0xAB83D977, .maddsQRrr 10 11 9 13 3),
    (0xAA92FC77, .maddsURrr 10 10 12 15),
    (0xF9A3EB77, .maddsRrr 15 9 11 14),
    (0xBCB38B77, .maddRrr 11 12 11 8),
    (0xADC2AE77, .msubHRrr 10 13 14 10 2),
    (0xC8D2FB77, .msubQRrr 12 8 11 15 2),
    (0x8BE2DA77, .msubmHRrr 8 11 10 13),
    (0xDFF2FA77, .msubmQRrr 13 15 10 15),
    (0xFA02C879, .msubmURrr 15 10 8 12),
    (0xCD139879, .msubmsURrr 12 13 8 9),
    (0xBA239979, .msubmsRrr 11 10 9 9),
    (0xED33CD79, .msubmRrr 14 13 13 12),
    (0xFE428F79, .msubrHRrr 15 14 15 8 2),
    (0x9C53B879, .msubrQRrr 9 12 8 11 3),
    (0xF9629F79, .msubrsHRrr 15 9 15 9 2),
    (0x8872A979, .msubrsQRrr 8 8 9 10 2)] :=
  ⟨rfl, rfl, rfl, rfl, rfl, rfl, rfl, rfl, rfl, rfl, rfl, rfl, rfl, rfl, rfl, rfl, rfl, rfl, rfl, rfl, rfl, rfl, rfl, rfl, rfl, rfl, rfl, rfl, rfl, rfl, rfl, rfl, rfl, rfl, rfl, rfl, rfl, rfl, rfl, rfl, trivial⟩

theorem test_decode_rrr_2 : decodesTo 32 [
    (0xC9828879, .msubsHRrr 12 9 8 8 2),
    (0xE993EE79, .msubsQRrr 14 9 14 14 3),
    (0xEBA2E979, .msubsURrr 14 11 9 14),
    (0x9BB3FF79, .msubsRrr 9 11 15 15),
    (0xBEC3FB79, .msubRrr 11 14 11 15),
    (0xDAD2DA79, .selARrr 13 10 10 13),
    (0xAAE28B79, .selnARrr 10 10 11 8),
    (0xD8F2E979, .selnRrr 13 8 9 14),
    (0xDE03AD7B, .selRrr 13 14 13 10)] :=
  ⟨rfl, rfl, rfl, rfl, rfl, rfl, rfl, rfl, rfl, trivial⟩

theorem test_decode_rrrr : decodesTo 32 [
    (0xE800EF7D, .dextrRrrr 14 15 14 8),
    (0xAC20FF7D, .extrURrrr 10 15 12),
    (0xBF40DB7D, .extrRrrr 11 11 15),
    (0xC860CB7D, .insertRrrr 12 11 12 8)] :=
  ⟨rfl, rfl, rfl, rfl, trivial⟩

theorem test_decode_rrrw : decodesTo 32 [
    (0xCF16FA7F, .extrURrrw 12 10 15 22),
    (0xE8328A7F, .extrRrrw 14 10 8 18),
    (0xFA5AC97F, .imaskRrrw 15 12 10 26),
    (0xEF72987F, .insertRrrw 14 8 9 15 18)] :=
  ⟨rfl, rfl, rfl, rfl, trivial⟩

theorem test_decode_sys : decodesTo 32 [
    (0x00000083, .debugSys),
    (0x00400083, .disableSys),
    (0x00800083, .dsyncSys),
    (0x00C00083, .enableSys),
    (0x01000083, .isyncSys),
    (0x01400083, .nopSys),
    (0x01800083, .retSys),
    (0x01C00083, .rfeSys),
    (0x02000083, .rslcxSys),
    (0x02400083, .rstvSys),
    (0x02800083, .svlcxSys),
    (0x02C00083, .trapsvSys),
    (0x03000083, .trapvSys)] :=
  ⟨rfl, rfl, rfl, rfl, rfl, rfl, rfl, rfl, rfl, rfl, rfl, rfl, rfl, trivial⟩

theorem test_decode_srrs : decodesTo 16 [
    (0xCC82, .addscASrrs 12 12 2)] :=
  ⟨rfl, trivial⟩

theorem test_decode_sbrn : decodesTo 16 [
    (0xB884, .jnzTSbrn 27 8),
    (0xBB86, .jzTSbrn 27 11)] :=
  ⟨rfl, rfl, trivial⟩

theorem test_decode_sb : decodesTo 16 [
    (0xA208, .jnzSb 0xa2),
    (0xAB0A, .jzSb 0xab),
    (0xD10C, .jSb 0xd1)] :=
  ⟨rfl, rfl, rfl, trivial⟩

theorem test_decode_sbc : decodesTo 16 [
    (0xEE0E, .jeqSbc 14 14),
    (0xAC10, .jneSbc 10 12)] :=
  ⟨rfl, rfl, trivial⟩

theorem test_decode_sbr : decodesTo 16 [
    (0x9A12, .jeqSbr 9 10),
    (0xFE14, .jgezSbr 15 14),
    (0xAA16, .jgtzSbr 10 10),
    (0xDF18, .jiSbr 13),
    (0xCC1A, .jlezSbr 12 12),
    (0x8F1C, .jltzSbr 8 15),
    (0xCA1E, .jneSbr 12 10),
    (0xFD20, .jnzASbr 15 13),
    (0xFE22, .jnzSbr 15 14),
    (0xBE24, .jzASbr 11 14),
    (0xF926, .jzSbr 15 9),
    (0xA828, .loopSbr 10 8)] :=
  ⟨rfl, rfl, rfl, rfl, rfl, rfl, rfl, rfl, rfl, rfl, rfl, rfl, trivial⟩

theorem test_decode_sc : decodesTo 16 [
    (0xE92A, .andSc 0xe9),
    (0xF02C, .bisrSc 0xf0),
    (0xA92E, .movSc 0xa9),
    (0xB930, .orSc 0xb9),
    (0x8B32, .subASc 0x8b)] :=
  ⟨rfl, rfl, rfl, rfl, rfl, trivial⟩

theorem test_decode_slr : decodesTo 16 [
    (0xBD34, .ldASlr 13 11),
    (0x8836, .ldASlrPostinc 8 8),
    (0xFA38, .ldBuSlr 10 15),
    (0xBB3A, .ldBuSlrPostinc 11 11),
    (0xBE3C, .ldBSlr 14 11),
    (0x9C3E, .ldBSlrPostinc 12 9),
    (0xCF40, .ldHSlr 15 12),
    (0xD944, .ldHSlrPostinc 9 13),
    (0xDD46, .ldWSlr 13 13),
    (0x9A48, .ldWSlrPostinc 10 9)] :=
  ⟨rfl, rfl, rfl, rfl, rfl, rfl, rfl, rfl, rfl, rfl, trivial⟩

theorem test_decode_slro : decodesTo 16 [
    (0xDE4A, .ldASlro 14 13),
    (0xDB4C, .ldBuSlro 11 13),
    (0xDF4E, .ldBSlro 15 13),
    (0x9D50, .ldHSlro 13 9),
    (0x9E52, .ldWSlro 14 9)] :=
  ⟨rfl, rfl, rfl, rfl, rfl, trivial⟩

theorem test_decode_sr : decodesTo 16 [
    (0x0B54, .debugSr),
    (0x1B54, .movzASr 11),
    (0x2B54, .nopSr),
    (0x3F54, .notSr 15),
    (0x4C54, .retSr),
    (0x5A54, .rfeSr),
    (0x6D54, .rsubSr 13),
    (0x7A54, .satBuSr 10),
    (0x8854, .satBSr 8),
    (0x9954, .satHuSr 9),
    (0xAD54, .satHSr 13)] :=
  ⟨rfl, rfl, rfl, rfl, rfl, rfl, rfl, rfl, rfl, rfl, rfl, trivial⟩

theorem test_decode_src : decodesTo 16 [
    (0x9A56, .addSrc 10 9),
    (0xFA58, .addSrcD15 10 15),
    (0x9E5A, .caddnSrc 14 9),
    (0xD85C, .caddSrc 8 13),
    (0xDF5E, .cmovnSrc 15 13),
    (0xAA60, .cmovSrc 10 10),
    (0xCA62, .eqSrc 10 12),
    (0xB864, .ltUSrc 8 11),
    (0xDD66, .ltSrc 13 13),
    (0xEF68, .movSrc 15 14),
    (0xAE6A, .shaSrc 14 10),
    (0xCA6C, .shSrc 10 12)] :=
  ⟨rfl, rfl, rfl, rfl, rfl, rfl, rfl, rfl, rfl, rfl, rfl, rfl, trivial⟩

theorem test_decode_sro : decodesTo 16 [
    (0xFA6E, .ldASro 15 10),
    (0x8C70, .ldBuSro 8 12),
    (0x8972, .ldBSro 8 9),
    (0x8D74, .ldHSro 8 13),
    (0xCA76, .ldWSro 12 10),
    (0xE878, .stASro 14 8),
    (0xBA7A, .stBSro 11 10),
    (0xFA7C, .stHSro 15 10),
    (0xEF7E, .stWSro 14 15)] :=
  ⟨rfl, rfl, rfl, rfl, rfl, rfl, rfl, rfl, rfl, trivial⟩

theorem test_decode_srr : decodesTo 16 [
    (0xDA80, .addSrr 10 13),
    (0xCE88, .addSrrD15 14 12),
    (0xAA8A, .andSrr 10 10),
    (0x8F8C, .caddnSrr 15 8),
    (0xFE8E, .caddSrr 14 15),
    (0xAF90, .cmovnSrr 15 10),
    (0xED92, .cmovSrr 13 14),
    (0xED94, .dvadjSrr 13 14),
    (0x8896, .dvstepUSrr 8 8),
    (0x8898, .dvstepSrr 8 8),
    (0xBD9A, .eqSrr 13 11),
    (0xBC9C, .ltUSrr 12 11),
    (0xED9E, .ltSrr 13 14),
    (0xFAA0, .movAaSrr 10 15),
    (0x8EA2, .movASrr 14 8),
    (0xEAA4, .movDSrr 10 14),
    (0xDAA6, .movSrr 10 13),
    (0x99A8, .mulSrr 9 9),
    (0xF8AA, .orSrr 8 15),
    (0xC8AC, .subsSrr 8 12),
    (0xD8AE, .subSrr 8 13),
    (0xDAB0, .subSrrD15 10 13)] :=
  ⟨rfl, rfl, rfl, rfl, rfl, rfl, rfl, rfl, rfl, rfl, rfl, rfl, rfl, rfl, rfl, rfl, rfl, rfl, rfl, rfl, rfl, rfl, trivial⟩

theorem test_decode_ssr : decodesTo 16 [
    (0xFDB2, .stASsr 13 15),
    (0xAEB4, .stASsrPostinc 14 10),
    (0x89B6, .stBSsr 9 8),
    (0x9BB8, .stBSsrPostinc 11 9),
    (0xE8BA, .stHSsr 8 14),
    (0x8CBC, .stHSsrPostinc 12 8),
    (0xFABE, .stWSsr 10 15),
    (0xFAC0, .stWSsrPostinc 10 15)] :=
  ⟨rfl, rfl, rfl, rfl, rfl, rfl, rfl, rfl, trivial⟩

theorem test_decode_ssro : decodesTo 16 [
    (0xAAC4, .stASsro 10 10),
    (0xFDC6, .stBSsro 13 15),
    (0xFEC8, .stHSsro 14 15),
    (0x9CCA, .stWSsro 12 9)] :=
  ⟨rfl, rfl, rfl, rfl, trivial⟩

/-! ### The formats

For every row of spec/opcode_table.json: the format of its match value, and the mask of that format (30 R207, R208, R231). -/

/-- Every match value has the format, and the format has the mask. -/
def formatIs (f : Format) (mask : Word) (forms : List Nat) : Bool :=
  f.mask == mask && forms.all fun n => decide (formFormat (BitVec.ofNat 32 n) = some f)

theorem test_formats_1 :
    (formatIs .brn 0x8000007F [
      0x1, 0x80000001] &&
    formatIs .abs 0x0C0000FF [
      0x3, 0x4000003, 0x8000003, 0xC000003, 0x5, 0x4000005, 0x8000005, 0xC000005, 0x7, 0x4000007, 0x8000007,
      0xC000007, 0x9, 0x4000009, 0x8000009, 0xC000009, 0xB, 0x400000B, 0x800000B, 0xC00000B, 0xD, 0x400000D,
      0x800000D, 0xC00000D] &&
    formatIs .absb 0x0C0000FF [
      0xF] &&
    formatIs .b 0x000000FF [
      0x11, 0x13, 0x15, 0x17, 0x19, 0x1B] &&
    formatIs .bit 0x006000FF [
      0x1D, 0x20001D, 0x40001D, 0x60001D, 0x1F, 0x20001F, 0x40001F, 0x60001F, 0x21, 0x200021, 0x400021,
      0x600021, 0x23, 0x200023, 0x400023, 0x600023, 0x25, 0x200025, 0x400025, 0x600025, 0x27, 0x200027,
      0x400027, 0x600027, 0x29, 0x200029] &&
    formatIs .bo 0x0FC000FF [
      0x2B, 0x200002B, 0x400002B, 0x600002B, 0x800002B, 0x40002B, 0x240002B, 0x440002B, 0x640002B, 0x840002B,
      0x80002B, 0x280002B, 0x480002B, 0x680002B, 0x880002B, 0xC0002B, 0x2C0002B, 0x4C0002B, 0x6C0002B,
      0x8C0002B, 0x100002B, 0x300002B, 0x500002B, 0x700002B, 0x900002B, 0x140002B, 0x340002B, 0x540002B,
      0x740002B, 0x940002B, 0x180002B, 0x380002B, 0x580002B, 0x780002B, 0x980002B, 0x1C0002B, 0x3C0002B,
      0x5C0002B, 0x7C0002B, 0x9C0002B, 0x2D, 0x200002D, 0x400002D, 0x600002D, 0x800002D, 0x40002D, 0x80002D,
      0x280002D, 0x480002D, 0x680002D, 0x880002D, 0xC0002D, 0x100002D, 0x300002D, 0x500002D, 0x700002D,
      0x900002D, 0x140002D, 0x340002D, 0x540002D, 0x740002D, 0x940002D, 0x180002D, 0x380002D, 0x580002D,
      0x780002D, 0x980002D, 0x1C0002D, 0x3C0002D, 0x5C0002D, 0x7C0002D, 0x9C0002D, 0x2F, 0x200002F, 0x400002F,
      0x600002F, 0x800002F, 0x40002F, 0x240002F, 0x440002F, 0x640002F, 0x840002F, 0x80002F, 0x280002F,
      0x480002F, 0x680002F, 0x880002F, 0xC0002F, 0x2C0002F, 0x4C0002F, 0x6C0002F, 0x8C0002F, 0x100002F,
      0x140002F, 0x180002F, 0x380002F, 0x580002F, 0x780002F, 0x980002F, 0x1C0002F, 0x3C0002F, 0x5C0002F,
      0x7C0002F, 0x9C0002F] &&
    formatIs .bol 0x000000FF [
      0x31, 0x33, 0x35, 0x37] &&
    formatIs .brc 0x800000FF [
      0x39, 0x80000039, 0x3B, 0x8000003B, 0x3D, 0x8000003D, 0x3F, 0x8000003F] &&
    formatIs .brr 0x800000FF [
      0x41, 0x80000041, 0x43, 0x80000043, 0x45, 0x80000045, 0x47, 0x80000047, 0x49, 0x80000049, 0x4B,
      0x8000004B, 0x4D]) = true := by decide

theorem test_formats_2 :
    (formatIs .rc 0x0FE000FF [
      0x4F, 0x20004F, 0x40004F, 0x60004F, 0x80004F, 0xA0004F, 0xC0004F, 0xE0004F, 0x100004F, 0x120004F,
      0x140004F, 0x160004F, 0x180004F, 0x1A0004F, 0x1C0004F, 0x1E0004F, 0x200004F, 0x220004F, 0x240004F,
      0x260004F, 0x280004F, 0x2A0004F, 0x2C0004F, 0x2E0004F, 0x300004F, 0x320004F, 0x340004F, 0x360004F,
      0x380004F, 0x3A0004F, 0x3C0004F, 0x3E0004F, 0x400004F, 0x420004F, 0x440004F, 0x460004F, 0x480004F,
      0x4A0004F, 0x4C0004F, 0x4E0004F, 0x500004F, 0x520004F, 0x540004F, 0x560004F, 0x580004F, 0x5A0004F,
      0x5C0004F, 0x5E0004F, 0x600004F, 0x620004F, 0x640004F, 0x660004F, 0x680004F, 0x6A0004F, 0x6C0004F,
      0x6E0004F, 0x700004F, 0x720004F, 0x740004F, 0x760004F, 0x780004F, 0x7A0004F, 0x7C0004F, 0x7E0004F,
      0x800004F, 0x820004F, 0x840004F, 0x860004F] &&
    formatIs .rcpw 0x006000FF [
      0x51, 0x200051] &&
    formatIs .rcr 0x00E000FF [
      0x53, 0x200053, 0x400053, 0x600053, 0x800053, 0xA00053, 0xC00053, 0xE00053, 0x55, 0x200055, 0x400055,
      0x600055, 0x800055, 0xA00055, 0xC00055, 0xE00055, 0x57, 0x200057, 0x400057, 0x600057, 0x800057, 0xA00057] &&
    formatIs .rcrr 0x00E000FF [
      0x59] &&
    formatIs .rcrw 0x00E000FF [
      0x5B, 0x20005B] &&
    formatIs .rlc 0x000000FF [
      0x5D, 0x5F, 0x61, 0x63, 0x65, 0x67, 0x69, 0x6B, 0x6D] &&
    formatIs .rr 0x0FF000FF [
      0x6F, 0x10006F, 0x20006F, 0x30006F, 0x40006F, 0x50006F, 0x60006F, 0x70006F, 0x80006F, 0x90006F, 0xA0006F,
      0xB0006F, 0xC0006F, 0xD0006F, 0xE0006F, 0xF0006F, 0x100006F, 0x110006F, 0x120006F, 0x130006F, 0x140006F,
      0x150006F, 0x160006F, 0x170006F, 0x180006F, 0x190006F, 0x1A0006F, 0x1B0006F, 0x1C0006F, 0x1D0006F,
      0x1E0006F, 0x1F0006F, 0x200006F, 0x210006F, 0x220006F, 0x230006F, 0x240006F, 0x250006F, 0x260006F,
      0x270006F, 0x280006F, 0x290006F, 0x2A0006F, 0x2B0006F, 0x2C0006F, 0x2D0006F, 0x2E0006F, 0x2F0006F,
      0x300006F, 0x310006F, 0x320006F, 0x330006F, 0x340006F, 0x350006F, 0x360006F, 0x370006F, 0x380006F,
      0x390006F, 0x3A0006F, 0x3B0006F, 0x3C0006F, 0x3D0006F, 0x3E0006F, 0x3F0006F, 0x400006F, 0x410006F,
      0x420006F, 0x430006F, 0x440006F, 0x450006F, 0x460006F, 0x470006F, 0x480006F, 0x490006F, 0x4A0006F,
      0x4B0006F, 0x4C0006F, 0x4D0006F, 0x4E0006F, 0x4F0006F, 0x500006F, 0x510006F, 0x520006F, 0x530006F,
      0x540006F, 0x550006F, 0x560006F, 0x570006F, 0x580006F, 0x590006F, 0x5A0006F, 0x5B0006F, 0x5C0006F,
      0x5D0006F, 0x5E0006F, 0x5F0006F, 0x600006F, 0x610006F, 0x620006F, 0x630006F, 0x640006F, 0x650006F,
      0x660006F, 0x670006F, 0x680006F, 0x690006F, 0x6A0006F, 0x6B0006F, 0x6C0006F, 0x6D0006F, 0x6E0006F,
      0x6F0006F, 0x700006F, 0x710006F, 0x720006F, 0x730006F, 0x740006F, 0x750006F, 0x760006F, 0x770006F,
      0x780006F, 0x790006F, 0x7A0006F, 0x7B0006F, 0x7C0006F, 0x7D0006F, 0x7E0006F, 0x7F0006F, 0x800006F,
      0x810006F, 0x820006F, 0x830006F, 0x840006F, 0x850006F, 0x860006F, 0x870006F, 0x880006F, 0x890006F,
      0x8A0006F, 0x8B0006F, 0x8C0006F, 0x8D0006F, 0x8E0006F, 0x8F0006F, 0x900006F, 0x910006F, 0x920006F,
      0x930006F, 0x940006F] &&
    formatIs .rrpw 0x006000FF [
      0x71, 0x200071, 0x400071, 0x600071, 0x73] &&
    formatIs .rrr 0x00F000FF [
      0x75, 0x100075, 0x200075, 0x300075, 0x400075, 0x500075, 0x600075, 0x700075, 0x800075, 0x900075, 0xA00075,
      0xB00075, 0xC00075, 0xD00075, 0xE00075, 0xF00075, 0x77, 0x100077, 0x200077, 0x300077, 0x400077, 0x500077,
      0x600077, 0x700077, 0x800077, 0x900077, 0xA00077, 0xB00077, 0xC00077, 0xD00077, 0xE00077, 0xF00077, 0x79,
      0x100079, 0x200079, 0x300079, 0x400079, 0x500079, 0x600079, 0x700079, 0x800079, 0x900079, 0xA00079,
      0xB00079, 0xC00079, 0xD00079, 0xE00079, 0xF00079, 0x7B]) = true := by decide

theorem test_formats_3 :
    (formatIs .rrrr 0x00E000FF [
      0x7D, 0x20007D, 0x40007D, 0x60007D] &&
    formatIs .rrrw 0x00E000FF [
      0x7F, 0x20007F, 0x40007F, 0x60007F] &&
    formatIs .sys 0x0FC000FF [
      0x83, 0x400083, 0x800083, 0xC00083, 0x1000083, 0x1400083, 0x1800083, 0x1C00083, 0x2000083, 0x2400083,
      0x2800083, 0x2C00083, 0x3000083] &&
    formatIs .srrs 0x003F [
      0x2] &&
    formatIs .sbrn 0x007F [
      0x4, 0x6] &&
    formatIs .sb 0x00FF [
      0x8, 0xA, 0xC] &&
    formatIs .sbc 0x00FF [
      0xE, 0x10] &&
    formatIs .sbr 0x00FF [
      0x12, 0x14, 0x16, 0x18, 0x1A, 0x1C, 0x1E, 0x20, 0x22, 0x24, 0x26, 0x28] &&
    formatIs .sc 0x00FF [
      0x2A, 0x2C, 0x2E, 0x30, 0x32]) = true := by decide

theorem test_formats_4 :
    (formatIs .slr 0x00FF [
      0x34, 0x36, 0x38, 0x3A, 0x3C, 0x3E, 0x40, 0x44, 0x46, 0x48] &&
    formatIs .slro 0x00FF [
      0x4A, 0x4C, 0x4E, 0x50, 0x52] &&
    formatIs .sr 0xF0FF [
      0x54, 0x1054, 0x2054, 0x3054, 0x4054, 0x5054, 0x6054, 0x7054, 0x8054, 0x9054, 0xA054] &&
    formatIs .src 0x00FF [
      0x56, 0x58, 0x5A, 0x5C, 0x5E, 0x60, 0x62, 0x64, 0x66, 0x68, 0x6A, 0x6C] &&
    formatIs .sro 0x00FF [
      0x6E, 0x70, 0x72, 0x74, 0x76, 0x78, 0x7A, 0x7C, 0x7E] &&
    formatIs .srr 0x00FF [
      0x80, 0x88, 0x8A, 0x8C, 0x8E, 0x90, 0x92, 0x94, 0x96, 0x98, 0x9A, 0x9C, 0x9E, 0xA0, 0xA2, 0xA4, 0xA6,
      0xA8, 0xAA, 0xAC, 0xAE, 0xB0] &&
    formatIs .ssr 0x00FF [
      0xB2, 0xB4, 0xB6, 0xB8, 0xBA, 0xBC, 0xBE, 0xC0] &&
    formatIs .ssro 0x00FF [
      0xC4, 0xC6, 0xC8, 0xCA]) = true := by decide

/-- Words that are no instruction (spec/99_vectors_encoding_memory_division.md section 1.2). -/
theorem test_illegalWords : decodeWord 0x00000085 = .error .illegalOpcode ∧ decodeWord 0x0FF0006F = .error .illegalOpcode ∧
    decodeWord 0x00000000 = .error .illegalOpcode := ⟨rfl, rfl, rfl⟩

/-! ## Vectors

Rows of the spec's vector files: an instruction word, what the start state differs in from the base state, and what the rules
require after one step (spec/95_test_vectors.md section 1). A row that `listed` marks checks the items it lists and the pc; any
other row checks the whole state. -/

/-- One item of a start or end state: a register, a field of the PSW, or bytes of memory. -/
inductive Item where
  | d (n : Fin 16) (v : Word) | a (n : Fin 16) (v : Word) | e (n : Nat) (v : Nat)
  | psw (v : Word) | pcxi (v : Word) | fcx (v : Word) | lcx (v : Word) | icr (v : Word) | isp (v : Word)
  | biv (v : Word) | btv (v : Word) | syscon (v : Word) | pc (v : Word)
  | f (pos width v : Nat)
  | m (addr : Word) (size v : Nat)

/-- The state with the item at its value. -/
def Item.apply (s : State) : Item → State
  | .d n v => { s with d := s.d.set n v }
  | .a n v => { s with a := s.a.set n v }
  | .e n v => { s with d := (s.d.set! n (BitVec.ofNat 32 v)).set! (n + 1) (BitVec.ofNat 32 (v / 2 ^ 32)) }
  | .psw v => { s with psw := v }
  | .pcxi v => { s with pcxi := v }
  | .fcx v => { s with fcx := v }
  | .lcx v => { s with csfr := { s.csfr with lcx := v } }
  | .icr v => { s with icr := v }
  | .isp v => { s with csfr := { s.csfr with isp := v } }
  | .biv v => { s with csfr := { s.csfr with biv := v } }
  | .btv v => { s with csfr := { s.csfr with btv := v } }
  | .syscon v => { s with csfr := { s.csfr with syscon := v } }
  | .pc v => { s with pc := v }
  | .f pos w v => { s with psw := BitVec.ofNat 32 (s.psw.toNat - (s.psw.toNat / 2 ^ pos % 2 ^ w) * 2 ^ pos + v * 2 ^ pos) }
  | .m x n v => { s with mem := Memory.writeBytes s.mem (fun k => x + BitVec.ofNat 32 k) v n }

/-- A row of a vector table. -/
structure Row where
  listed : Bool
  word : Nat
  bits : Nat
  start : List Item
  finish : List Item

/-- The base state of the vectors. -/
def base : State :=
  { State.reset with
    pc := 0x80000100
    csfr := { State.reset.csfr with btv := 0, biv := 0 }
    cfg := { Config.default with memMap := [⟨0, 2 ^ 32, .storage⟩] } }

/-- The start state of a row. -/
def Row.before (r : Row) : State :=
  let s := r.start.foldl Item.apply base
  { s with mem := Memory.writeBytes s.mem s.codeByte (r.word % 2 ^ r.bits) (r.bits / 8) }

/-- The step gives what the row requires. -/
noncomputable def Row.ok (r : Row) : Bool :=
  let s := r.before
  let u := r.finish.foldl Item.apply { s with pc := s.pc + BitVec.ofNat 32 (r.bits / 8) }
  match step s with
  | .next t => if r.listed then decide (t.pc = u.pc) && r.finish.all fun i => decide (i.apply t = t) else decide (t = u)
  | .fault _ => false
  | .refused _ => false

/-- 97_vectors_arith.md section 1: `mov d3,-14526`, `movh d3,526`, `addi d3,d1,-14526`, `addc d3,d1,d2`, `adds.u d3,d1,d2`, `subc d3,d1,d2`, `subs.u d3,d1,d2`, `rsubs.u d3,d1,253`. -/
theorem test_integer_1 : ([
    ⟨false, 0x3C74206B, 32, [], [.d 3 0xFFFFC742]⟩,
    ⟨false, 0x3020E069, 32, [], [.d 3 0x20E0000]⟩,
    ⟨false, 0x3C742161, 32, [.d 1 0x4000], [.d 3 0x742, .f 30 1 0, .f 28 1 0]⟩,
    ⟨true, 0x30F0216F, 32, [.d 1 0x7FFFFFFF, .d 2 0x0, .f 31 1 1], [.d 3 0x80000000, .f 31 1 0, .f 30 1 1, .f 28 1 1]⟩,
    ⟨false, 0x3140216F, 32, [.d 1 0xFFFFFFFF, .d 2 0x1], [.d 3 0xFFFFFFFF, .f 30 1 1, .f 29 1 1, .f 28 1 0]⟩,
    ⟨false, 0x3830216F, 32, [.d 1 0x0, .d 2 0x0, .f 31 1 0], [.d 3 0xFFFFFFFF, .f 31 1 0]⟩,
    ⟨false, 0x3880216F, 32, [.d 1 0x3, .d 2 0x5], [.d 3 0x0, .f 30 1 1, .f 29 1 1, .f 28 1 0]⟩,
    ⟨false, 0x356FD14F, 32, [.d 1 0x3], [.d 3 0xFA, .f 30 1 0]⟩] : List Row).all Row.ok = true := by decide +kernel

/-- 97_vectors_arith.md section 1: `abss d3,d1`, `absdifs d3,d1,d2`, `min d3,d1,d2`, `sat.b d1`, `sat.hu d3,d1`, `cadd d3,d4,d1,d2`, `csubn d3,d4,d1,d2`, `cmovn d1,d15,-1`. -/
theorem test_integer_2 : ([
    ⟨false, 0x30A0016F, 32, [.d 1 0x80000000], [.d 3 0x7FFFFFFF, .f 30 1 1, .f 29 1 1, .f 28 1 1, .f 27 1 1]⟩,
    ⟨true, 0x3060216F, 32, [.d 1 0x7FFFFFFF, .d 2 0x80000000], [.d 3 0x7FFFFFFF, .f 30 1 1, .f 28 1 1]⟩,
    ⟨false, 0x3540216F, 32, [.d 1 0xFFFFFFFF, .d 2 0x1], [.d 3 0xFFFFFFFF]⟩,
    ⟨false, 0x8154, 16, [.d 1 0xFFFFFFFF], [.d 1 0xFFFFFFFF]⟩,
    ⟨false, 0x3710016F, 32, [.d 1 0x12345], [.d 3 0xFFFF]⟩,
    ⟨false, 0x34302175, 32, [.d 4 0x0, .d 1 0x40000000, .d 2 0x5, .f 30 1 1], [.d 3 0x40000000, .f 30 1 0, .f 28 1 1, .f 27 1 1]⟩,
    ⟨false, 0x34602175, 32, [.d 4 0x0, .d 1 0xA, .d 2 0x3], [.d 3 0x7]⟩,
    ⟨false, 0xF15E, 16, [.d 15 0x0, .d 1 0x9], [.d 1 0xFFFFFFFF]⟩] : List Row).all Row.ok = true := by decide +kernel

/-- 97_vectors_arith.md section 2: `mul d3,d1,126`, `muls d3,d1,d2`, `mulm e4,d1,d2`, `madd d0,d4,d1,-1`, `madds.u d0,d4,d1,d2`, `maddm.u e0,e4,d10,d12`, `maddms.u e0,e4,d10,d12`, `msubs d0,d4,d1,d2`. -/
theorem test_multiply_1 : ([
    ⟨false, 0x33E7E14F, 32, [.d 1 0x7], [.d 3 0x372, .f 30 1 0, .f 28 1 0]⟩,
    ⟨true, 0x3600216F, 32, [.d 1 0x10000, .d 2 0xFFFF0000], [.d 3 0x80000000, .f 30 1 1, .f 28 1 1]⟩,
    ⟨false, 0x45C0216F, 32, [.d 1 0xFFFFFFFF, .d 2 0x2], [.d 4 0xFFFFFFFE, .d 5 0xFFFFFFFF, .f 30 1 0, .f 28 1 0]⟩,
    ⟨false, 0x045FF155, 32, [.d 4 0xA, .d 1 0x3], [.d 0 0x7]⟩,
    ⟨true, 0x04902177, 32, [.d 4 0xFFFFFFF0, .d 1 0x4, .d 2 0x4], [.d 0 0xFFFFFFFF, .f 30 1 1, .f 28 1 0]⟩,
    ⟨false, 0x04F0CA75, 32, [.e 4 0xFFFFFFFF, .d 10 0xFFFFFFFF, .d 12 0xFFFFFFFF], [.e 0 0xFFFFFFFF00000000, .f 30 1 0, .f 28 1 0]⟩,
    ⟨true, 0x0400CA77, 32, [.e 4 0xFFFFFFFFFFFFFFFF, .d 10 0x1, .d 12 0x1], [.e 0 0xFFFFFFFFFFFFFFFF, .f 30 1 1, .f 28 1 0]⟩,
    ⟨true, 0x04B02179, 32, [.d 4 0x7FFFFFFF, .d 1 0x1, .d 2 0xFFFFFFFF], [.d 0 0x7FFFFFFF, .f 30 1 1, .f 28 1 1]⟩] : List Row).all Row.ok = true := by decide +kernel

/-- 97_vectors_arith.md section 2: `msubm e0,e4,d10,d12`, `msubms e0,e4,d10,d12`, `maddm e4,e4,d4,d5`, `dvinit.b e2,d0,d1`, `dvstep e2,d1`, `dvadj e2,d1`. -/
theorem test_multiply_2 : ([
    ⟨false, 0x0430CA79, 32, [.e 4 0x100000000, .d 10 0x1, .d 12 0x1], [.e 0 0xFFFFFFFF, .f 30 1 0, .f 28 1 0]⟩,
    ⟨true, 0x0420CA79, 32, [.e 4 0x8000000000000000, .d 10 0x1, .d 12 0x1], [.e 0 0x8000000000000000, .f 30 1 1, .f 28 1 1]⟩,
    ⟨false, 0x44205477, 32, [.e 4 0x300000002], [.e 4 0x300000008]⟩,
    ⟨false, 0x22E0106F, 32, [.d 0 0xC8, .d 1 0x1], [.e 2 0xC8000000, .f 30 1 0]⟩,
    ⟨false, 0x1298, 16, [.e 2 0x64000000, .d 1 0x7], [.e 2 0x20000000E]⟩,
    ⟨false, 0x1294, 16, [.e 2 0xFFFFFFF9FFFFFFFD, .d 1 0x7], [.e 2 0xFFFFFFFD]⟩] : List Row).all Row.ok = true := by decide +kernel

/-- 97_vectors_arith.md section 3: `and d3,d1,126`, `andn d3,d1,0xFF`, `nand d3,d1,d2`, `nor d3,d1,0`, `or d3,d1,126`, `orn d3,d1,0x7E`, `xnor d3,d1,d2`, `xor d3,d1,d1`. -/
theorem test_logic_1 : ([
    ⟨false, 0x31C7E14F, 32, [.d 1 0xFFFF00FF], [.d 3 0x7E]⟩,
    ⟨false, 0x31AFF14F, 32, [.d 1 0xFFFFFFFF], [.d 3 0xFFFFFF00]⟩,
    ⟨false, 0x3620216F, 32, [.d 1 0xFFFF, .d 2 0xFF00FF], [.d 3 0xFFFFFF00]⟩,
    ⟨false, 0x3440014F, 32, [.d 1 0xFFFF], [.d 3 0xFFFF0000]⟩,
    ⟨false, 0x3547E14F, 32, [.d 1 0x100], [.d 3 0x17E]⟩,
    ⟨false, 0x3527E14F, 32, [.d 1 0x0], [.d 3 0xFFFFFF81]⟩,
    ⟨false, 0x38D0216F, 32, [.d 1 0xFFFF, .d 2 0xFF00FF], [.d 3 0xFF0000FF]⟩,
    ⟨false, 0x3940116F, 32, [.d 1 0xDEADBEEF, .f 30 1 1], [.d 3 0x0, .f 30 1 1]⟩] : List Row).all Row.ok = true := by decide +kernel

/-- 97_vectors_arith.md section 3: `clo d3,d1`, `cls d3,d1`, `sh d3,d1,1`, `sha d1,7`, `extr d3,d1,8,8`, `extr.u d3,d1,8,0`, `dextr d1,d3,d5,8`, `insert d3,d1,5,d4,3`. -/
theorem test_logic_2 : ([
    ⟨false, 0x3250016F, 32, [.d 1 0xFFF00000], [.d 3 0xC]⟩,
    ⟨false, 0x3280016F, 32, [.d 1 0xFFFFFFFF], [.d 3 0x1F]⟩,
    ⟨false, 0x3740114F, 32, [.d 1 0x80000001], [.d 3 0x2]⟩,
    ⟨true, 0x716A, 16, [.d 1 0x1000000, .f 31 1 1], [.d 1 0x80000000, .f 31 1 0, .f 30 1 1, .f 28 1 1]⟩,
    ⟨false, 0x34480171, 32, [.d 1 0xF5A0], [.d 3 0xFFFFFFF5]⟩,
    ⟨false, 0x34200171, 32, [.d 1 0xF5A0], [.d 3 0x0]⟩,
    ⟨false, 0x14005371, 32, [.d 3 0x12345678, .d 5 0x9ABCDEF0], [.d 1 0x3456789A]⟩,
    ⟨false, 0x3423515B, 32, [.d 1 0xFFFFFFFF, .d 4 0x10], [.d 3 0xFFFDFFFF]⟩] : List Row).all Row.ok = true := by decide +kernel

/-- 97_vectors_arith.md section 4: `mul.q d0,d2,d3,0`, `mulr.q d3,d1,d2,1`, `mulr.h d0,d1,d2,1`, `madds.q d0,d4,d1,d2,1`, `maddr.q d0,d4,d1,d2,1`, `maddm.q e2,e4,d1,d6`, `madds.h e0,e8,d2,d3,1`, `maddrs.h d3,e4,d1,d2,0`. -/
theorem test_dsp_1 : ([
    ⟨false, 0x05A0326F, 32, [.d 2 0x15000000, .d 3 0x20000000], [.d 0 0x2A00000]⟩,
    ⟨true, 0x35E1216F, 32, [.d 1 0x80000000, .d 2 0x80000000], [.d 3 0x80000000, .f 30 1 1, .f 28 1 1]⟩,
    ⟨false, 0x05D1216F, 32, [.d 1 0x4000C000, .d 2 0x20014000], [.d 0 0x1001E000, .f 30 1 0, .f 28 1 0]⟩,
    ⟨true, 0x04812177, 32, [.d 4 0x70000000, .d 1 0x40000000, .d 2 0x40000000], [.d 0 0x7FFFFFFF, .f 30 1 1, .f 28 1 1]⟩,
    ⟨false, 0x04412177, 32, [.d 4 0x10008000, .d 1 0x40000000, .d 2 0x20000000], [.d 0 0x20010000, .f 30 1 0]⟩,
    ⟨false, 0x24E06175, 32, [.e 4 0x0, .d 1 0x80000000, .d 6 0x80000000], [.e 2 0x400000000000]⟩,
    ⟨true, 0x08713277, 32, [.e 8 0x7000000080000000, .d 2 0x4000FFFF, .d 3 0x40000001], [.e 0 0x7FFFFFFF80000000, .f 30 1 1, .f 28 1 1]⟩,
    ⟨true, 0x34502177, 32, [.e 4 0x7FFF800000000000], [.d 3 0x7FFF0000, .f 30 1 1, .f 28 1 1]⟩] : List Row).all Row.ok = true := by decide +kernel

/-- 97_vectors_arith.md section 4: `maddm.h e0,e4,d2,d7`, `msubs.q d0,d4,d1,d2,1`, `msubrs.q d3,d4,d1,d2,0`, `msubm.q e12,e4,d1,d2`, `msubs.h e4,e0,d11,d2,1`, `msubrs.h d10,e4,d1,d2,0`. -/
theorem test_dsp_2 : ([
    ⟨false, 0x04D07275, 32, [.e 4 0x100000000, .d 2 0x40000002, .d 7 0x20000003], [.e 0 0x80100060000, .f 30 1 0, .f 28 1 0]⟩,
    ⟨true, 0x04912179, 32, [.d 4 0x90000000, .d 1 0x40000000, .d 2 0x40000000], [.d 0 0x80000000, .f 30 1 1, .f 28 1 1]⟩,
    ⟨true, 0x34702179, 32, [.d 4 0x7FFF8000], [.d 3 0x7FFF0000, .f 30 1 1, .f 28 1 1]⟩,
    ⟨false, 0xC4F02177, 32, [.e 4 0x100000000, .d 1 0x40000000, .d 2 0x20000000], [.e 12 0xFFFFF80100000000, .f 30 1 0, .f 28 1 0]⟩,
    ⟨true, 0x40812B79, 32, [.e 0 0x900000007FFFFFFF, .d 11 0x4000FFFF, .d 2 0x40000001], [.e 4 0x800000007FFFFFFF, .f 30 1 1, .f 28 1 1]⟩,
    ⟨true, 0xA4602179, 32, [.e 4 0x7FFF800000000000], [.d 10 0x7FFF0000, .f 30 1 1, .f 28 1 1]⟩] : List Row).all Row.ok = true := by decide +kernel

/-- 97_vectors_arith.md section 5: `abs.b d3,d1`, `abss.h d3,d1`, `absdif.b d3,d1,d2`, `add.h d3,d1,d2`, `adds.b d3,d1,d2`, `adds.hu d3,d1,d2`, `subs.b d3,d1,d2`, `subs.hu d3,d1,d2`. -/
theorem test_packed_1 : ([
    ⟨false, 0x3000016F, 32, [.d 1 0x80FF7F01], [.d 3 0x80017F01, .f 30 1 1, .f 29 1 1, .f 28 1 1, .f 27 1 1]⟩,
    ⟨true, 0x3090016F, 32, [.d 1 0x8000FFFE], [.d 3 0x7FFF0002, .f 30 1 1, .f 28 1 1]⟩,
    ⟨false, 0x3020216F, 32, [.d 1 0x7F05FF10, .d 2 0x800AFF20], [.d 3 0xFF050010, .f 30 1 1, .f 29 1 1, .f 28 1 0]⟩,
    ⟨false, 0x30E0216F, 32, [.d 1 0x10002, .d 2 0x30004, .f 31 1 1], [.d 3 0x40006, .f 30 1 0, .f 28 1 0, .f 31 1 1]⟩,
    ⟨false, 0x3110216F, 32, [.d 1 0x7F80FF40, .d 2 0x180FF30], [.d 3 0x7F80FE70, .f 30 1 1, .f 29 1 1, .f 28 1 1, .f 27 1 1]⟩,
    ⟨true, 0x3120216F, 32, [.d 1 0xFFFF8000, .d 2 0x17000], [.d 3 0xFFFFF000, .f 30 1 1, .f 28 1 0]⟩,
    ⟨false, 0x3850216F, 32, [.d 1 0x807F0500, .d 2 0x1FF0301], [.d 3 0x807F02FF, .f 30 1 1, .f 29 1 1, .f 28 1 1, .f 27 1 1]⟩,
    ⟨true, 0x3860216F, 32, [.d 1 0x80000005, .d 2 0x10007], [.d 3 0x7FFF0000, .f 30 1 1, .f 28 1 1]⟩] : List Row).all Row.ok = true := by decide +kernel

/-- 97_vectors_arith.md section 5: `max.b d3,d1,d2`, `min.h d3,d1,d2`, `min.bu d3,d1,d2`, `clz.h d3,d1`, `cls.b d3,d1`, `sh.h d3,d1,d2`. -/
theorem test_packed_2 : ([
    ⟨false, 0x34A0216F, 32, [.d 1 0x7F80FF01, .d 2 0x807F0102], [.d 3 0x7F7F0102]⟩,
    ⟨false, 0x3520216F, 32, [.d 1 0x8000FFFF, .d 2 0x7FFF0001], [.d 3 0x8000FFFF]⟩,
    ⟨false, 0x34F0216F, 32, [.d 1 0x7F80FF01, .d 2 0x807F0102], [.d 3 0x7F7F0101]⟩,
    ⟨false, 0x32A0016F, 32, [.d 1 0x18000], [.d 3 0xF0000]⟩,
    ⟨false, 0x3260016F, 32, [.d 1 0xFF0FF0], [.d 3 0x7070303]⟩,
    ⟨false, 0x3770216F, 32, [.d 1 0x8001FFF0, .d 2 0x10], [.d 3 0x0]⟩] : List Row).all Row.ok = true := by decide +kernel

/-- 98_vectors_control.md section 1: `eq d3,d1,126`, `ge d3,d1,126`, `and.lt d3,d1,d2`, `or.eq d3,d1,d2`, `or.ge.u d3,d1,d2`, `xor.lt.u d3,d1,d2`, `sh.ne d3,d1,d2`, `sh.ge.u d3,d1,d2`. -/
theorem test_compare_1 : ([
    ⟨false, 0x3247E14F, 32, [.d 1 0x7E, .d 3 0xFFFFFFFF], [.d 3 0x1]⟩,
    ⟨false, 0x3287E14F, 32, [.d 1 0x7E], [.d 3 0x1]⟩,
    ⟨false, 0x31E0216F, 32, [.d 1 0xFFFFFFFF, .d 2 0x1, .d 3 0xABCD0001], [.d 3 0xABCD0001]⟩,
    ⟨false, 0x3670216F, 32, [.d 1 0x7, .d 2 0x7, .d 3 0xABCD0000], [.d 3 0xABCD0001]⟩,
    ⟨false, 0x3680216F, 32, [.d 1 0x80000000, .d 2 0x0, .d 3 0xABCD0000], [.d 3 0xABCD0001]⟩,
    ⟨false, 0x3910216F, 32, [.d 1 0xFFFFFFFF, .d 2 0x1, .d 3 0xABCD0001], [.d 3 0xABCD0001]⟩,
    ⟨false, 0x37A0216F, 32, [.d 1 0x7, .d 2 0x7, .d 3 0x80000003], [.d 3 0x6]⟩,
    ⟨false, 0x3750216F, 32, [.d 1 0x80000000, .d 2 0x0, .d 3 0x80000003], [.d 3 0x7]⟩] : List Row).all Row.ok = true := by decide +kernel

/-- 98_vectors_control.md section 1: `eqany.h d3,d1,d2`, `lt.hu d3,d1,d2`, `andn.t d3,d1,7,d2,2`, `orn.t d3,d1,0,d2,4`, `and.nor.t d3,d1,4,d2,9`, `or.nor.t d3,d1,3,d2,8`, `sh.nand.t d3,d1,4,d2,7`, `sh.xnor.t d3,d1,4,d2,7`. -/
theorem test_compare_2 : ([
    ⟨false, 0x3380216F, 32, [.d 1 0xABCD, .d 2 0x1234], [.d 3 0x1]⟩,
    ⟨false, 0x3430216F, 32, [.d 1 0x80000001, .d 2 0x10002], [.d 3 0xFFFF]⟩,
    ⟨false, 0x3127211F, 32, [.d 1 0x84, .d 2 0x10], [.d 3 0x1]⟩,
    ⟨false, 0x32602123, 32, [.d 1 0x84, .d 2 0x10], [.d 3 0x0]⟩,
    ⟨false, 0x34C4211D, 32, [.d 1 0x10, .d 2 0x200, .d 3 0xFFFF0001], [.d 3 0xFFFF0000]⟩,
    ⟨false, 0x34032123, 32, [.d 1 0x10, .d 2 0x200, .d 3 0xFFFF0000], [.d 3 0xFFFF0001]⟩,
    ⟨false, 0x33C42125, 32, [.d 1 0x10, .d 2 0x0, .d 3 0x80000001], [.d 3 0x3]⟩,
    ⟨false, 0x33C42127, 32, [.d 1 0x10, .d 2 0x0, .d 3 0x80000001], [.d 3 0x2]⟩] : List Row).all Row.ok = true := by decide +kernel

/-- 98_vectors_control.md section 2: `add.a a3,a4,a2`, `addih.a a3,a4,-14526`, `addsc.at a3,a4,d2`, `subsc.a a3,a4,d2,1`, `mov.a a3,d1`, `mov.d d3,a4`, `movz.a a4`, `caddn.a a3,d4,a4,a2`. -/
theorem test_address_1 : ([
    ⟨false, 0x30C0246F, 32, [.a 4 0xD0001000, .a 2 0xFF0], [.a 3 0xD0001FF0]⟩,
    ⟨false, 0x3C74245D, 32, [.a 4 0x10000], [.a 3 0xC7430000]⟩,
    ⟨false, 0x3150246F, 32, [.a 4 0xD0000000, .d 2 0x64], [.a 3 0xD000000C]⟩,
    ⟨false, 0x3891246F, 32, [.a 4 0xD0000100, .d 2 0x5], [.a 3 0xD00000F6]⟩,
    ⟨false, 0x3560106F, 32, [.d 1 0xD0004000], [.a 3 0xD0004000]⟩,
    ⟨false, 0x43A4, 16, [.a 4 0xD0004000], [.d 3 0xD0004000]⟩,
    ⟨false, 0x1454, 16, [.a 4 0x1234], [.a 4 0x0]⟩,
    ⟨false, 0x34102475, 32, [.d 4 0x0, .a 4 0x1000, .a 2 0x20], [.a 3 0x1020]⟩] : List Row).all Row.ok = true := by decide +kernel

/-- 98_vectors_control.md section 2: `csubn.a a3,d4,a4,a2`, `seln.a a3,d4,a4,a2`, `ne.a d3,a4,a2`, `ge.a d3,a4,a2`. -/
theorem test_address_2 : ([
    ⟨false, 0x34502475, 32, [.d 4 0x5, .a 4 0x1000, .a 2 0x20], [.a 3 0x1000]⟩,
    ⟨false, 0x34E02479, 32, [.d 4 0x1, .a 4 0x1000, .a 2 0x2000], [.a 3 0x2000]⟩,
    ⟨false, 0x3630246F, 32, [.a 4 0xD0000000, .a 2 0xD0000004], [.d 3 0x1]⟩,
    ⟨false, 0x33B0246F, 32, [.a 4 0xD0000000, .a 2 0x1000], [.d 3 0x1]⟩] : List Row).all Row.ok = true := by decide +kernel

/-- 98_vectors_control.md section 3: `j L`, `ja ABS`, `jla ABS`, `jli a11`, `jeq d1,6,L`, `jne d15,6,N`, `jge.u d1,15,L`, `jlt d1,-8,L`. -/
theorem test_branch_1 : ([
    ⟨false, 0x0010001B, 32, [], [.pc 0x80000120]⟩,
    ⟨false, 0x2345A115, 32, [], [.pc 0xA002468A]⟩,
    ⟨false, 0x2345A117, 32, [], [.a 11 0x80000104, .pc 0xA002468A]⟩,
    ⟨false, 0x03F0B06F, 32, [.a 11 0x80001234], [.a 11 0x80000104, .pc 0x80001234]⟩,
    ⟨false, 0x00106139, 32, [.d 1 0x6], [.pc 0x80000120]⟩,
    ⟨false, 0x6810, 16, [.d 15 0x6], [.pc 0x80000102]⟩,
    ⟨false, 0x8010F139, 32, [.d 1 0x80000000], [.pc 0x80000120]⟩,
    ⟨false, 0x0010813D, 32, [.d 1 0xFFFFFFF8], [.pc 0x80000104]⟩] : List Row).all Row.ok = true := by decide +kernel

/-- 98_vectors_control.md section 3: `jgez d3,N`, `jgtz d3,N`, `jltz d3,N`, `jz d3,N`, `jnz.t d1,31,L`, `jned d1,d1,L`, `jnei d3,d4,L`, `call F`. -/
theorem test_branch_2 : ([
    ⟨false, 0x3814, 16, [.d 3 0x0], [.pc 0x80000110]⟩,
    ⟨false, 0x3816, 16, [.d 3 0x80000000], [.pc 0x80000102]⟩,
    ⟨false, 0x381C, 16, [.d 3 0x80000000], [.pc 0x80000110]⟩,
    ⟨false, 0x3826, 16, [.d 3 0x0], [.pc 0x80000110]⟩,
    ⟨false, 0x0010F181, 32, [.d 1 0x80000000], [.pc 0x80000120]⟩,
    ⟨false, 0x80101147, 32, [.d 1 0x5], [.pc 0x80000104, .d 1 0x4]⟩,
    ⟨false, 0x00104349, 32, [.d 3 0x9, .d 4 0xA], [.pc 0x80000120, .d 3 0xA]⟩,
    ⟨false, 0x00400013, 32, [.a 11 0x80000050, .d 8 0x88, .btv 0x80001000, .fcx 0xD0010, .lcx 0xD0020, .m 0xD0000400 4 0xD0011], [.pc 0x80000180, .a 11 0x80000104, .f 0 7 1, .f 7 1 1, .pcxi 0x4D0010, .fcx 0xD0011, .m 0xD0000400 4 0x0, .m 0xD0000404 4 0xB80, .m 0xD000040C 4 0x80000050, .m 0xD0000420 4 0x88, .d 8 0x88]⟩] : List Row).all Row.ok = true := by decide +kernel

/-- 98_vectors_control.md section 3: `calla ABS`, `call F`, `call F`, `ret`, `jeq.a a2,a3,L`, `jnz.a a4,N`. -/
theorem test_branch_3 : ([
    ⟨true, 0x2345A111, 32, [.a 11 0x80000050, .btv 0x80001000, .fcx 0xD0010, .lcx 0xD0020, .m 0xD0000400 4 0xD0011], [.pc 0xA002468A, .a 11 0x80000104, .f 0 7 1, .fcx 0xD0011]⟩,
    ⟨true, 0x00400013, 32, [.icr 0x105, .btv 0x80001000, .fcx 0xD0010, .lcx 0xD0020, .m 0xD0000400 4 0xD0011], [.pc 0x80000180, .pcxi 0x5CD0010, .icr 0x105]⟩,
    ⟨true, 0x00400013, 32, [.f 0 7 63, .btv 0x80001000, .fcx 0xD0010, .lcx 0xD0020, .m 0xD0000400 4 0xD0011], [.pc 0x80001060, .d 15 0x2, .a 11 0x80000100, .psw 0xB80, .m 0xD0000404 4 0xBBF]⟩,
    ⟨true, 0x01800083, 32, [.a 11 0x80000104, .f 0 7 1, .pcxi 0xD0030, .btv 0x80001000, .fcx 0xD0010, .lcx 0xD0020, .m 0xD0000400 4 0xD0011], [.pc 0x80001060, .d 15 0x6]⟩,
    ⟨false, 0x00103241, 32, [.a 2 0xD0000000, .a 3 0xD0000000], [.pc 0x80000120]⟩,
    ⟨false, 0x4820, 16, [.a 4 0x4], [.pc 0x80000110]⟩] : List Row).all Row.ok = true := by decide +kernel

/-- 98_vectors_control.md section 4: `ld.w d1,0xD0000010`, `ld.w d1,[+a0]4`, `ld.b d1,[a2]0`, `ld.bu d1,[a2]0`, `ld.q d1,[a2]0`, `ld.d e3,[a4]0`, `ld.da a4,[a2]0`, `st.w [a2+c]4,d1`. -/
theorem test_memory_1 : ([
    ⟨false, 0x0010D107, 32, [.m 0xD0000010 4 0x11223344], [.d 1 0x11223344]⟩,
    ⟨true, 0x0204012D, 32, [.a 0 0xD0000100, .f 8 1 0, .btv 0x80001000, .fcx 0xD0010, .lcx 0xD0020, .m 0xD0000400 4 0xD0011], [.pc 0x80001020, .d 15 0x7, .a 0 0xD0000100]⟩,
    ⟨false, 0x0040212B, 32, [.a 2 0xD0000101, .m 0xD0000101 1 0x80], [.d 1 0xFFFFFF80]⟩,
    ⟨false, 0x0080212B, 32, [.a 2 0xD0000101, .m 0xD0000101 1 0x80], [.d 1 0x80]⟩,
    ⟨false, 0x01C0212B, 32, [.a 2 0xD0000102, .m 0xD0000102 2 0x8001, .d 1 0xFFFFFFFF], [.d 1 0x80010000]⟩,
    ⟨true, 0x00C0432B, 32, [.a 4 0xD0000100, .btv 0x80001000, .fcx 0xD0010, .lcx 0xD0020, .m 0xD0000400 4 0xD0011], [.pc 0x80001040, .d 15 0x3]⟩,
    ⟨false, 0x0100242B, 32, [.a 2 0xD0000100, .m 0xD0000100 4 0xD0001000, .m 0xD0000104 4 0xD0002000], [.a 4 0xD0001000, .a 5 0xD0002000]⟩,
    ⟨true, 0x06C4212F, 32, [.a 2 0xD0000200, .a 3 0x8FFFF, .d 1 0x5, .btv 0x80001000, .fcx 0xD0010, .lcx 0xD0020, .m 0xD0000400 4 0xD0011], [.pc 0x80001040, .d 15 0x4]⟩] : List Row).all Row.ok = true := by decide +kernel

/-- 98_vectors_control.md section 4: `st.h [a2]0,d1`, `st.q [a2]0,d1`, `st.a [a2]0,a3`, `st.da [a2]0,a4`, `ldmst [a2]0,e4`, `swap.w d2,[a2]0`, `lea a3,[a2]-4`, `lea a2,[a2]-0x6544`. -/
theorem test_memory_2 : ([
    ⟨false, 0x0040212F, 32, [.a 2 0xD0000102, .d 1 0x11223344, .m 0xD0000100 4 0xFFFFFFFF], [.m 0xD0000100 4 0x3344FFFF]⟩,
    ⟨false, 0x0080212F, 32, [.a 2 0xD0000102, .d 1 0x11223344, .m 0xD0000100 4 0xFFFFFFFF], [.m 0xD0000100 4 0x1122FFFF]⟩,
    ⟨false, 0x0140232D, 32, [.a 2 0xD0000100, .a 3 0xD0001000], [.m 0xD0000100 4 0xD0001000]⟩,
    ⟨false, 0x0000242F, 32, [.a 2 0xD0000100, .a 4 0xD0001000, .a 5 0xD0002000], [.m 0xD0000100 4 0xD0001000, .m 0xD0000104 4 0xD0002000]⟩,
    ⟨false, 0x0080242D, 32, [.a 2 0xD0000100, .m 0xD0000100 4 0xFFFFFFFF, .d 4 0x580, .d 5 0x780], [.m 0xD0000100 4 0xFFFFFDFF]⟩,
    ⟨false, 0x01C0222F, 32, [.a 2 0xD0000100, .m 0xD0000100 4 0x0, .d 2 0x1], [.m 0xD0000100 4 0x1, .d 2 0x0]⟩,
    ⟨false, 0xF13C232D, 32, [.a 2 0xD0000100], [.a 3 0xD00000FC]⟩,
    ⟨false, 0xA9BC2235, 32, [.a 2 0xD0010000], [.a 2 0xD0009ABC]⟩] : List Row).all Row.ok = true := by decide +kernel

/-- 98_vectors_control.md section 4: `ld.w d3,[a15]15`, `ld.h d3,[a2+]`, `ld.bu d3,[a15]3`, `ld.a a15,[a2]4`, `st.h [a2],d3`, `st.b [a2+],d3`. -/
theorem test_memory_3 : ([
    ⟨true, 0xF352, 16, [.a 15 0xD0000100, .btv 0x80001000, .fcx 0xD0010, .lcx 0xD0020, .m 0xD0000400 4 0xD0011], [.pc 0x80001040, .d 15 0x4]⟩,
    ⟨false, 0x2344, 16, [.a 2 0xD0000102, .m 0xD0000102 2 0x8001], [.d 3 0xFFFF8001, .a 2 0xD0000104]⟩,
    ⟨false, 0x334C, 16, [.a 15 0xD0000100, .m 0xD0000103 1 0x80], [.d 3 0x80]⟩,
    ⟨false, 0x246E, 16, [.a 2 0xD0000100, .m 0xD0000104 4 0xD0001000], [.a 15 0xD0001000]⟩,
    ⟨false, 0x23BA, 16, [.a 2 0xD0000102, .d 3 0x11223344], [.m 0xD0000102 2 0x3344]⟩,
    ⟨false, 0x23B8, 16, [.a 2 0xD0000101, .d 3 0x11223344], [.m 0xD0000101 1 0x44, .a 2 0xD0000102]⟩] : List Row).all Row.ok = true := by decide +kernel

/-- 98_vectors_control.md section 5: `svlcx`, `rslcx`, `bisr 126`, `stucx [a2]0`, `stucx [a2]0`, `lducx [a2]0`, `stlcx 0xD0000040`, `ldlcx 0xD0000040`. -/
theorem test_system_1 : ([
    ⟨false, 0x02800083, 32, [.a 11 0x80000050, .a 2 0xA2, .a 7 0xA7, .d 0 0xD0, .d 7 0xD7, .d 8 0xD8, .btv 0x80001000, .fcx 0xD0010, .lcx 0xD0020, .m 0xD0000400 4 0xD0011], [.pc 0x80000104, .pcxi 0xD0010, .fcx 0xD0011, .m 0xD0000400 4 0x0, .m 0xD0000404 4 0x80000050, .m 0xD0000408 4 0xA2, .m 0xD000041C 4 0xA7, .m 0xD0000420 4 0xD0, .m 0xD000043C 4 0xD7, .m 0xD0000440 4 0x0, .d 0 0xD0]⟩,
    ⟨true, 0x02000083, 32, [.pcxi 0x0, .btv 0x80001000, .fcx 0xD0010, .lcx 0xD0020, .m 0xD0000400 4 0xD0011], [.pc 0x80001060, .d 15 0x5]⟩,
    ⟨true, 0x01E7E04F, 32, [.icr 0x5, .a 11 0x80000050, .btv 0x80001000, .fcx 0xD0010, .lcx 0xD0020, .m 0xD0000400 4 0xD0011], [.pc 0x80000104, .icr 0x17E, .pcxi 0x50D0010, .fcx 0xD0011, .m 0xD0000404 4 0x80000050]⟩,
    ⟨false, 0x0140202F, 32, [.a 2 0xD0000500, .pcxi 0x4D0010, .a 10 0xA10, .a 15 0xA15, .d 8 0xD8, .d 15 0xD15], [.m 0xD0000500 4 0x4D0010, .m 0xD0000504 4 0xB80, .m 0xD0000508 4 0xA10, .m 0xD000051C 4 0xA15, .m 0xD0000520 4 0xD8, .m 0xD000053C 4 0xD15]⟩,
    ⟨true, 0x0140202F, 32, [.a 2 0xD0000520, .btv 0x80001000, .fcx 0xD0010, .lcx 0xD0020, .m 0xD0000400 4 0xD0011], [.pc 0x80001040, .d 15 0x4]⟩,
    ⟨false, 0x00C0202D, 32, [.a 2 0xD0000500, .m 0xD0000500 4 0x12345678, .m 0xD0000504 4 0xFFFFFFFF, .m 0xD0000508 4 0xA10, .m 0xD000051C 4 0xA15, .m 0xD0000520 4 0xD8, .m 0xD000053C 4 0xD15], [.a 10 0xA10, .a 15 0xA15, .d 8 0xD8, .d 15 0xD15, .psw 0xB80, .pcxi 0x0]⟩,
    ⟨false, 0x1000D00D, 32, [.pcxi 0x4D0010, .a 11 0x80000050, .a 2 0xA2, .a 7 0xA7, .d 0 0xD0, .d 7 0xD7], [.m 0xD0000040 4 0x4D0010, .m 0xD0000044 4 0x80000050, .m 0xD0000048 4 0xA2, .m 0xD000005C 4 0xA7, .m 0xD0000060 4 0xD0, .m 0xD000007C 4 0xD7]⟩,
    ⟨false, 0x1400D007, 32, [.m 0xD0000040 4 0x12345678, .m 0xD0000044 4 0x80000050, .m 0xD0000048 4 0xA2, .m 0xD000005C 4 0xA7, .m 0xD0000060 4 0xD0, .m 0xD000007C 4 0xD7], [.a 2 0xA2, .a 7 0xA7, .d 0 0xD0, .d 7 0xD7, .pcxi 0x0]⟩] : List Row).all Row.ok = true := by decide +kernel

/-- 98_vectors_control.md section 5: `rfe`, `syscall 0x1FF`, `enable`, `disable`, `nop`, `dsync`, `isync`, `debug`. -/
theorem test_system_2 : ([
    ⟨false, 0x01C00083, 32, [.a 11 0x80000204, .pcxi 0xCD0010, .fcx 0xD0011, .m 0xD0000400 4 0x0, .m 0xD0000404 4 0x1481, .m 0xD0000408 4 0xD0004000, .m 0xD000040C 4 0x80000050, .m 0xD000043C 4 0x7, .d 15 0x4], [.pc 0x80000204, .psw 0x1481, .pcxi 0x0, .fcx 0xD0010, .icr 0x100, .d 15 0x7, .a 10 0xD0004000, .a 11 0x80000050, .m 0xD0000400 4 0xD0011]⟩,
    ⟨true, 0x077FF04F, 32, [.btv 0x80001000, .fcx 0xD0010, .lcx 0xD0020, .m 0xD0000400 4 0xD0011], [.pc 0x800010C0, .d 15 0xFF]⟩,
    ⟨false, 0x00C00083, 32, [.icr 0x0], [.icr 0x100]⟩,
    ⟨false, 0x00400083, 32, [.icr 0x105], [.icr 0x5]⟩,
    ⟨false, 0x01400083, 32, [], [.pc 0x80000104]⟩,
    ⟨false, 0x00800083, 32, [], [.pc 0x80000104]⟩,
    ⟨false, 0x01000083, 32, [], [.pc 0x80000104]⟩,
    ⟨false, 0x00000083, 32, [], [.pc 0x80000104]⟩] : List Row).all Row.ok = true := by decide +kernel

/-- 98_vectors_control.md section 5: `mfcr d3,12`, `mtcr 12,d1`, `mtcr 4,d1`, `rstv`, `trapv`, `trapsv`. -/
theorem test_system_3 : ([
    ⟨false, 0x3000C063, 32, [.fcx 0xD0010], [.d 3 0xD0010]⟩,
    ⟨true, 0x0000C16D, 32, [.d 1 0x1, .f 10 2 1, .btv 0x80001000, .fcx 0xD0010, .lcx 0xD0020, .m 0xD0000400 4 0xD0011], [.pc 0x80001020, .d 15 0x1, .fcx 0xD0011]⟩,
    ⟨false, 0x0000416D, 32, [.d 1 0xFFFFFFFF], [.psw 0xF8003FFF]⟩,
    ⟨false, 0x02400083, 32, [.psw 0xF8000B80], [.psw 0x80000B80]⟩,
    ⟨true, 0x03000083, 32, [.f 30 1 1, .btv 0x80001000, .fcx 0xD0010, .lcx 0xD0020, .m 0xD0000400 4 0xD0011], [.pc 0x800010A0, .d 15 0x1, .a 11 0x80000100, .m 0xD0000404 4 0x40000B80]⟩,
    ⟨false, 0x02C00083, 32, [.f 29 1 0, .f 30 1 1], [.pc 0x80000104]⟩] : List Row).all Row.ok = true := by decide +kernel

/-! ## Helpers of the witnesses -/

/-- The base state with some items set. -/
def at0 (l : List Item) : State := l.foldl Item.apply base

/-- The same state with memory behind segment 13 only. -/
def bare (s : State) : State := { s with cfg := { s.cfg with memMap := [⟨0xD0000000, 0x10000000, .storage⟩] } }

/-- The instruction `w` of `bits` bits at pc. -/
def placed (w bits : Nat) (l : List Item) : State := (at0 l).placeWord bits w

/-- The step answers a next state. -/
noncomputable def isNext (s : State) : Bool :=
  match step s with
  | .next _ => true
  | .fault _ => false
  | .refused _ => false

theorem next_of (s : State) (h : isNext s = true) : ∃ t, step s = .next t := by
  unfold isNext at h
  cases e : step s with
  | next t => exact ⟨t, rfl⟩
  | fault f => rw [e] at h; cases h
  | refused r => rw [e] at h; cases h

/-! ## Witnesses: concrete states and operands that meet the hypotheses of the statements -/

/-- A state with all of its accesses permitted by no range: SYSCON.PROTEN = 1 and no entry. -/
def guarded (s : State) (sets : List (List RangeEntry)) : State :=
  { s with csfr := { s.csfr with syscon := 2 }, dataSets := sets, codeSets := sets }

/-- One set with one entry for all addresses below the peripheral segments, with the mode bits `m`. -/
def oneRange (m : BitVec 8) : List (List RangeEntry) := [[⟨0, 0xE0000000, m⟩]]

theorem witness_MovesAndSelects : (at0 [.d 15 1]).getD 15 ≠ 0 ∧ (at0 []).getD 15 = 0 := by decide

theorem witness_ComparePacked :
    (∃ k, k < 4 ∧ element 8 ((at0 [.d 1 0x11000000, .d 2 0x112233FF]).getD 1) k =
      element 8 ((at0 [.d 1 0x11000000, .d 2 0x112233FF]).getD 2) k) ∧
    (¬ ∃ k, k < 4 ∧ element 8 ((at0 [.d 2 0x11223344]).getD 1) k = element 8 ((at0 [.d 2 0x11223344]).getD 2) k) ∧
    (∃ k, k < 4 ∧ element 8 ((at0 [.d 1 0xFF000000]).getD 1) k = element 8 (BitVec.ofInt 32 (0x17F : BitVec 9).toInt) k) ∧
    (∃ k, k < 2 ∧ element 16 ((at0 [.d 2 0x1122]).getD 1) k = element 16 ((at0 [.d 2 0x1122]).getD 2) k) ∧
    ¬ ∃ k, k < 2 ∧ element 16 ((at0 []).getD 1) k = element 16 (BitVec.ofInt 32 (0x1FF : BitVec 9).toInt) k :=
  ⟨⟨3, by decide, by decide⟩, fun ⟨k, hk, h⟩ => absurd h ((by decide : ∀ k, k < 4 →
      element 8 ((at0 [.d 2 0x11223344]).getD 1) k ≠ element 8 ((at0 [.d 2 0x11223344]).getD 2) k) k hk),
    ⟨3, by decide, by decide⟩, ⟨1, by decide, by decide⟩, fun ⟨k, hk, h⟩ => absurd h ((by decide : ∀ k, k < 2 →
      element 16 ((at0 []).getD 1) k ≠ element 16 (BitVec.ofInt 32 (0x1FF : BitVec 9).toInt) k) k hk)⟩

theorem witness_pairs : (¬ IsOdd 0 ∧ ¬ IsOdd 14) ∧ IsOdd 1 ∧ IsOdd 15 := by unfold IsOdd; decide

/-- MultiplyPair, DivideInitialize, FractionalAccumulate, BitFields: even pairs at both ends of the register file. -/
theorem witness_MultiplyPair : ¬ IsOdd 14 ∧ ¬ IsOdd 0 := ⟨witness_pairs.1.2, witness_pairs.1.1⟩
theorem witness_DivideInitialize : ¬ IsOdd 14 := witness_pairs.1.2
theorem witness_FractionalAccumulate : ¬ IsOdd 14 ∧ ¬ IsOdd 0 := witness_MultiplyPair
theorem witness_BitFields : ¬ IsOdd 14 ∧ ¬ IsOdd 0 := witness_MultiplyPair

theorem witness_DivideStepAndAdjust : ¬ IsOdd 14 ∧ ¬ IsOdd 0 ∧
    (at0 [.d 1 0xFFFFFFFF, .d 0 0xFFFFFF9C]).sD (0 + 1) = -1 ∧
    (at0 [.d 1 0xFFFFFFFF, .d 0 0xFFFFFF9C]).uD 0 = 0xFFFFFF9C ∧
    signedStepResult (-1) 0xFFFFFF9C 7 = (-1, 0xFFFF9CFF) ∧ unsignedSteps 7 8 (0, 0x64000000) = (2, 14) := by
  refine ⟨witness_pairs.1.2, witness_pairs.1.1, ?_⟩; decide

theorem witness_UnsignedDivisionSequence : ¬ IsOdd 14 ∧ (13 : Reg) ≠ 14 ∧ (13 : Reg) ≠ 14 + 1 ∧
    (at0 [.d 13 1]).getD 13 ≠ 0 := ⟨witness_pairs.1.2, by decide, by decide, by decide⟩

theorem witness_FractionalWord : (0 : BitVec 2).toNat < 2 ∧ (1 : BitVec 2).toNat < 2 := by decide
theorem witness_FractionalPair : (1 : BitVec 2).toNat < 2 ∧ ¬ IsOdd 14 ∧ ¬ IsOdd 0 :=
  ⟨by decide, witness_pairs.1.2, witness_pairs.1.1⟩
theorem witness_FractionalShiftRefused : 2 ≤ (2 : BitVec 2).toNat ∧ 2 ≤ (3 : BitVec 2).toNat := by decide
theorem witness_OddPairTraps : IsOdd 1 ∧ IsOdd 15 ∧ (0 : BitVec 2).toNat ≤ 1 ∧ (1 : BitVec 2).toNat ≤ 1 :=
  ⟨witness_pairs.2.1, witness_pairs.2.2, by decide, by decide⟩

theorem witness_AddressArithmetic : MayWriteA (at0 []) 0 ∧ MayWriteA (at0 []) 9 ∧ MayWriteA (at0 [.psw 0xA80]) 2 ∧
    MayWriteA (at0 [.psw 0xA80]) 7 ∧ MayWriteA (at0 [.psw 0xA80]) 10 ∧ ¬ MayWriteA (at0 [.psw 0xA80]) 0 ∧
    ¬ MayWriteA (at0 [.psw 0xA80]) 1 ∧ ¬ MayWriteA (at0 [.psw 0xA80]) 8 ∧ ¬ MayWriteA (at0 [.psw 0xA80]) 9 := by
  refine ⟨?_, ?_, ?_, ?_, ?_, ?_, ?_, ?_, ?_⟩ <;> rw [← mayWriteA_iff] <;> decide

theorem witness_LoopJumps : (at0 []).getA 2 = 0 ∧ (at0 [.a 2 1]).getA 2 ≠ 0 ∧ MayWriteA (at0 [.a 2 1]) 2 ∧
    (at0 [.a 8 1, .psw 0xA80]).getA 8 ≠ 0 ∧ ¬ MayWriteA (at0 [.a 8 1, .psw 0xA80]) 8 := by
  unfold MayWriteA; decide

/-! ### The conditions of the compares and jumps -/

/-! States whose compared registers are equal, one apart, or differ in one bit. -/
def w0 : State := at0 [.d 1 0x5, .d 2 0x5, .d 15 0x5, .a 1 0x5, .a 2 0x5]
def w1 : State := at0 [.d 1 0x4, .d 2 0x5, .d 15 0x4, .a 1 0x4, .a 2 0x5]
def w3 : State := at0 []
def w5 : State := at0 [.d 2 0xFFFFFFFF, .d 1 0xFFFFFFFF, .d 15 0xFFFFFFFF, .a 2 0x1, .a 1 0x1]
def w7 : State := at0 [.d 1 0x80000000, .d 15 0x80000000]

/-- Each condition of CompareWords holds in one state and fails in another. -/
theorem witness_CompareWords :
    (w0.getD 1 = BitVec.ofInt 32 (5 : BitVec 9).toInt) ∧ ¬ (w1.getD 1 = BitVec.ofInt 32 (5 : BitVec 9).toInt) ∧
    (w0.getD 1 = w0.getD 2) ∧ ¬ (w1.getD 1 = w1.getD 2) ∧
    (w1.getD 1 ≠ BitVec.ofInt 32 (5 : BitVec 9).toInt) ∧ ¬ (w0.getD 1 ≠ BitVec.ofInt 32 (5 : BitVec 9).toInt) ∧
    (w1.getD 1 ≠ w1.getD 2) ∧ ¬ (w0.getD 1 ≠ w0.getD 2) ∧
    (w1.sD 1 < (5 : BitVec 9).toInt) ∧ ¬ (w0.sD 1 < (5 : BitVec 9).toInt) ∧
    (w1.sD 1 < w1.sD 2) ∧ ¬ (w0.sD 1 < w0.sD 2) ∧
    (w1.uD 1 < ((5 : BitVec 9).toNat % 256 : Nat)) ∧ ¬ (w0.uD 1 < ((5 : BitVec 9).toNat % 256 : Nat)) ∧
    (w1.uD 1 < w1.uD 2) ∧ ¬ (w0.uD 1 < w0.uD 2) ∧
    ((5 : BitVec 9).toInt ≤ w0.sD 1) ∧ ¬ ((5 : BitVec 9).toInt ≤ w1.sD 1) ∧
    (w0.sD 2 ≤ w0.sD 1) ∧ ¬ (w1.sD 2 ≤ w1.sD 1) ∧
    (((5 : BitVec 9).toNat % 256 : Nat) ≤ w0.uD 1) ∧ ¬ (((5 : BitVec 9).toNat % 256 : Nat) ≤ w1.uD 1) ∧
    (w0.uD 2 ≤ w0.uD 1) ∧ ¬ (w1.uD 2 ≤ w1.uD 1) ∧
    (w0.getD 1 = BitVec.ofInt 32 (5 : BitVec 4).toInt) ∧ ¬ (w1.getD 1 = BitVec.ofInt 32 (5 : BitVec 4).toInt) ∧
    (w0.getD 1 = w0.getD 2) ∧ ¬ (w1.getD 1 = w1.getD 2) ∧
    (w1.sD 1 < (5 : BitVec 4).toInt) ∧ ¬ (w0.sD 1 < (5 : BitVec 4).toInt) ∧
    (w1.sD 1 < w1.sD 2) ∧ ¬ (w0.sD 1 < w0.sD 2) ∧
    (w1.uD 1 < ((5 : BitVec 4).toNat : Nat)) ∧ ¬ (w0.uD 1 < ((5 : BitVec 4).toNat : Nat)) ∧
    (w1.uD 1 < w1.uD 2) ∧ ¬ (w0.uD 1 < w0.uD 2) := by
  refine ⟨?_, ?_, ?_, ?_, ?_, ?_, ?_, ?_, ?_, ?_, ?_, ?_, ?_, ?_, ?_, ?_, ?_, ?_, ?_, ?_, ?_, ?_, ?_, ?_, ?_, ?_, ?_, ?_, ?_, ?_, ?_, ?_, ?_, ?_, ?_, ?_⟩ <;> decide

/-- Each condition of BitOperations holds in one state and fails in another. -/
theorem witness_BitOperations :
    (BitOf w0 1 (0 : BitVec 5).toNat ∧ BitOf w0 2 (0 : BitVec 5).toNat) ∧ ¬ (BitOf w1 1 (0 : BitVec 5).toNat ∧ BitOf w1 2 (0 : BitVec 5).toNat) ∧
    (BitOf w7 1 (31 : BitVec 5).toNat ∧ ¬ BitOf w7 2 (0 : BitVec 5).toNat) ∧ ¬ (BitOf w0 1 (0 : BitVec 5).toNat ∧ ¬ BitOf w0 2 (0 : BitVec 5).toNat) ∧
    (¬ (BitOf w1 1 (0 : BitVec 5).toNat ∧ BitOf w1 2 (0 : BitVec 5).toNat)) ∧ ¬ (¬ (BitOf w0 1 (0 : BitVec 5).toNat ∧ BitOf w0 2 (0 : BitVec 5).toNat)) ∧
    (¬ (BitOf w3 1 (0 : BitVec 5).toNat ∨ BitOf w3 2 (0 : BitVec 5).toNat)) ∧ ¬ (¬ (BitOf w0 1 (0 : BitVec 5).toNat ∨ BitOf w0 2 (0 : BitVec 5).toNat)) ∧
    (BitOf w0 1 (0 : BitVec 5).toNat ∨ BitOf w0 2 (0 : BitVec 5).toNat) ∧ ¬ (BitOf w3 1 (0 : BitVec 5).toNat ∨ BitOf w3 2 (0 : BitVec 5).toNat) ∧
    (BitOf w0 1 (0 : BitVec 5).toNat ∨ ¬ BitOf w0 2 (0 : BitVec 5).toNat) ∧ ¬ (BitOf w1 1 (0 : BitVec 5).toNat ∨ ¬ BitOf w1 2 (0 : BitVec 5).toNat) ∧
    ((BitOf w0 1 (0 : BitVec 5).toNat ↔ BitOf w0 2 (0 : BitVec 5).toNat)) ∧ ¬ ((BitOf w1 1 (0 : BitVec 5).toNat ↔ BitOf w1 2 (0 : BitVec 5).toNat)) ∧
    (¬ (BitOf w1 1 (0 : BitVec 5).toNat ↔ BitOf w1 2 (0 : BitVec 5).toNat)) ∧ ¬ (¬ (BitOf w0 1 (0 : BitVec 5).toNat ↔ BitOf w0 2 (0 : BitVec 5).toNat)) := by
  unfold BitOf; refine ⟨?_, ?_, ?_, ?_, ?_, ?_, ?_, ?_, ?_, ?_, ?_, ?_, ?_, ?_, ?_, ?_⟩ <;> decide

/-- Each condition of AddressToData holds in one state and fails in another. -/
theorem witness_AddressToData :
    (w0.getA 1 = w0.getA 2) ∧ ¬ (w1.getA 1 = w1.getA 2) ∧
    (w1.getA 1 ≠ w1.getA 2) ∧ ¬ (w0.getA 1 ≠ w0.getA 2) ∧
    ((w1.getA 1).toNat < (w1.getA 2).toNat) ∧ ¬ ((w0.getA 1).toNat < (w0.getA 2).toNat) ∧
    ((w0.getA 2).toNat ≤ (w0.getA 1).toNat) ∧ ¬ ((w1.getA 2).toNat ≤ (w1.getA 1).toNat) ∧
    (w3.getA 1 = 0) ∧ ¬ (w0.getA 1 = 0) ∧
    (w0.getA 1 ≠ 0) ∧ ¬ (w3.getA 1 ≠ 0) := by
  refine ⟨?_, ?_, ?_, ?_, ?_, ?_, ?_, ?_, ?_, ?_, ?_, ?_⟩ <;> decide

/-- Each condition of ConditionalJumps holds in one state and fails in another. -/
theorem witness_ConditionalJumps :
    (w0.getD 1 = BitVec.ofInt 32 (5 : BitVec 4).toInt) ∧ ¬ (w1.getD 1 = BitVec.ofInt 32 (5 : BitVec 4).toInt) ∧
    (w0.getD 1 = w0.getD 2) ∧ ¬ (w1.getD 1 = w1.getD 2) ∧
    (w0.getD 15 = BitVec.ofInt 32 (5 : BitVec 4).toInt) ∧ ¬ (w1.getD 15 = BitVec.ofInt 32 (5 : BitVec 4).toInt) ∧
    (w0.getD 15 = w0.getD 2) ∧ ¬ (w1.getD 15 = w1.getD 2) ∧
    (w1.getD 1 ≠ BitVec.ofInt 32 (5 : BitVec 4).toInt) ∧ ¬ (w0.getD 1 ≠ BitVec.ofInt 32 (5 : BitVec 4).toInt) ∧
    (w1.getD 1 ≠ w1.getD 2) ∧ ¬ (w0.getD 1 ≠ w0.getD 2) ∧
    (w1.getD 15 ≠ BitVec.ofInt 32 (5 : BitVec 4).toInt) ∧ ¬ (w0.getD 15 ≠ BitVec.ofInt 32 (5 : BitVec 4).toInt) ∧
    (w1.getD 15 ≠ w1.getD 2) ∧ ¬ (w0.getD 15 ≠ w0.getD 2) ∧
    ((5 : BitVec 4).toInt ≤ w0.sD 1) ∧ ¬ ((5 : BitVec 4).toInt ≤ w1.sD 1) ∧
    (w0.sD 2 ≤ w0.sD 1) ∧ ¬ (w1.sD 2 ≤ w1.sD 1) ∧
    (((5 : BitVec 4).toNat : Nat) ≤ w0.uD 1) ∧ ¬ (((5 : BitVec 4).toNat : Nat) ≤ w1.uD 1) ∧
    (w0.uD 2 ≤ w0.uD 1) ∧ ¬ (w1.uD 2 ≤ w1.uD 1) ∧
    (w1.sD 1 < (5 : BitVec 4).toInt) ∧ ¬ (w0.sD 1 < (5 : BitVec 4).toInt) ∧
    (w1.sD 1 < w1.sD 2) ∧ ¬ (w0.sD 1 < w0.sD 2) ∧
    (w1.uD 1 < ((5 : BitVec 4).toNat : Nat)) ∧ ¬ (w0.uD 1 < ((5 : BitVec 4).toNat : Nat)) ∧
    (w1.uD 1 < w1.uD 2) ∧ ¬ (w0.uD 1 < w0.uD 2) ∧
    (0 ≤ w0.sD 2) ∧ ¬ (0 ≤ w5.sD 2) ∧
    (0 < w0.sD 2) ∧ ¬ (0 < w3.sD 2) ∧
    (w3.sD 2 ≤ 0) ∧ ¬ (w0.sD 2 ≤ 0) ∧
    (w5.sD 2 < 0) ∧ ¬ (w0.sD 2 < 0) ∧
    (w0.getD 15 ≠ 0) ∧ ¬ (w3.getD 15 ≠ 0) ∧
    (w0.getD 2 ≠ 0) ∧ ¬ (w3.getD 2 ≠ 0) ∧
    (w3.getD 15 = 0) ∧ ¬ (w0.getD 15 = 0) ∧
    (w3.getD 2 = 0) ∧ ¬ (w0.getD 2 = 0) := by
  refine ⟨?_, ?_, ?_, ?_, ?_, ?_, ?_, ?_, ?_, ?_, ?_, ?_, ?_, ?_, ?_, ?_, ?_, ?_, ?_, ?_, ?_, ?_, ?_, ?_, ?_, ?_, ?_, ?_, ?_, ?_, ?_, ?_, ?_, ?_, ?_, ?_, ?_, ?_, ?_, ?_, ?_, ?_, ?_, ?_, ?_, ?_, ?_, ?_⟩ <;> decide

/-- Each condition of BitAddressAndLoopJumps holds in one state and fails in another. -/
theorem witness_BitAddressAndLoopJumps :
    (BitOf w0 1 (0 : BitVec 5).toNat) ∧ ¬ (BitOf w1 1 (0 : BitVec 5).toNat) ∧
    (BitOf w0 15 (0 : BitVec 5).toNat) ∧ ¬ (BitOf w1 15 (0 : BitVec 5).toNat) ∧
    (¬ BitOf w1 1 (0 : BitVec 5).toNat) ∧ ¬ (¬ BitOf w0 1 (0 : BitVec 5).toNat) ∧
    (¬ BitOf w1 15 (0 : BitVec 5).toNat) ∧ ¬ (¬ BitOf w0 15 (0 : BitVec 5).toNat) ∧
    (w0.getA 1 = w0.getA 2) ∧ ¬ (w1.getA 1 = w1.getA 2) ∧
    (w1.getA 1 ≠ w1.getA 2) ∧ ¬ (w0.getA 1 ≠ w0.getA 2) ∧
    (w0.getA 1 ≠ 0) ∧ ¬ (w3.getA 1 ≠ 0) ∧
    (w0.getA 2 ≠ 0) ∧ ¬ (w3.getA 2 ≠ 0) ∧
    (w3.getA 1 = 0) ∧ ¬ (w0.getA 1 = 0) ∧
    (w3.getA 2 = 0) ∧ ¬ (w0.getA 2 = 0) ∧
    (w1.getD 1 ≠ BitVec.ofInt 32 (5 : BitVec 4).toInt) ∧ ¬ (w0.getD 1 ≠ BitVec.ofInt 32 (5 : BitVec 4).toInt) ∧
    (w1.getD 1 ≠ w1.getD 2) ∧ ¬ (w0.getD 1 ≠ w0.getD 2) ∧
    (w1.getD 1 ≠ BitVec.ofInt 32 (5 : BitVec 4).toInt) ∧ ¬ (w0.getD 1 ≠ BitVec.ofInt 32 (5 : BitVec 4).toInt) ∧
    (w1.getD 1 ≠ w1.getD 2) ∧ ¬ (w0.getD 1 ≠ w0.getD 2) := by
  unfold BitOf; refine ⟨?_, ?_, ?_, ?_, ?_, ?_, ?_, ?_, ?_, ?_, ?_, ?_, ?_, ?_, ?_, ?_, ?_, ?_, ?_, ?_, ?_, ?_, ?_, ?_, ?_, ?_, ?_, ?_⟩ <;> decide

/-! ### Calls, returns and contexts -/

theorem freeArea_of (s : State) (h : s.canEnter = true) : FreeArea s := (canEnter_iff s).1 h
theorem notFreeArea_of (s : State) (h : s.canEnter = false) : ¬ FreeArea s :=
  fun f => by rw [(canEnter_iff s).2 f] at h; cases h
theorem notAtLimit_of (s : State) (h : s.atLimit = false) : ¬ AtLimit s :=
  fun f => by rw [(atLimit_iff s).2 f] at h; cases h

/-- A free list with an area, the limit elsewhere, at `lcx`. -/
def listed (lcx psw : Word) (more : List Item) : State :=
  at0 (.fcx 0x000D0010 :: .lcx lcx :: .psw psw :: .m 0xD0000400 4 0x000D0011 :: more)

theorem witness_lists : FreeArea (listed 0x000D0020 0xB80 []) ∧ ¬ AtLimit (listed 0x000D0020 0xB80 []) ∧
    AtLimit (listed 0x000D0010 0xB80 []) ∧ ¬ FreeArea (at0 []) :=
  ⟨freeArea_of _ (by decide +kernel), notAtLimit_of _ (by decide +kernel), by unfold AtLimit; decide +kernel,
    notFreeArea_of _ (by decide +kernel)⟩

theorem witness_permitted : Permitted (listed 0x000D0020 0xB80 []) .modify 0xD0000400 ∧
    Permitted (guarded (at0 []) (oneRange 0xC0)) .modify 0xD0000400 ∧
    ¬ Permitted (guarded (at0 []) []) .read 0xD0000400 ∧
    (Permitted (guarded (at0 []) (oneRange 0x40)) .read 0xD0000400 ∧
      ¬ Permitted (guarded (at0 []) (oneRange 0x40)) .write 0xD0000400) := by
  have n : ¬ (0xE0000000 : Nat) ≤ (0xD0000400 : Word).toNat := by decide
  refine ⟨?_, ?_, ?_, ?_, ?_⟩
  · rw [permitted_modify_iff, ← readPermitted_iff _ _ n, ← writePermitted_iff _ _ n]; decide +kernel
  · rw [permitted_modify_iff, ← readPermitted_iff _ _ n, ← writePermitted_iff _ _ n]; decide +kernel
  · rw [← readPermitted_iff _ _ n]; decide +kernel
  · rw [← readPermitted_iff _ _ n]; decide +kernel
  · rw [← writePermitted_iff _ _ n]; decide +kernel

theorem witness_counters : CallOverflows 0x00000BBF ∧ CallOverflows 0x00000BFE ∧
    (∃ w, 1 ≤ w ∧ HasCounter 0x00000B80 w 0) ∧ (∃ w, 1 ≤ w ∧ HasCounter 0x00000BFC w 0) ∧
    (∃ w cnt, cnt ≠ 0 ∧ HasCounter 0x00000BFD w cnt) := by
  unfold CallOverflows HasCounter
  exact ⟨⟨by decide, 6, by decide⟩, ⟨by decide, 0, by decide⟩, ⟨6, by decide⟩, ⟨1, by decide⟩, ⟨1, 1, by decide⟩⟩

theorem noOverflow_of (p : Word) (h : p.getLsbD 7 = false) : ¬ CallOverflows p := fun c => by rw [c.1] at h; cases h

theorem noCounter_of (p : Word) (w cnt : Nat) (h : p.toNat % 2 ^ 7 = 127) : ¬ HasCounter p w cnt := by
  rintro ⟨hw, hc, e⟩
  have : w = 0 ∨ w = 1 ∨ w = 2 ∨ w = 3 ∨ w = 4 ∨ w = 5 ∨ w = 6 := by omega
  rcases this with rfl | rfl | rfl | rfl | rfl | rfl | rfl <;> omega

theorem witness_Calls :
    pointer (at0 []).fcx = 0 ∧
    (pointer (listed 0x000D0020 0xBBF []).fcx ≠ 0 ∧ CallOverflows (listed 0x000D0020 0xBBF []).psw) ∧
    (FreeArea (listed 0x000D0020 0xB00 []) ∧ ¬ CallOverflows (listed 0x000D0020 0xB00 []).psw ∧
      Permitted (listed 0x000D0020 0xB00 []) .modify (csaAddress (listed 0x000D0020 0xB00 []).fcx) ∧
      ¬ AtLimit (listed 0x000D0020 0xB00 [])) ∧
    (FreeArea (listed 0x000D0010 0xB00 []) ∧ ¬ CallOverflows (listed 0x000D0010 0xB00 []).psw ∧
      Permitted (listed 0x000D0010 0xB00 []) .modify (csaAddress (listed 0x000D0010 0xB00 []).fcx) ∧
      AtLimit (listed 0x000D0010 0xB00 [])) ∧
    (FreeArea (guarded (listed 0x000D0020 0xB00 []) []) ∧
      ¬ Permitted (guarded (listed 0x000D0020 0xB00 []) []) .read
        (csaAddress (guarded (listed 0x000D0020 0xB00 []) []).fcx)) ∧
    (FreeArea (guarded (listed 0x000D0020 0xB00 []) (oneRange 0x40)) ∧
      Permitted (guarded (listed 0x000D0020 0xB00 []) (oneRange 0x40)) .read
        (csaAddress (guarded (listed 0x000D0020 0xB00 []) (oneRange 0x40)).fcx) ∧
      ¬ Permitted (guarded (listed 0x000D0020 0xB00 []) (oneRange 0x40)) .write
        (csaAddress (guarded (listed 0x000D0020 0xB00 []) (oneRange 0x40)).fcx)) := by
  have n : ∀ s : State, csaAddress s.fcx = 0xD0000400 → ¬ (0xE0000000 : Nat) ≤ (csaAddress s.fcx).toNat := by
    intro s h; rw [h]; decide
  refine ⟨by decide, ⟨by decide, witness_counters.1⟩, ⟨freeArea_of _ (by decide +kernel), noOverflow_of _ (by decide), ?_,
    notAtLimit_of _ (by decide +kernel)⟩, ⟨freeArea_of _ (by decide +kernel), noOverflow_of _ (by decide), ?_,
    (atLimit_iff _).1 (by decide +kernel)⟩, ⟨freeArea_of _ (by decide +kernel), ?_⟩,
    ⟨freeArea_of _ (by decide +kernel), ?_, ?_⟩⟩
  · rw [permitted_modify_iff, ← readPermitted_iff _ _ (n _ (by decide)), ← writePermitted_iff _ _ (n _ (by decide))]
    decide +kernel
  · rw [permitted_modify_iff, ← readPermitted_iff _ _ (n _ (by decide)), ← writePermitted_iff _ _ (n _ (by decide))]
    decide +kernel
  · rw [← readPermitted_iff _ _ (n _ (by decide))]; decide +kernel
  · rw [← readPermitted_iff _ _ (n _ (by decide))]; decide +kernel
  · rw [← writePermitted_iff _ _ (n _ (by decide))]; decide +kernel

/-- A saved context of the kind `ul` (bit 22 of PCXI). -/
def saved (pcxi psw : Word) : State := at0 [.pcxi pcxi, .psw psw, .fcx 0x000D0011]

/-- FCX and PCXI at the area 0x10 of segment `g`; `ul` is the kind of the context that PCXI names. -/
def areas (g : Nat) (ul psw : Word) : State :=
  at0 [.fcx (BitVec.ofNat 32 (g * 65536 + 0x10)), .pcxi (BitVec.ofNat 32 (g * 65536 + 0x10) ||| ul), .psw psw]

/-- The same state with a device behind segment 13 and nothing else. -/
def devices (s : State) : State := { s with cfg := { s.cfg with memMap := [⟨0xD0000000, 0x10000000, .device⟩] } }

theorem modifiable_of (s : State) (x : Word) (h : s.csfr.syscon.getLsbD 1 = false) (hx : x.toNat < 0xE0000000) :
    Permitted s .modify x := by
  have n : ¬ (0xE0000000 : Nat) ≤ x.toNat := by omega
  unfold Permitted; rw [if_neg n, h]; exact fun h => by cases h

/-- What an instruction's own save or restore meets that is no memory: a peripheral segment at User-0, unimplemented memory
of segment 1 and of segment 5, a device. -/
theorem witness_otherAreas (ul : Word) (h : ul = 0 ∨ ul = 0x00400000) :
    (∀ g, g ∈ [14, 1, 5, 13] → pointer (areas g ul 0x37F).fcx ≠ 0 ∧ pointer (areas g ul 0x37F).pcxi ≠ 0 ∧
      csaAddress (areas g ul 0x37F).pcxi = csaAddress (areas g ul 0x37F).fcx ∧ ¬ AtLimit (areas g ul 0x37F) ∧
      Pcxi.ul (areas g ul 0x37F).pcxi = ul.getLsbD 22) ∧
    (0xE0000000 ≤ (csaAddress (areas 14 ul 0x37F).fcx).toNat ∧ Psw.io (areas 14 ul 0x37F).psw = 0) ∧
    (∀ g, g ∈ [1, 5] → Permitted (bare (areas g ul 0xB7F)) .modify (csaAddress (bare (areas g ul 0xB7F)).fcx) ∧
      csaKind (bare (areas g ul 0xB7F)).cfg (csaAddress (bare (areas g ul 0xB7F)).fcx) = none) ∧
    (csaAddress (bare (areas 1 ul 0xB7F)).fcx).toNat < 0x30000000 ∧
    ¬ (csaAddress (bare (areas 5 ul 0xB7F)).fcx).toNat < 0x30000000 ∧
    (Permitted (devices (areas 13 ul 0xB7F)) .modify (csaAddress (devices (areas 13 ul 0xB7F)).fcx) ∧
      csaKind (devices (areas 13 ul 0xB7F)).cfg (csaAddress (devices (areas 13 ul 0xB7F)).fcx) = some .device) ∧
    ¬ CallOverflows (0xB7F : Word) ∧ (¬ ∃ w, 1 ≤ w ∧ HasCounter (0xB7F : Word) w 0) ∧
    ¬ ∃ w cnt, cnt ≠ 0 ∧ HasCounter (0xB7F : Word) w cnt := by
  refine ⟨fun g hg => ⟨?_, ?_, ?_, notAtLimit_of _ ?_, ?_⟩, ?_, fun g hg => ⟨modifiable_of _ _ (by rcases h with rfl | rfl <;> fin_cases hg <;> decide) ?_, ?_⟩, ?_, ?_,
    ⟨modifiable_of _ _ (by rcases h with rfl | rfl <;> decide) ?_, ?_⟩, noOverflow_of _ (by decide),
    fun ⟨w, _, h⟩ => noCounter_of _ w 0 (by decide) h, fun ⟨w, c, _, h⟩ => noCounter_of _ w c (by decide) h⟩ <;>
    rcases h with rfl | rfl <;> first | decide | (fin_cases hg <;> decide)

theorem witness_Returns :
    (∃ w, 1 ≤ w ∧ HasCounter (saved 0x004D0010 0xB80).psw w 0) ∧
    (∃ w cnt, cnt ≠ 0 ∧ HasCounter (saved 0x004D0010 0xB81).psw w cnt) ∧
    (¬ ∃ w, 1 ≤ w ∧ HasCounter (saved 0x004D0010 0xBFF).psw w 0) ∧
    (¬ ∃ w cnt, cnt ≠ 0 ∧ HasCounter (saved 0x004D0010 0xBFF).psw w cnt) ∧
    pointer (saved 0x00400000 0xBFF).pcxi = 0 ∧
    (pointer (saved 0x000D0010 0xBFF).pcxi ≠ 0 ∧ Pcxi.ul (saved 0x000D0010 0xBFF).pcxi = false) ∧
    (pointer (saved 0x004D0010 0xBFF).pcxi ≠ 0 ∧ Pcxi.ul (saved 0x004D0010 0xBFF).pcxi = true ∧
      Permitted (saved 0x004D0010 0xBFF) .modify (csaAddress (saved 0x004D0010 0xBFF).pcxi)) ∧
    (pointer (guarded (saved 0x004D0010 0xBFF) []).pcxi ≠ 0 ∧
      ¬ Permitted (guarded (saved 0x004D0010 0xBFF) []) .read
        (csaAddress (guarded (saved 0x004D0010 0xBFF) []).pcxi)) ∧
    (pointer (guarded (saved 0x004D0010 0xBFF) (oneRange 0x40)).pcxi ≠ 0 ∧
      Permitted (guarded (saved 0x004D0010 0xBFF) (oneRange 0x40)) .read
        (csaAddress (guarded (saved 0x004D0010 0xBFF) (oneRange 0x40)).pcxi) ∧
      ¬ Permitted (guarded (saved 0x004D0010 0xBFF) (oneRange 0x40)) .write
        (csaAddress (guarded (saved 0x004D0010 0xBFF) (oneRange 0x40)).pcxi)) := by
  have n : ∀ s : State, csaAddress s.pcxi = 0xD0000400 → ¬ (0xE0000000 : Nat) ≤ (csaAddress s.pcxi).toNat := by
    intro s h; rw [h]; decide
  refine ⟨⟨6, by decide, by unfold HasCounter; decide⟩, ⟨6, 1, by decide, by unfold HasCounter; decide⟩,
    fun ⟨w, _, h⟩ => noCounter_of _ w 0 (by decide) h, fun ⟨w, c, _, h⟩ => noCounter_of _ w c (by decide) h, by decide,
    ⟨by decide, by decide⟩, ⟨by decide, by decide, ?_⟩, ⟨by decide, ?_⟩,
    ⟨by decide, ?_, ?_⟩⟩
  · rw [permitted_modify_iff, ← readPermitted_iff _ _ (n _ (by decide)), ← writePermitted_iff _ _ (n _ (by decide))]
    decide +kernel
  · rw [← readPermitted_iff _ _ (n _ (by decide))]; decide +kernel
  · rw [← readPermitted_iff _ _ (n _ (by decide))]; decide +kernel
  · rw [← writePermitted_iff _ _ (n _ (by decide))]; decide +kernel

theorem witness_LowerContextSaves :
    pointer (at0 []).fcx = 0 ∧
    (FreeArea (listed 0x000D0020 0xB80 []) ∧ ¬ AtLimit (listed 0x000D0020 0xB80 []) ∧
      AtLimit (listed 0x000D0010 0xB80 []) ∧ Psw.io (listed 0x000D0020 0xB80 []).psw = 2) ∧
    (Psw.io (listed 0x000D0020 0x780 []).psw = 1 ∧ Psw.io (listed 0x000D0020 0x780 []).psw ≠ 2) ∧
    pointer (saved 0 0xB80).pcxi = 0 ∧
    (pointer (saved 0x004D0010 0xB80).pcxi ≠ 0 ∧ Pcxi.ul (saved 0x004D0010 0xB80).pcxi = true) ∧
    (pointer (saved 0x000D0010 0xB80).pcxi ≠ 0 ∧ Pcxi.ul (saved 0x000D0010 0xB80).pcxi = false ∧
      Permitted (saved 0x000D0010 0xB80) .modify (csaAddress (saved 0x000D0010 0xB80).pcxi)) := by
  have n : ¬ (0xE0000000 : Nat) ≤ (csaAddress (saved 0x000D0010 0xB80).pcxi).toNat := by decide
  refine ⟨by decide, ⟨witness_lists.1, witness_lists.2.1, witness_lists.2.2.1, by decide⟩, by decide, by decide,
    by decide, by decide, by decide, ?_⟩
  rw [permitted_modify_iff, ← readPermitted_iff _ _ n, ← writePermitted_iff _ _ n]; decide +kernel

/-! ### Loads and stores -/

theorem operandOk_of {s : State} {k : Access} {m : AddrMode} {align n : Nat}
    (h : s.operandTrap k (m.place s) true true align n = none) : OperandOk s k m [] [] align n := by
  rcases operandTrap_spec s k m [] [] align n true true pairOk_nil (mayWrite_nil s) with ⟨_, q⟩ | ⟨x, e, _⟩
  · exact q
  · rw [h] at e; cases e

theorem pairOperandOk_of {s : State} {k : Access} {m : AddrMode} {align n : Nat} {c : Reg}
    (h : s.operandTrap k (m.place s) (Reg.isPair c) true align n = none) : OperandOk s k m [c] [] align n := by
  rcases operandTrap_spec s k m [c] [] align n (Reg.isPair c) true (pairOk_one c) (mayWrite_nil s) with ⟨_, q⟩ | ⟨x, e, _⟩
  · exact q
  · rw [h] at e; cases e

theorem addressOperandOk_of {s : State} {k : Access} {m : AddrMode} {align n : Nat} {c : Reg}
    (h : s.operandTrap k (m.place s) true (s.mayWriteA c) align n = none) : OperandOk s k m [] [c] align n := by
  rcases operandTrap_spec s k m [] [c] align n true (s.mayWriteA c) pairOk_nil (mayWrite_one s c) with ⟨_, q⟩ | ⟨x, e, _⟩
  · exact q
  · rw [h] at e; cases e

theorem addressPairOk_of {s : State} {k : Access} {m : AddrMode} {align n : Nat} {c : Reg}
    (h : s.operandTrap k (m.place s) (Reg.isPair c) (s.mayWriteA c && s.mayWriteA (c + 1)) align n = none) :
    OperandOk s k m [c] [c, c + 1] align n := by
  rcases operandTrap_spec s k m [c] [c, c + 1] align n (Reg.isPair c) (s.mayWriteA c && s.mayWriteA (c + 1)) (pairOk_one c)
    (mayWrite_two s c) with ⟨_, q⟩ | ⟨x, e, _⟩
  · exact q
  · rw [h] at e; cases e

theorem notOk_of {s : State} {k : Access} {m : AddrMode} {align n : Nat} (x : Trap)
    (h : s.operandTrap k (m.place s) true true align n = some x) :
    ¬ OperandOk s k m [] [] align n ∧ FirstTrap s k m [] [] align n x := by
  rcases operandTrap_spec s k m [] [] align n true true pairOk_nil (mayWrite_nil s) with ⟨e, _⟩ | ⟨y, e, p, q⟩
  · rw [h] at e; cases e
  · rw [h] at e; cases e; exact ⟨p, q⟩

theorem notPair_of {s : State} {k : Access} {m : AddrMode} {align n : Nat} {c : Reg} (x : Trap)
    (h : s.operandTrap k (m.place s) (Reg.isPair c) true align n = some x) :
    ¬ OperandOk s k m [c] [] align n ∧ FirstTrap s k m [c] [] align n x := by
  rcases operandTrap_spec s k m [c] [] align n (Reg.isPair c) true (pairOk_one c) (mayWrite_nil s) with ⟨e, _⟩ | ⟨y, e, p, q⟩
  · rw [h] at e; cases e
  · rw [h] at e; cases e; exact ⟨p, q⟩

/-- A2, the base, and A3, the index pair, of the accesses below. -/
def pointing (a2 a3 : Word) : State := at0 [.a 2 a2, .a 3 a3]

theorem witness_LoadBytesHalfwords :
    OperandOk (pointing 0xD0000101 0) .read (.base 2 0) [] [] 1 1 ∧
    OperandOk (pointing 0xD0000104 0) .read (.postInc 2 2) [] [] 2 2 ∧
    OperandOk (pointing 0xD0000200 0x00320030) .read (.circ 2 2) [] [] 2 2 ∧
    OperandOk (pointing 0xD0000200 0x04000200) .read (.brev 2) [] [] 2 2 :=
  ⟨operandOk_of (by decide +kernel), operandOk_of (by decide +kernel), operandOk_of (by decide +kernel),
    operandOk_of (by decide +kernel)⟩

theorem witness_LoadWordsAndPairs :
    OperandOk (pointing 0 0) .read (.abs 0x34012) [] [] 2 4 ∧
    OperandOk (pointing 0xD0000100 0) .read (.preInc 2 4) [] [15] 4 4 ∧
    OperandOk (pointing 0xD0000102 0) .read (.base 2 (-2)) [14] [] 2 8 ∧
    OperandOk (pointing 0xD0000200 0x00100008) .read (.circ 2 8) [14] [14, 14 + 1] 4 8 :=
  ⟨operandOk_of (by decide +kernel), addressOperandOk_of (by decide +kernel), pairOperandOk_of (by decide +kernel),
    addressPairOk_of (by decide +kernel)⟩

/-- Every trap of a load or store, by the first condition that fails. -/
theorem witness_Stores :
    OperandOk (pointing 0xD0000102 0) .write (.base 2 0) [] [] 2 4 ∧
    (¬ OperandOk (pointing 0 0) .write (.abs 0x34010) [15] [] 2 8 ∧
      FirstTrap (pointing 0 0) .write (.abs 0x34010) [15] [] 2 8 .opd) ∧
    (¬ OperandOk (at0 [.a 8 0xD0000100, .psw 0xA80]) .write (.postInc 8 4) [] [] 2 4 ∧
      FirstTrap (at0 [.a 8 0xD0000100, .psw 0xA80]) .write (.postInc 8 4) [] [] 2 4 .grwp) ∧
    (¬ OperandOk (pointing 0xD0000101 0) .write (.base 2 0) [] [] 2 4 ∧
      FirstTrap (pointing 0xD0000101 0) .write (.base 2 0) [] [] 2 4 .aln) ∧
    (¬ OperandOk (pointing 0xD0000200 0x00320030) .write (.circ 2 4) [] [] 2 4 ∧
      FirstTrap (pointing 0xD0000200 0x00320030) .write (.circ 2 4) [] [] 2 4 .aln) ∧
    (¬ OperandOk (pointing 0xCFFFFFFE 0) .write (.base 2 2) [] [] 2 2 ∧
      FirstTrap (pointing 0xCFFFFFFE 0) .write (.base 2 2) [] [] 2 2 .mem) ∧
    (¬ OperandOk (pointing 0x2FFFC000 0) .write (.base 2 0) [] [] 2 4 ∧
      FirstTrap (pointing 0x2FFFC000 0) .write (.base 2 0) [] [] 2 4 .mem) ∧
    (¬ OperandOk (pointing 0 0) .write (.base 2 0) [] [] 2 4 ∧ FirstTrap (pointing 0 0) .write (.base 2 0) [] [] 2 4 .mpn) ∧
    (¬ OperandOk (at0 [.a 2 0xE0000000, .psw 0x380]) .write (.base 2 0) [] [] 2 4 ∧
      FirstTrap (at0 [.a 2 0xE0000000, .psw 0x380]) .write (.base 2 0) [] [] 2 4 .mpp) ∧
    (¬ OperandOk (guarded (pointing 0xD0000100 0) (oneRange 0x40)) .write (.base 2 0) [] [] 2 4 ∧
      FirstTrap (guarded (pointing 0xD0000100 0) (oneRange 0x40)) .write (.base 2 0) [] [] 2 4 .mpw) ∧
    (¬ OperandOk (guarded (pointing 0xD0000100 0) []) .read (.base 2 0) [] [] 2 4 ∧
      FirstTrap (guarded (pointing 0xD0000100 0) []) .read (.base 2 0) [] [] 2 4 .mpr) ∧
    (¬ OperandOk (bare (pointing 0x10000000 0)) .write (.base 2 0) [] [] 2 4 ∧
      FirstTrap (bare (pointing 0x10000000 0)) .write (.base 2 0) [] [] 2 4 (.bus .bus)) :=
  ⟨operandOk_of (by decide +kernel), notPair_of _ (by decide +kernel), notOk_of _ (by decide +kernel),
    notOk_of _ (by decide +kernel), notOk_of _ (by decide +kernel), notOk_of _ (by decide +kernel),
    notOk_of _ (by decide +kernel), notOk_of _ (by decide +kernel), notOk_of _ (by decide +kernel),
    notOk_of _ (by decide +kernel), notOk_of _ (by decide +kernel), notOk_of _ (by decide +kernel)⟩

/-- The same state with a table that wants words on words and doublewords on doublewords (92 D7). -/
def strict (s : State) : State :=
  { s with cfg := { s.cfg with align := { AlignTable.source with ldW := 4, stW := 4, ldD := 8, stD := 8 } } }

/-- The conditions above under the table `source`, and under a stricter one: a word at a halfword boundary traps there, at a
word boundary it does not. -/
theorem witness_alignTables : (pointing 0xD0000102 0).cfg.align = AlignTable.source ∧
    OperandOk (pointing 0xD0000102 0) .read (.base 2 0) [] [] (pointing 0xD0000102 0).cfg.align.ldW 4 ∧
    OperandOk (strict (pointing 0xD0000104 0)) .read (.base 2 0) [] [] (strict (pointing 0xD0000104 0)).cfg.align.ldW 4 ∧
    (¬ OperandOk (strict (pointing 0xD0000102 0)) .read (.base 2 0) [] []
        (strict (pointing 0xD0000102 0)).cfg.align.ldW 4 ∧
      FirstTrap (strict (pointing 0xD0000102 0)) .read (.base 2 0) [] []
        (strict (pointing 0xD0000102 0)).cfg.align.ldW 4 .aln) :=
  ⟨rfl, operandOk_of (by decide +kernel), operandOk_of (by decide +kernel), notOk_of _ (by decide +kernel)⟩

theorem witness_ReadModifyWriteAndLea :
    OperandOk (pointing 0xD0000102 0) .modify (.base 2 0) [14] [] 2 4 ∧
    OperandOk (pointing 0xD0000104 0) .modify (.preInc 2 4) [] [15] 4 4 ∧
    OperandOk (pointing 0 0) .modify (.abs 0x34010) [] [] 1 1 ∧
    (¬ OperandOk (guarded (pointing 0xD0000100 0) (oneRange 0x40)) .modify (.base 2 0) [] [] 2 4 ∧
      FirstTrap (guarded (pointing 0xD0000100 0) (oneRange 0x40)) .modify (.base 2 0) [] [] 2 4 .mpw) ∧
    ((AddrMode.postInc 2 4).place (pointing 0 0)).pairOk = true ∧
    UpdateOk (pointing 0 0) ((AddrMode.abs 0x34010).place (pointing 0 0)) [15] ∧
    ((AddrMode.circ 3 4).place (pointing 0 0)).pairOk = false ∧
    ¬ UpdateOk (at0 [.psw 0xA80]) ((AddrMode.abs 0x34010).place (at0 [.psw 0xA80])) [8] := by
  refine ⟨pairOperandOk_of (by decide +kernel), addressOperandOk_of (by decide +kernel), operandOk_of (by decide +kernel),
    notOk_of _ (by decide +kernel), rfl, ⟨?_, ?_⟩, rfl, ?_⟩
  · intro r hr; rw [List.mem_singleton.1 hr]; exact .inr (by decide)
  · intro r v h; cases h
  · intro h; exact witness_AddressArithmetic.2.2.2.2.2.2.2.1 (h.1 8 (List.mem_singleton.2 rfl))

theorem witness_ContextMemory : OperandOk (pointing 0xD0000440 0) .write (.base 2 (-64)) [] [] 64 64 ∧
    OperandOk (pointing 0 0) .read (.abs 0x34040) [] [] 64 64 ∧
    (¬ OperandOk (pointing 0xD0000420 0) .write (.base 2 0) [] [] 64 64 ∧
      FirstTrap (pointing 0xD0000420 0) .write (.base 2 0) [] [] 64 64 .aln) ∧
    LegalPlaces CsaLayout.default.upper ∧ LegalPlaces CsaLayout.default.lower ∧
    LegalPlaces #v[15, 14, 13, 12, 11, 10, 9, 8, 7, 6, 5, 4, 3, 2, 1] := by
  have L : ∀ p : Vector (Fin 16) 15, (∀ i, i < 15 → wordPlace p i ≠ 0) →
      (∀ i, i < 15 → ∀ j, j < 15 → wordPlace p i = wordPlace p j → i = j) → LegalPlaces p :=
    fun p h0 h => ⟨h0, fun i j hi hj => h i hi j hj⟩
  exact ⟨operandOk_of (by decide +kernel), operandOk_of (by decide +kernel), notOk_of _ (by decide +kernel),
    L _ (by decide) (by decide), L _ (by decide) (by decide), L _ (by decide) (by decide)⟩

/-- The clauses of a circular access: the new index at both ends of the buffer and past them, and the wrap of its bytes. -/
theorem witness_AddressingModes :
    ((pointing 0 0x00320030).getA (2 + 1)).toNat % 2 ^ 16 = 48 ∧ ((pointing 0 0x00320030).getA (2 + 1)).toNat / 2 ^ 16 = 50 ∧
    (0 ≤ 48 + (1 : BitVec 10).toInt ∧ 48 + (1 : BitVec 10).toInt < 50) ∧
    (0 ≤ 48 + (0x3D0 : BitVec 10).toInt ∧ 48 + (0x3D0 : BitVec 10).toInt = 0) ∧
    48 + (0x3CF : BitVec 10).toInt < 0 ∧ 50 ≤ 48 + (2 : BitVec 10).toInt ∧
    (((AddrMode.circ 2 2).place (pointing 0xD0000200 0x0010000E)).ring = some ⟨0xD0000200, 16, 14⟩ ∧ 14 < 16 ∧ 16 < 14 + 4) ∧
    ((AddrMode.circ 2 2).place (pointing 0xD0000200 0x0010000C)).ring = some ⟨0xD0000200, 16, 12⟩ ∧
    ¬ (12 < 16 ∧ 16 < 12 + 4) := by decide

theorem witness_LoadedValue :
    memKind (pointing 0xD0000100 0).cfg ((AddrMode.base 2 0).place (pointing 0xD0000100 0)).ea = some .storage := by decide

/-! ### Special registers, traps and the boundary -/

/-- A CSFR map of three rows, two of one offset. -/
def otherMap : CsfrMap := [⟨0x100, .psw⟩, ⟨0x100, .icr⟩, ⟨0x104, .range ⟨true, 3, 3, .mode⟩⟩]

/-- The same state with that map. -/
def remapped (s : State) : State := { s with cfg := { s.cfg with csfrMap := some otherMap } }

theorem placed_of (c : Config) (k : BitVec 16) (r : CsfrName) (h4 : k.toNat % 4 = 0)
    (h : csfrAt c.csfrMap k = some r) : PlacedAt c k.toNat r := (csfrAt_iff c k h4 r).1 h

theorem unmapped_of (s : State) (k : BitVec 16) (h4 : k.toNat % 4 = 0) (h : csfrAt s.cfg.csfrMap k = none) :
    Unmapped s k.toNat := fun r v hr _ => by rw [(csfrAt_iff s.cfg k h4 r).2 hr] at h; cases h

/-- A register of the default map at its last fixed offset, a range register at the last of its entry, an offset without a
register, an unaligned one; the first row of an offset in another map. -/
theorem witness_CoreRegisterRead :
    (PlacedAt (at0 []).cfg (0x48 : BitVec 16).toNat .tr1evt ∧ CsfrHolds (at0 []) .tr1evt 0) ∧
    (PlacedAt (at0 []).cfg (0x430C : BitVec 16).toNat (.range ⟨true, 3, 3, .mode⟩) ∧
      CsfrHolds (at0 []) (.range ⟨true, 3, 3, .mode⟩) 0) ∧
    ((0x4C : BitVec 16).toNat % 4 = 0 ∧ Unmapped (at0 []) (0x4C : BitVec 16).toNat) ∧
    (0xFFFF : BitVec 16).toNat % 4 ≠ 0 ∧
    (PlacedAt (remapped (at0 [])).cfg (0x100 : BitVec 16).toNat .psw ∧ CsfrHolds (remapped (at0 [])) .psw 0x00000B80 ∧
      Unmapped (remapped (at0 [])) (0x04 : BitVec 16).toNat) :=
  ⟨⟨placed_of _ _ _ (by decide) (by decide), rfl⟩,
    ⟨placed_of _ _ _ (by decide) (by decide), ⟨0, 0, 0⟩, ⟨List.replicate 4 ⟨0, 0, 0⟩, rfl, rfl⟩, rfl⟩,
    ⟨by decide, unmapped_of _ _ (by decide) (by decide)⟩, by decide,
    ⟨placed_of _ _ _ (by decide) (by decide), rfl, unmapped_of _ _ (by decide) (by decide)⟩⟩

theorem witness_CoreRegisterWrite : Psw.io (at0 []).psw = 2 ∧ Psw.io (at0 [.psw 0x780]).psw ≠ 2 ∧
    PlacedAt (at0 []).cfg (0x24 : BitVec 16).toNat .syscon ∧ CsfrHolds (at0 [.syscon 3]) .syscon 3 :=
  ⟨by decide, by decide, placed_of _ _ _ (by decide) (by decide), rfl⟩

theorem witness_SystemCallAndOverflowTraps :
    (Psw.v (listed 0x000D0020 0x40000B80 []).psw = true ∧ FreeArea (listed 0x000D0020 0x40000B80 []) ∧
      ¬ AtLimit (listed 0x000D0020 0x40000B80 [])) ∧
    (Psw.sv (listed 0x000D0020 0x20000B80 []).psw = true ∧ FreeArea (listed 0x000D0020 0x20000B80 []) ∧
      ¬ AtLimit (listed 0x000D0020 0x20000B80 [])) ∧ Psw.v (at0 []).psw = false ∧ Psw.sv (at0 []).psw = false :=
  ⟨⟨by decide, freeArea_of _ (by decide +kernel), notAtLimit_of _ (by decide +kernel)⟩,
    ⟨by decide, freeArea_of _ (by decide +kernel), notAtLimit_of _ (by decide +kernel)⟩, by decide, by decide⟩

theorem witness_InterruptEnableAndDebug : Psw.io (at0 [.psw 0x380]).psw = 0 ∧ Psw.io (at0 [.psw 0x780]).psw = 1 ∧
    Psw.io (at0 []).psw = 2 ∧ (at0 []).cfg.debugMode = false ∧
    ({ at0 [] with cfg := { Config.default with debugMode := true } } : State).cfg.debugMode = true := by decide

theorem witness_StepKeepsInvariant : Inv (placed 0x0192106F 32 []) ∧ ∃ t, step (placed 0x0192106F 32 []) = .next t := by
  refine ⟨by unfold Machine.Inv; decide +kernel, next_of _ (by decide +kernel)⟩

theorem witness_DecodedLength : decodeWord 0x0192106F = .ok (.addRr 0 0 1) ∧ (0x0192106F : Word).getLsbD 0 = true ∧
    decodeWord 0x00002180 = .ok (.addSrr 1 2) ∧ (0x00002180 : Word).getLsbD 0 = false ∧
    (0xFFFF2180 : Word).toNat % 2 ^ 16 = (0x00002180 : Word).toNat % 2 ^ 16 := ⟨rfl, by decide, rfl, by decide, by decide⟩

/-- An opcode map of two forms, ADD (RR) and ADD (SRR), the 32-bit form at an even op1 and the 16-bit form at an odd one. -/
def otherOpcodes : OpcodeMap := [⟨.rr, 0x42, 0x01, 0x0190006F⟩, ⟨.srr, 0x0B, 0, 0x00000080⟩]

theorem witness_otherOpcodes : LegalMap otherOpcodes ∧
    encodeBy (some otherOpcodes) (.addRr 0 0 1) = some 0x00101042 ∧
    decodeBy (some otherOpcodes) 0x00101042 = .ok (.addRr 0 0 1) ∧ lengthBy (some otherOpcodes) 0x00101042 = 4 ∧
    encodeBy (some otherOpcodes) (.addSrr 1 2) = some 0x0000210B ∧
    decodeBy (some otherOpcodes) 0x0000210B = .ok (.addSrr 1 2) ∧ lengthBy (some otherOpcodes) 0x0000210B = 2 ∧
    decodeBy (some otherOpcodes) 0x0190106F = .error .illegalOpcode ∧
    encodeBy (some otherOpcodes) .nopSr = none := by
  refine ⟨⟨fun r hr => ?_, ?_⟩, rfl, rfl, rfl, rfl, rfl, rfl, rfl, rfl⟩
  · simp only [otherOpcodes, List.mem_cons, List.not_mem_nil, or_false] at hr
    rcases hr with rfl | rfl <;> exact ⟨⟨_, rfl⟩, by decide, by decide, by decide, by decide⟩
  · refine .cons (fun q hq => ?_) (.cons (fun q hq => nomatch hq) .nil)
    rw [List.mem_singleton.1 hq]
    exact ⟨by decide, by decide, fun _ => by decide⟩

theorem presented_of (s : State) (h : (!s.resetPresented && Psw.io s.takeInput.psw != 3) = true) : Presented s s.takeInput := by
  rw [Bool.and_eq_true, Bool.not_eq_true', bne_iff_ne] at h; exact ⟨rfl, h⟩

/-- An instruction word at pc, before and after the checks of its fetch. -/
theorem witness_StepRunsDecoded : Presented (placed 0x0192106F 32 []) (placed 0x0192106F 32 []) ∧
    NoEntry (placed 0x0192106F 32 []) ∧ FetchOk (placed 0x0192106F 32 []) ∧
    decodeBy (placed 0x0192106F 32 []).cfg.opcodeMap (wordFetched (placed 0x0192106F 32 [])) = .ok (.addRr 0 0 1) ∧
    ¬ MarkedUnimplemented (placed 0x0192106F 32 []) (wordFetched (placed 0x0192106F 32 [])) := by
  refine ⟨presented_of _ (by decide +kernel), by unfold NoEntry InterruptAccepted; decide +kernel, ?_, ?_, ?_⟩
  · exact ⟨by decide +kernel, by unfold InCsfrArea; decide +kernel, fun h => absurd h (by decide +kernel),
      fun h => absurd h (by decide +kernel)⟩
  · rw [show wordFetched (placed 0x0192106F 32 []) = 0x0192106F by unfold wordFetched; decide +kernel]; rfl
  · rintro ⟨m, hm, _⟩; cases hm

/-- A fetch outside storage that takes no trap: no memory at segment 5, and a device at segment 13. The word is free: it is
an instruction or illegal. -/
theorem witness_fetchOutside (s : State) (h : s = bare (at0 [.pc 0x50000000]) ∨ s = devices (at0 [.pc 0xD0000000])) :
    Presented s s ∧ NoEntry s ∧ FetchOk s ∧ memKind s.cfg s.pc ≠ some .storage ∧
    ((∃ i, decodeBy s.cfg.opcodeMap (wordFetched s) = .ok i) ∨
      ∃ e, decodeBy s.cfg.opcodeMap (wordFetched s) = .error e) := by
  refine ⟨?_, ?_, ?_, ?_, ?_⟩
  · rcases h with rfl | rfl <;> exact presented_of _ (by decide)
  · unfold NoEntry InterruptAccepted; rcases h with rfl | rfl <;> decide
  · unfold FetchOk InCsfrArea FetchInRange
    rcases h with rfl | rfl <;>
      exact ⟨by decide, by decide, fun h => absurd h (by decide), fun h => absurd h (by decide)⟩
  · rcases h with rfl | rfl <;> decide
  · cases decodeBy s.cfg.opcodeMap (wordFetched s) with
    | ok i => exact .inl ⟨i, rfl⟩
    | error e => exact .inr ⟨e, rfl⟩

theorem witness_FetchAndDecodeTraps :
    (∀ pc : Word, pc ∈ [0xE0000000, 0x2FFFC000, 0x2FFFFFFE, 0x10000000] →
      Presented (at0 [.pc pc]) (at0 [.pc pc]) ∧ NoEntry (at0 [.pc pc])) ∧
    0xE0000000 ≤ (at0 [.pc 0xE0000000]).pc.toNat ∧ InCsfrArea (at0 [.pc 0x2FFFC000]).pc ∧
    ¬ FetchInRange (guarded (at0 []) []) ∧ FetchInRange (guarded (at0 []) (oneRange 0x80)) ∧
    memKind (bare (at0 [.pc 0x10000000])).cfg (bare (at0 [.pc 0x10000000])).pc = none ∧
    decodeBy (at0 []).cfg.opcodeMap 0x00000085 = .error .illegalOpcode ∧
    MarkedUnimplemented { placed 0x0192106F 32 [] with cfg := { Config.default with unimplemented := [⟨0xFF, 0x6F⟩] } }
      0x0192106F := by
  refine ⟨?_, by decide, by unfold InCsfrArea; decide, ?_, ?_, by decide, rfl, ⟨⟨0xFF, 0x6F⟩, List.mem_singleton.2 rfl, by decide⟩⟩
  · intro pc hpc
    refine ⟨presented_of _ ?_, ?_⟩
    · fin_cases hpc <;> decide +kernel
    · unfold NoEntry InterruptAccepted; fin_cases hpc <;> decide +kernel
  · intro h; obtain ⟨_, e, _⟩ := h (by decide); cases e
  · exact fun _ => ⟨_, rfl, ⟨0, 0xE0000000, 0x80⟩, List.mem_singleton.2 rfl, by decide, by decide, by decide⟩

/-- The boundary of a state replaced. -/
def bounded (s : State) (e : Boundary) : State := { s with env := e }

theorem witness_BoundaryEntries :
    (Presented (bounded (at0 []) ⟨[], [], true, [.bus], 0⟩) (bounded (at0 []) ⟨[], [], true, [.bus], 0⟩) ∧
      (bounded (at0 []) ⟨[], [], true, [.bus], 0⟩).env.nmiPending = true) ∧
    (Presented (bounded (at0 []) ⟨[], [], false, [.bus, .pari], 0⟩) (bounded (at0 []) ⟨[], [], false, [.bus, .pari], 0⟩) ∧
      (bounded (at0 []) ⟨[], [], false, [.bus, .pari], 0⟩).env.trapsPending = .bus :: [.pari]) ∧
    (InterruptAccepted (listed 0x000D0020 0xB80 [.icr 0x00050104]) ∧ ¬ InterruptAccepted (at0 [.icr 0x00050105]) ∧
      FreeArea (listed 0x000D0020 0xB80 [.icr 0x00050104]) ∧ ¬ AtLimit (listed 0x000D0020 0xB80 [.icr 0x00050104])) ∧
    (InterruptAccepted (listed 0x000D0010 0xB80 [.icr 0x00050104]) ∧ FreeArea (listed 0x000D0010 0xB80 [.icr 0x00050104]) ∧
      AtLimit (listed 0x000D0010 0xB80 [.icr 0x00050104])) ∧
    (InterruptAccepted (at0 [.icr 0x00050104]) ∧ ¬ FreeArea (at0 [.icr 0x00050104])) :=
  ⟨⟨presented_of _ (by decide), rfl⟩, ⟨presented_of _ (by decide), rfl⟩,
    ⟨by unfold InterruptAccepted; decide, by unfold InterruptAccepted; decide, freeArea_of _ (by decide +kernel),
      notAtLimit_of _ (by decide +kernel)⟩,
    ⟨by unfold InterruptAccepted; decide, freeArea_of _ (by decide +kernel), (atLimit_iff _).1 (by decide +kernel)⟩,
    by unfold InterruptAccepted; decide, notFreeArea_of _ (by decide +kernel)⟩

theorem witness_HostEvents : (at0 []).env.inputs = [] ∧
    (bounded (at0 []) ⟨[⟨some 5, false, true, some .pari, []⟩], [], false, [], 0⟩).env.inputs =
      ⟨some 5, false, true, some .pari, []⟩ :: [] ∧
    (⟨none, false, false, none, [.byte 0xD0000000 1]⟩ : HostInput).writes = .byte 0xD0000000 1 :: [] ∧
    memKind (at0 []).cfg 0xFFFFFFFF = some .storage ∧ memKind State.reset.cfg 0xE0000000 ≠ some .storage ∧
    (PlacedAt (at0 []).cfg (0x00 : BitVec 16).toNat .pcxi ∧ CsfrHolds (at0 []) .pcxi 0) ∧
    (PlacedAt (at0 []).cfg (0x131C : BitVec 16).toNat (.range ⟨false, 3, 3, .upper⟩) ∧
      CsfrHolds (at0 []) (.range ⟨false, 3, 3, .upper⟩) 0) ∧
    Unmapped (at0 []) (0x5000 : BitVec 16).toNat ∧ (0x1001 : BitVec 16).toNat % 4 ≠ 0 :=
  ⟨rfl, rfl, rfl, by decide, by decide, ⟨placed_of _ _ _ (by decide) (by decide), rfl⟩,
    ⟨placed_of _ _ _ (by decide) (by decide), ⟨0, 0, 0⟩, ⟨List.replicate 4 ⟨0, 0, 0⟩, rfl, rfl⟩, rfl⟩,
    unmapped_of _ _ (by decide) (by decide), by decide⟩

/-- Bus writes to a data range bound, a code mode register (of which bits 7, 5, 3 and 0 exist), an unaligned offset, an
offset without a register, and a device byte (10 R77, R124; log 13 and 31). -/
theorem test_busWrites :
    ((at0 []).busWrite (.csfr 0x131C 0x12345678)).readCsfr 0x131C = 0x12345678 ∧
    ((at0 []).busWrite (.csfr 0x430C 0xFFFFFFFF)).readCsfr 0x430C = 0xA9 ∧
    (at0 []).busWrite (.csfr 0x1001 1) = at0 [] ∧ (at0 []).busWrite (.csfr 0x5000 1) = at0 [] ∧
    (devices (at0 [])).busWrite (.byte 0xD0000000 1) = devices (at0 []) := by decide

theorem witness_ResetEvent :
    (bounded (at0 []) ⟨[⟨none, true, false, none, []⟩], [], true, [.bus], 0⟩).resetPresented = true := rfl

theorem witness_ReservedIoRefused : (at0 [.psw 0xF80]).resetPresented = false ∧ Psw.io (at0 [.psw 0xF80]).takeInput.psw = 3 := by
  decide

/-- A free list whose limit area links to itself, so that the entry of FCD is at the limit again; PCXI names `pcx`. -/
def depleted (pcx : Word) : State :=
  at0 [.fcx 0x000D0010, .lcx 0x000D0010, .pcxi pcx, .m 0xD0000400 4 0x000D0010, .m 0xD0000800 4 0x000D0030]

/-- The state after the entry of PRIV, and after that of FCD. -/
def entered1 (pcx : Word) : State := (depleted pcx).enterTrap .priv 0
def entered2 (pcx : Word) : State := (entered1 pcx).enterTrap .fcd (entered1 pcx).pc

theorem witness_TrapEntry : (Trap.priv, 1, 1) ∈ trapTable ∧ (Trap.nmi, 7, 0) ∈ trapTable ∧
    (FreeArea (listed 0x000D0020 0xB80 []) ∧ ¬ AtLimit (listed 0x000D0020 0xB80 [])) ∧
    (FreeArea (listed 0x000D0010 0xB80 []) ∧ AtLimit (listed 0x000D0010 0xB80 [])) ∧ ¬ FreeArea (at0 []) :=
  ⟨by decide, by decide, ⟨witness_lists.1, witness_lists.2.1⟩, ⟨freeArea_of _ (by decide +kernel), witness_lists.2.2.1⟩,
    witness_lists.2.2.2⟩

/-- The chain of entries at the limit (60 R967, log 9): the second entry at the limit, then a third elsewhere, at the limit
again, or where no memory is; and the second where no memory is. -/
theorem witness_TrapEntryChain :
    (∀ p, p ∈ [0, 0x000D0020, 0x000D0010] → FreeArea (depleted p) ∧ AtLimit (depleted p) ∧ FreeArea (entered1 p) ∧
      AtLimit (entered1 p)) ∧
    (FreeArea (entered2 0x000D0020) ∧ ¬ AtLimit (entered2 0x000D0020)) ∧
    (FreeArea (entered2 0x000D0010) ∧ AtLimit (entered2 0x000D0010)) ∧ ¬ FreeArea (entered2 0) ∧
    ¬ FreeArea ((at0 [.fcx 0x000D0010, .lcx 0x000D0010]).enterTrap .priv 0) := by
  refine ⟨fun p hp => ⟨freeArea_of _ ?_, (atLimit_iff _).1 ?_, freeArea_of _ ?_, (atLimit_iff _).1 ?_⟩,
    ⟨freeArea_of _ (by decide +kernel), notAtLimit_of _ (by decide +kernel)⟩,
    ⟨freeArea_of _ (by decide +kernel), (atLimit_iff _).1 (by decide +kernel)⟩, notFreeArea_of _ (by decide +kernel),
    notFreeArea_of _ (by decide +kernel)⟩ <;> fin_cases hp <;> decide +kernel

/-- Three entries in a row at the limit never end. -/
theorem test_endlessDepletion : takeTrap (depleted 0x000D0010) .priv 0 = .fault .endlessDepletion := by rfl

theorem witness_OnlyMtcrWritesSystemRegisters : (Psw.io (at0 []).psw = 2 → ∀ k a, Instr.nopSr ≠ .mtcrRlc k a) ∧
    ∃ t, exec .nopSr (at0 []) = .next t := ⟨fun _ _ _ h => (nomatch h), ⟨_, rfl⟩⟩

end Sys2Proof.Tests
end

section
/-! The state: the address arithmetic (O26), what every instruction and every step keeps (O60, O48), the state after reset
(O46, O47), the reset event (O56) and what the host presents before a step (O55). -/

namespace Sys2Proof.Machine

open Sys2Proof

/-! ## Address arithmetic (46 R700 to R719) -/

/-- A shift to the left is a product with a power of two. -/
theorem shiftLeft_eq_ofNat_mul (x : Word) (n : Nat) : x <<< n = BitVec.ofNat 32 (x.toNat * 2 ^ n) := by
  apply BitVec.eq_of_toNat_eq
  rw [BitVec.toNat_shiftLeft, Nat.shiftLeft_eq, BitVec.toNat_ofNat]

/-- The mask of ADDSC.AT clears the two low bits (46 R704). -/
theorem and_wordMask_eq (x : Word) : x &&& 0xFFFFFFFC = BitVec.ofNat 32 (x.toNat / 4 * 4) := by
  have hshift : x &&& (0xFFFFFFFC : Word) = x >>> 2 <<< 2 := by
    apply BitVec.eq_of_getLsbD_eq
    intro k hk
    have hmask : (0xFFFFFFFC : Word).getLsbD k = !decide (k < 2) := by interval_cases k <;> rfl
    rw [BitVec.getLsbD_and, hmask, BitVec.getLsbD_shiftLeft, BitVec.getLsbD_ushiftRight]
    by_cases h2 : k < 2
    · simp [h2]
    · simp [h2, hk, show 2 + (k - 2) = k by omega]
  rw [hshift]
  apply BitVec.eq_of_toNat_eq
  rw [BitVec.toNat_shiftLeft, BitVec.toNat_ushiftRight, Nat.shiftLeft_eq, Nat.shiftRight_eq_div_pow, BitVec.toNat_ofNat]

/-- The address of ADDSC.AT: the base and an eighth of the bit index, cut to a word boundary (46 R704). -/
theorem bitAddress_eq (x y : Word) :
    (x + y.sshiftRight 3) &&& 0xFFFFFFFC = BitVec.ofInt 32 ((x.toNat + y.toInt / 8) / 4 * 4) := by
  have hsum : x + y.sshiftRight 3 = BitVec.ofInt 32 (x.toNat + y.toInt / 8) := by
    rw [BitVec.ofInt_add, BitVec.ofInt_natCast, BitVec.ofNat_toNat, BitVec.setWidth_eq, BitVec.sshiftRight_eq,
      Int.shiftRight_eq_div_pow]
    rfl
  rw [hsum, and_wordMask_eq]
  apply BitVec.eq_of_toNat_eq
  rw [BitVec.toNat_ofNat, BitVec.toNat_ofInt, BitVec.toNat_ofInt]
  omega

/-- The stack pointer A10 is no global register (10 R45). -/
theorem mayWriteA_stackPointer (s : State) : s.mayWriteA 10 = true := rfl

/-- Settles O26: each instruction is the guarded write `onAddress` of one address, so that what is left to show is that
this address is the value of the rule. SUB.A of 16 bits writes A10, which needs no guard. -/
theorem addressArithmetic : Obligations.AddressArithmetic := by
  intro s c d a b k8 k9 k16 n
  refine ⟨?add, ?addih, ?addsc, ?addsc16, ?addscAt, ?sub, ?sub16, ?subsc, ?mov, ?mov16, ?movAa, ?movAa16, ?movh, ?movz,
    ?caddConst, ?cadd, ?caddnConst, ?caddn, ?csub, ?csubn, ?selConst, ?sel, ?selnConst, ?seln⟩
  case addih | movh => rw [← high16_eq]; exact addressTo_putA rfl
  case addsc | addsc16 | subsc => rw [← shiftLeft_eq_ofNat_mul]; exact addressTo_putA rfl
  case addscAt => unfold State.sD; rw [← bitAddress_eq]; exact addressTo_putA rfl
  case sub16 =>
    rw [← zext8_eq]
    refine addressTo_putA ?_
    unfold onAddress
    rw [if_pos (mayWriteA_stackPointer s)]
    rfl
  case caddConst | caddnConst | selConst | selnConst => rw [← sext9_eq]; exact addressTo_putA rfl
  case add | sub | mov | mov16 | movAa | movAa16 | movz | cadd | caddn | csub | csubn | sel | seln =>
    exact addressTo_putA rfl

/-! ## What every instruction keeps

`Keeps` joins the two facts that the invariant (O48) and the frame of the special registers (O60) ask of an instruction, so
that one case split over the forms serves both. -/

theorem keeps_ite {p : Prop} [Decidable p] {s t u : State} (h : Keeps s t) (k : Keeps s u) :
    Keeps s (if p then t else u) := by
  split
  · exact h
  · exact k

theorem outKeeps_ite {p : Prop} [Decidable p] {s : State} {o q : Out} (h : OutKeeps s o) (k : OutKeeps s q) :
    OutKeeps s (if p then o else q) := by
  split
  · exact h
  · exact k

/-- Outside Supervisor MTCR is the trap PRIV (49 R901). -/
theorem exec_mtcr_of_not_supervisor {s : State} (k : BitVec 16) (a : Reg) (h : Psw.io s.psw ≠ 2) :
    exec (.mtcrRlc k a) s = raise s .priv :=
  if_neg (by simpa using h)

/-- In Supervisor MTCR writes the register at an aligned offset, and no other offset (49 R901, 93 U1). -/
theorem exec_mtcr_of_supervisor {s : State} (k : BitVec 16) (a : Reg) (h : Psw.io s.psw = 2) :
    exec (.mtcrRlc k a) s =
      if csfrAligned k then .next ((s.writeCsfr k (s.getD a)).advance 4) else .refused .unalignedCsfrOffset :=
  if_pos (by simpa using h)

theorem outKeeps_mtcr_of_not_supervisor {s : State} (k : BitVec 16) (a : Reg) (h : Psw.io s.psw ≠ 2) :
    OutKeeps s (exec (.mtcrRlc k a) s) := by
  rw [exec_mtcr_of_not_supervisor k a h]
  exact outKeeps_raise s .priv

/-- Every next state of an instruction but a Supervisor's MTCR keeps the invariant and the special registers outside the
context lists. The forms are grouped by the shared operation that is their meaning. -/
theorem outKeeps_exec (i : Instr) (s : State) (h : Psw.io s.psw = 2 → ∀ k a, i ≠ .mtcrRlc k a) :
    OutKeeps s (exec i s) := by
  unfold exec
  cases i with
  -- Results in a data register or a pair.
  | andAndTBit | andAndnTBit | andNorTBit | andOrTBit | andTBit | andnTBit | insTBit | insnTBit | nandTBit
  | norTBit | orAndTBit | orAndnTBit | orNorTBit | orOrTBit | orTBit | ornTBit | shAndTBit | shAndnTBit
  | shNandTBit | shNorTBit | shOrTBit | shOrnTBit | shXnorTBit | shXorTBit | xnorTBit | xorTBit | andEqRc
  | andGeURc | andGeRc | andLtURc | andLtRc | andNeRc | andnRc | andRc | eqanyBRc | eqanyHRc | eqRc | geURc
  | geRc | ltURc | ltRc | maxURc | maxRc | minURc | minRc | nandRc | neRc | norRc | orEqRc | orGeURc | orGeRc
  | orLtURc | orLtRc | orNeRc | ornRc | orRc | shBRc | shEqRc | shGeURc | shGeRc | shHRc | shLtURc | shLtRc
  | shNeRc | shRc | xnorRc | xorEqRc | xorGeURc | xorGeRc | xorLtURc | xorLtRc | xorNeRc | xorRc | insertRcpw
  | selnRcr | selRcr | insertRcrw | movURlc | movhRlc | movRlc | andEqRr | andGeURr | andGeRr | andLtURr
  | andLtRr | andNeRr | andnRr | andRr | cloBRr | cloHRr | cloRr | clsBRr | clsHRr | clsRr | clzBRr | clzHRr
  | clzRr | difscARr | eqARr | eqBRr | eqHRr | eqWRr | eqanyBRr | eqanyHRr | eqzARr | eqRr | geARr | geURr
  | geRr | ltARr | ltBuRr | ltBRr | ltHuRr | ltHRr | ltURr | ltWuRr | ltWRr | ltRr | maxBuRr | maxBRr | maxHuRr
  | maxHRr | maxURr | maxRr | minBuRr | minBRr | minHuRr | minHRr | minURr | minRr | movDRr | movRr | nandRr
  | neARr | nezARr | neRr | norRr | orEqRr | orGeURr | orGeRr | orLtURr | orLtRr | orNeRr | ornRr | orRr
  | satBuRr | satBRr | satHuRr | satHRr | shBRr | shEqRr | shGeURr | shGeRr | shHRr | shLtURr | shLtRr | shNeRr
  | shRr | xnorRr | xorEqRr | xorGeURr | xorGeRr | xorLtURr | xorLtRr | xorNeRr | xorRr | dextrRrpw | extrURrpw
  | extrRrpw | insertRrpw | selnRrr | selRrr | dextrRrrr | extrURrrw | extrRrrw | insertRrrw | andSc | movSc
  | orSc | notSr | satBuSr | satBSr | satHuSr | satHSr | eqSrc | ltUSrc | ltSrc | movSrc | shSrc | andSrr
  | eqSrr | ltUSrr | ltSrr | movDSrr | movSrr | orSrr =>
    exact outKeeps_next (keeps_putD s _ _ _ rfl)
  | absdifsRc | absdifRc | addsURc | addsRc | addRc | mulsURc | mulsRc | mulRc | rsubsURc | rsubsRc | rsubRc
  | shaBRc | shaHRc | shasRc | caddnRcr | caddRcr | maddsURcr | maddsRcr | maddRcr | msubsURcr | msubsRcr
  | msubRcr | addihRlc | addiRlc | absBRr | absHRr | absdifBRr | absdifHRr | absdifsBRr | absdifsHRr | absdifsRr
  | absdifRr | abssBRr | abssHRr | abssRr | absRr | addBRr | addHRr | addsBuRr | addsBRr | addsHuRr | addsHRr
  | addsURr | addsRr | addRr | mulsURr | mulsRr | mulRr | shaBRr | shaHRr | shasRr | subBRr | subHRr | subsBuRr
  | subsBRr | subsHuRr | subsHRr | subsURr | subsRr | subRr | caddnRrr | caddRrr | csubnRrr | csubRrr
  | maddsURrr | maddsRrr | maddRrr | msubsURrr | msubsRrr | msubRrr | rsubSr | addSrc | addSrcD15 | caddnSrc
  | caddSrc | addSrr | addSrrD15 | caddnSrr | caddSrr | mulSrr | subsSrr | subSrr | subSrrD15 =>
    exact outKeeps_next (keeps_putResult s _ _ _ rfl)
  | addcRc | addxRc | shaRc | addcRr | addxRr | shaRr | subcRr | subxRr | shaSrc =>
    exact outKeeps_next (keeps_putResultC s _ _ _ _ rfl)
  | mulmURc | mulmRc | maddmURcr | maddmsURcr | maddmsRcr | maddmRcr | msubmURcr | msubmsURcr | msubmsRcr
  | msubmRcr | mulmURr | mulmRr | maddmHRrr | maddmQRrr | maddmURrr | maddmsURrr | maddmsRrr | maddmRrr
  | msubmHRrr | msubmQRrr | msubmURrr | msubmsURrr | msubmsRrr | msubmRrr =>
    exact outKeeps_onPairs _ (keeps_putResultE s _ _ _ rfl)
  | imaskRcpw | imaskRcrw | imaskRrpw | dvstepURrr | dvstepRrr | imaskRrrw | dvstepUSrr | dvstepSrr =>
    exact outKeeps_onPairs _ (keeps_putE s _ _ _ rfl)
  | insertRcrr | extrURrrr | extrRrrr | insertRrrr => exact outKeeps_onPairs _ (keeps_putD s _ _ _ rfl)
  | dvinitBuRr | dvinitBRr | dvinitHuRr | dvinitHRr | dvinitURr | dvinitRr =>
    exact outKeeps_divideInitOp s _ _ _ _ _
  | dvadjRrr | dvadjSrr =>
    exact outKeeps_onPairs _ (((keeps_setE s _ _).trans (keeps_setPsw _ _ clearV_reserved)).trans (keeps_advance _ _ rfl))
  | mulQRr | mulrHRr | mulrQRr | maddQRrr | maddrQRrr | maddrsQRrr | maddsQRrr | msubQRrr | msubrQRrr
  | msubrsQRrr | msubsQRrr =>
    exact outKeeps_onQShift _ (outKeeps_next (keeps_putResult s _ _ _ rfl))
  | maddrHRrr | maddrsHRrr | msubrHRrr | msubrsHRrr =>
    exact outKeeps_onQShift _ (outKeeps_onPairs _ (keeps_putResult s _ _ _ rfl))
  | mulHRr | maddHRrr | maddsHRrr | msubHRrr | msubsHRrr =>
    exact outKeeps_onQShift _ (outKeeps_onPairs _ (keeps_putResultE s _ _ _ rfl))
  -- Address registers, conditional moves and instructions without a result.
  | caddARcr | caddnARcr | selARcr | selnARcr | addihARlc | movhARlc | addARr | addscAtRr | addscARr | movAaRr
  | movARr | subARr | subscARr | caddARrr | caddnARrr | csubARrr | csubnARrr | selARrr | selnARrr | addscASrrs
  | movzASr | movAaSrr | movASrr =>
    exact outKeeps_onAddress _ (keeps_putA s _ _ _ rfl)
  | subASc => exact outKeeps_next (keeps_putA s _ _ _ rfl)
  | cmovnSrc | cmovSrc | cmovnSrr | cmovSrr =>
    exact outKeeps_next (keeps_ite (keeps_putD s _ _ _ rfl) (keeps_advance s _ rfl))
  | dsyncSys | isyncSys | nopSys | nopSr => exact outKeeps_next (keeps_advance s _ rfl)
  -- Loads, stores, read-modify-writes and LEA.
  | ldBuAbs | ldBAbs | ldHuAbs | ldHAbs | ldQAbs | ldWAbs | ldBBoShort | ldBBoPreinc | ldBBoPostinc | ldBBoCirc
  | ldBBoBrev | ldBuBoShort | ldBuBoPreinc | ldBuBoPostinc | ldBuBoCirc | ldBuBoBrev | ldHBoShort | ldHBoPreinc
  | ldHBoPostinc | ldHBoCirc | ldHBoBrev | ldHuBoShort | ldHuBoPreinc | ldHuBoPostinc | ldHuBoCirc | ldHuBoBrev
  | ldQBoShort | ldQBoPreinc | ldQBoPostinc | ldQBoCirc | ldQBoBrev | ldWBoShort | ldWBoPreinc | ldWBoPostinc
  | ldWBoCirc | ldWBoBrev | ldWBol | ldBuSlr | ldBuSlrPostinc | ldBSlr | ldBSlrPostinc | ldHSlr | ldHSlrPostinc
  | ldWSlr | ldWSlrPostinc | ldBuSlro | ldBSlro | ldHSlro | ldWSlro | ldBuSro | ldBSro | ldHSro | ldWSro =>
    exact outKeeps_loadOp s _ _ _ _ _ _ _ rfl fun u _ => keeps_setD u _ _
  | ldAAbs | ldABoShort | ldABoPreinc | ldABoPostinc | ldABoCirc | ldABoBrev | ldABol | ldASlr | ldASlrPostinc
  | ldASlro | ldASro =>
    exact outKeeps_loadOp s _ _ _ _ _ _ _ rfl fun u _ => keeps_setA u _ _
  | ldDAbs | ldDBoShort | ldDBoPreinc | ldDBoPostinc | ldDBoCirc | ldDBoBrev =>
    exact outKeeps_loadOp s _ _ _ _ _ _ _ rfl fun u _ => keeps_setE u _ _
  | ldDaAbs | ldDaBoShort | ldDaBoPreinc | ldDaBoPostinc | ldDaBoCirc | ldDaBoBrev =>
    exact outKeeps_loadOp s _ _ _ _ _ _ _ rfl fun u _ => keeps_setAPair u _ _
  | lducxAbs | lducxBoShort => exact outKeeps_loadOp s _ _ _ _ _ _ _ rfl keeps_loadUpper
  | ldlcxAbs | ldlcxBoShort => exact outKeeps_loadOp s _ _ _ _ _ _ _ rfl keeps_loadLower
  | stAAbs | stBAbs | stDaAbs | stDAbs | stHAbs | stQAbs | stWAbs | stlcxAbs | stucxAbs | stABoShort
  | stABoPreinc | stABoPostinc | stABoCirc | stABoBrev | stBBoShort | stBBoPreinc | stBBoPostinc | stBBoCirc
  | stBBoBrev | stDBoShort | stDBoPreinc | stDBoPostinc | stDBoCirc | stDBoBrev | stDaBoShort | stDaBoPreinc
  | stDaBoPostinc | stDaBoCirc | stDaBoBrev | stHBoShort | stHBoPreinc | stHBoPostinc | stHBoCirc | stHBoBrev
  | stQBoShort | stQBoPreinc | stQBoPostinc | stQBoCirc | stQBoBrev | stWBoShort | stWBoPreinc | stWBoPostinc
  | stWBoCirc | stWBoBrev | stlcxBoShort | stucxBoShort | stWBol | stASro | stBSro | stHSro | stWSro | stASsr
  | stASsrPostinc | stBSsr | stBSsrPostinc | stHSsr | stHSsrPostinc | stWSsr | stWSsrPostinc | stASsro | stBSsro
  | stHSsro | stWSsro =>
    exact outKeeps_storeOp s _ _ _ _ _ _ rfl
  | ldmstAbs | stTAbsb | ldmstBoShort | ldmstBoPreinc | ldmstBoPostinc | ldmstBoCirc | ldmstBoBrev =>
    exact outKeeps_modifyOp s _ _ _ _ _ _ _ _ rfl fun u _ => Keeps.refl u
  | swapWAbs | swapWBoShort | swapWBoPreinc | swapWBoPostinc | swapWBoCirc | swapWBoBrev =>
    exact outKeeps_modifyOp s _ _ _ _ _ _ _ _ rfl fun u _ => keeps_setD u _ _
  | swapAAbs | swapABoShort | swapABoPreinc | swapABoPostinc | swapABoCirc | swapABoBrev =>
    exact outKeeps_modifyOp s _ _ _ _ _ _ _ _ rfl fun u _ => keeps_setA u _ _
  | leaAbs | leaBoShort | leaBoPreinc | leaBoPostinc | leaBoCirc | leaBoBrev | leaBol =>
    exact outKeeps_leaOp s _ _ _ rfl
  -- Jumps, loops and calls: the target is even.
  | jnzTBrn | jzTBrn | jeqBrc | jgeUBrc | jgeBrc | jltUBrc | jltBrc | jneBrc | jeqABrr | jeqBrr | jgeUBrr
  | jgeBrr | jltUBrr | jltBrr | jneABrr | jneBrr | jnzABrr | jzABrr =>
    exact outKeeps_next (keeps_branchIf s _ _ _ (fun e => relTarget15_even e _) rfl)
  | jnzSb | jzSb => exact outKeeps_next (keeps_branchIf s _ _ _ (fun e => relTarget8_even e _) rfl)
  | jnzTSbrn | jzTSbrn | jeqSbc | jneSbc | jeqSbr | jgezSbr | jgtzSbr | jlezSbr | jltzSbr | jneSbr | jnzASbr
  | jnzSbr | jzASbr | jzSbr =>
    exact outKeeps_next (keeps_branchIf s _ _ _ (fun e => relTarget4_even e _) rfl)
  | jnedBrc | jneiBrc | jnedBrr | jneiBrr =>
    exact outKeeps_next ((keeps_setD s _ _).trans (keeps_branchIf _ _ _ _ (fun e => relTarget15_even e _) rfl))
  | jB => exact outKeeps_next (keeps_setPc s _ fun e => relTarget24_even e _)
  | jSb => exact outKeeps_next (keeps_setPc s _ fun e => relTarget8_even e _)
  | jaB => exact outKeeps_next (keeps_setPc s _ fun _ => absTarget24_even _)
  | jiRr | jiSbr => exact outKeeps_next (keeps_setPc s _ fun _ => evenTarget_even _)
  | jlB => exact outKeeps_next ((keeps_setA s _ _).trans (keeps_setPc _ _ fun e => relTarget24_even e _))
  | jlaB => exact outKeeps_next ((keeps_setA s _ _).trans (keeps_setPc _ _ fun _ => absTarget24_even _))
  | jliRr => exact outKeeps_next ((keeps_setA s _ _).trans (keeps_setPc _ _ fun _ => evenTarget_even _))
  | loopBrr => exact outKeeps_loopOp s _ _ _ (fun e => relTarget15_even e _) rfl
  | loopSbr => exact outKeeps_loopOp s _ _ _ (fun e => loopTarget4_even e _) rfl
  | callB => exact outKeeps_callOp s _ fun e => relTarget24_even e _
  | callaB => exact outKeeps_callOp s _ fun _ => absTarget24_even _
  | calliRr => exact outKeeps_callOp s _ fun _ => evenTarget_even _
  -- Returns, context operations and system instructions.
  | retSys | retSr => exact outKeeps_retOp s
  | rfeSys | rfeSr => exact outKeeps_rfeOp s
  | svlcxSys => exact outKeeps_saveLowerOp s _ _ id rfl
  | bisrRc | bisrSc => exact outKeeps_bisrOp s _ _ rfl
  | rslcxSys => exact outKeeps_restoreLowerOp s
  | syscallRc => exact outKeeps_takeTrap s _ _
  | disableSys | enableSys => exact outKeeps_enableOp s _
  | rstvSys => exact outKeeps_next ((keeps_setPsw s _ clearOverflow_reserved).trans (keeps_advance _ _ rfl))
  | trapsvSys | trapvSys => exact outKeeps_ite (outKeeps_raise s _) (outKeeps_next (keeps_advance s _ rfl))
  | debugSys | debugSr => exact outKeeps_next (keeps_debugOp s _ rfl)
  | mfcrRlc => exact outKeeps_ite (outKeeps_next (keeps_putD s _ _ _ rfl)) (outKeeps_refused _)
  | mtcrRlc k a => exact outKeeps_mtcr_of_not_supervisor k a fun hs => h hs k a rfl

/-- Settles O60: the half of `outKeeps_exec` that speaks of the special registers. -/
theorem onlyMtcrWritesSystemRegisters : Obligations.OnlyMtcrWritesSystemRegisters := by
  intro i s t hi ht
  exact (outKeeps_exec i s hi t ht).sys

/-! ## The invariant of a step -/

theorem OutKeeps.inv {s t : State} {o : Out} (h : OutKeeps s o) (i : Inv s) (ho : o = .next t) : Inv t := (h t ho).inv i

/-- MTCR keeps the invariant: what it writes has gone through the field rules of the register (49 R902). -/
theorem inv_exec_mtcr {s t : State} (k : BitVec 16) (a : Reg) (i : Inv s) (h : exec (.mtcrRlc k a) s = .next t) :
    Inv t := by
  by_cases hs : Psw.io s.psw = 2
  · rw [exec_mtcr_of_supervisor k a hs] at h
    split at h
    · cases h
      exact (keeps_advance _ 4 rfl).inv (inv_writeCsfr s k _ i)
    · cases h
  · exact (outKeeps_mtcr_of_not_supervisor k a hs).inv i h

theorem inv_exec {i : Instr} {s t : State} (v : Inv s) (h : exec i s = .next t) : Inv t := by
  by_cases hm : ∃ k a, i = .mtcrRlc k a
  · obtain ⟨k, a, rfl⟩ := hm
    exact inv_exec_mtcr k a v h
  · exact (outKeeps_exec i s fun _ k a e => hm ⟨k, a, e⟩).inv v h

theorem keeps_drawFetch (s : State) (n : Nat) : Keeps s (s.drawFetch n) := by
  unfold State.drawFetch
  split
  · exact Keeps.refl s
  · exact keeps_drawFree s n
  · exact keeps_drawFree s n

theorem keeps_fetchDone (s : State) : Keeps s s.fetchDone := by
  unfold State.fetchDone
  split
  · exact Keeps.refl s
  · exact (keeps_emit s _).trans (keeps_drawFetch _ _)

theorem inv_stepInstr {s t : State} (v : Inv s) (h : stepInstr s = .next t) : Inv t := by
  have hf : Inv s.fetchDone := (keeps_fetchDone s).inv v
  unfold stepInstr at h
  split at h
  · exact (outKeeps_raise s.fetchDone _).inv hf h
  · exact inv_exec hf h

theorem outKeeps_boundaryEntry {s : State} {o : Out} (h : s.boundaryEntry = some o) : OutKeeps s o := by
  unfold State.boundaryEntry at h
  split at h
  · cases h
    exact OutKeeps.trans (keeps_setEnv s _) (outKeeps_takeTrap _ _ _)
  · split at h
    · cases h
      exact OutKeeps.trans (keeps_setEnv s _) (outKeeps_takeTrap _ _ _)
    · split at h
      · cases h
        exact outKeeps_takeInterrupt s
      · cases h

theorem inv_busWrite (s : State) (w : BusWrite) (i : Inv s) : Inv (s.busWrite w) := by
  unfold State.busWrite
  split
  · split
    · exact (keeps_setMem s _ fun m => Memory.write_wf _ (BitVec.isLt _) m).inv i
    · exact i
    · exact i
  · split
    · exact inv_writeCsfr s _ _ i
    · exact i

theorem inv_foldl_busWrite (l : List BusWrite) (s : State) (i : Inv s) : Inv (l.foldl State.busWrite s) := by
  induction l generalizing s with
  | nil => exact i
  | cons w l ih => exact ih _ (inv_busWrite s w i)

/-- PIPN is no reserved field of the ICR (10 R95). -/
theorem setField_pipn_reserved {x : Word} (p : BitVec 8) (h : x &&& 0xFC00FE00 = 0) :
    setField x 16 8 p &&& 0xFC00FE00 = 0 :=
  reserved_of_agree h fun k hk hm => by
    have hout : ¬ (16 ≤ k ∧ k < 16 + 8) := by
      intro hin
      obtain ⟨h16, h24⟩ := hin
      interval_cases k <;> exact absurd hm (by decide)
    rw [getLsbD_setField _ _ _ _ _ (by omega), if_neg hout]

theorem inv_present (s : State) (x : HostInput) (i : Inv s) : Inv (s.present x) := by
  have hw := inv_foldl_busWrite x.writes s i
  unfold State.present
  refine (keeps_setEnv _ _).inv ?_
  split
  · exact hw
  · exact (keeps_setIcr _ _ (setField_pipn_reserved _)).inv hw

theorem inv_takeInput (s : State) (i : Inv s) : Inv s.takeInput := by
  unfold State.takeInput
  split
  · exact i
  · exact inv_present _ _ ((keeps_setEnv s _).inv i)

theorem clearRanges_modes (sets : List (List RangeEntry)) :
    ∀ set, set ∈ clearRanges sets → ∀ e, e ∈ set → e.mode &&& 0x56 = 0 := by
  intro set hset e he
  obtain ⟨old, -, rfl⟩ := List.mem_map.1 hset
  obtain ⟨-, -, rfl⟩ := List.mem_map.1 he
  rfl

theorem inv_resetEvent (s : State) (i : Inv s) : Inv s.resetEvent := by
  obtain ⟨hmem, -, -, -, -, -, -, -, -, hpc⟩ := i
  have hpsw : (0x00000B80 : Word) &&& 0x07FFC000 = 0 := rfl
  exact ⟨hmem, hpsw, BitVec.zero_and, BitVec.zero_and, BitVec.zero_and, masked_reserved _ _ _ rfl, BitVec.zero_and,
    clearRanges_modes _, hpc, hpc⟩

/-- Settles O48: the state in which a step works satisfies the invariant, and so does what a reset, an entry at the
boundary or an instruction makes of it. -/
theorem stepKeepsInvariant : Obligations.StepKeepsInvariant := by
  intro s t i h
  have hu : Inv s.takeInput := inv_takeInput s i
  unfold step at h
  split at h
  · cases h
    exact inv_resetEvent _ hu
  · split at h
    · cases h
    · split at h
      case h_1 o ho => exact (outKeeps_boundaryEntry ho).inv hu h
      case h_2 => exact inv_stepInstr hu h

/-! ## The state after reset and the reset event (10 R136, 70 R1020) -/

/-- Settles O46: the counter of 6 bits in 0x80 is 0, and every other value is read off `State.reset`. -/
theorem resetValues : Obligations.ResetValues := by
  have hcounter : HasCounter State.reset.psw 6 0 := ⟨le_refl 6, by decide, rfl⟩
  exact ⟨rfl, rfl, rfl, rfl, rfl, rfl, hcounter, rfl, rfl, rfl, rfl, rfl, rfl, rfl, rfl, rfl, rfl, rfl, rfl⟩

/-- The range tables after reset hold only entries with mode 0. -/
theorem reset_modes : ∀ set, set ∈ State.reset.codeSets → ∀ e, e ∈ set → e.mode &&& 0x56 = 0 := by
  intro set hset e he
  obtain ⟨-, rfl⟩ := List.mem_replicate.1 hset
  obtain ⟨-, rfl⟩ := List.mem_replicate.1 he
  rfl

/-- Settles O47, with the memory and the code mode registers by their own lemmas. -/
theorem resetSatisfiesInvariant : Obligations.ResetSatisfiesInvariant :=
  ⟨Memory.reset_wf, rfl, rfl, rfl, rfl, rfl, rfl, reset_modes, rfl, rfl⟩

theorem step_of_resetPresented {s : State} (h : s.resetPresented = true) : step s = .next s.takeInput.resetEvent :=
  if_pos h

/-- Settles O56: the step is the reset event of the state that the host's input leaves. -/
theorem resetEvent : Obligations.ResetEvent := by
  rintro s u h rfl
  have hd15 : s.takeInput.resetEvent.getD 15 = 0 := rfl
  exact ⟨_, step_of_resetPresented h, rfl, rfl, rfl, rfl, rfl, rfl, rfl, rfl, rfl, rfl, hd15, rfl, fun _ => rfl, rfl⟩

/-! ## What the host presents -/

/-- PIPN is the bits 23:16 of the ICR (10 R95). -/
theorem setField_pipn (x : Word) (p : BitVec 8) :
    setField x 16 8 p = (x &&& 0xFF00FFFF) ||| BitVec.ofNat 32 (p.toNat * 2 ^ 16) := by
  have hmask : ~~~((BitVec.allOnes 8).setWidth 32 <<< 16) = (0xFF00FFFF : Word) := by decide
  have hfield : p.setWidth 32 <<< 16 = BitVec.ofNat 32 (p.toNat * 2 ^ 16) := by
    apply BitVec.eq_of_toNat_eq
    rw [BitVec.toNat_shiftLeft, Nat.shiftLeft_eq, BitVec.toNat_setWidth, BitVec.toNat_ofNat]
    omega
  unfold setField
  rw [hmask, hfield]

theorem writeRange_setEnv (s : State) (e : Boundary) (q : RangeAddr) (x : Word) :
    (s.setEnv e).writeRange q x = (s.writeRange q x).setEnv e := by
  unfold State.writeRange
  split
  · rfl
  · rfl

/-- A write to a special register neither reads nor writes the boundary. -/
theorem putCsfr_setEnv (s : State) (e : Boundary) (r : CsfrName) (x : Word) :
    (s.setEnv e).putCsfr r x = (s.putCsfr r x).setEnv e := by
  cases r with
  | range q => exact writeRange_setEnv s e q x
  | _ => rfl

theorem csfrValue_setEnv (s : State) (e : Boundary) (r : CsfrName) : (s.setEnv e).csfrValue r = s.csfrValue r := by
  cases r <;> rfl

theorem writeCsfr_setEnv (s : State) (e : Boundary) (off : BitVec 16) (v : Word) :
    (s.setEnv e).writeCsfr off v = (s.writeCsfr off v).setEnv e := by
  unfold State.writeCsfr
  rw [State.setEnv_cfg]
  split
  · rw [csfrValue_setEnv]
    exact putCsfr_setEnv s e _ _
  · rfl

/-- A bus write of a byte: memory where storage stands takes it (log 31). -/
theorem busWrite_byte_of_storage {s : State} {x : Word} (v : Byte) (h : memKind s.cfg x = some .storage) :
    s.busWrite (.byte x v) = s.setMem (Memory.write s.mem x.toNat v) := by
  unfold State.busWrite
  simp only [h]

theorem busWrite_byte_of_no_storage {s : State} {x : Word} (v : Byte) (h : memKind s.cfg x ≠ some .storage) :
    s.busWrite (.byte x v) = s := by
  unfold State.busWrite
  simp only
  split
  · exact absurd ‹_› h
  · rfl
  · rfl

theorem busWrite_csfr_of_aligned (s : State) {k : BitVec 16} (v : Word) (h : k.toNat % 4 = 0) :
    s.busWrite (.csfr k v) = s.writeCsfr k v := if_pos h

theorem busWrite_csfr_of_unaligned (s : State) {k : BitVec 16} (v : Word) (h : k.toNat % 4 ≠ 0) :
    s.busWrite (.csfr k v) = s := if_neg h

/-- A bus write neither reads nor writes the boundary (20 R152). -/
theorem busWrite_setEnv (s : State) (e : Boundary) (w : BusWrite) :
    (s.setEnv e).busWrite w = (s.busWrite w).setEnv e := by
  cases w with
  | byte x v =>
    by_cases h : memKind s.cfg x = some .storage
    · rw [busWrite_byte_of_storage v h]
      exact busWrite_byte_of_storage v h
    · rw [busWrite_byte_of_no_storage v h]
      exact busWrite_byte_of_no_storage v h
  | csfr k v =>
    by_cases h : k.toNat % 4 = 0
    · rw [busWrite_csfr_of_aligned _ v h, busWrite_csfr_of_aligned _ v h]
      exact writeCsfr_setEnv s e k v
    · rw [busWrite_csfr_of_unaligned _ v h, busWrite_csfr_of_unaligned _ v h]

theorem takeInput_nil {s : State} (h : s.env.inputs = []) : s.takeInput = s := by
  unfold State.takeInput
  rw [h]

theorem takeInput_cons {s : State} {x : HostInput} {rest : List HostInput} (h : s.env.inputs = x :: rest) :
    s.takeInput = (s.setEnv { s.env with inputs := rest }).present x := by
  unfold State.takeInput State.dropInput
  rw [h]
  rfl

/-- The first bus write is made before the rest of the input is presented. -/
theorem present_cons (s : State) (x : HostInput) (b : BusWrite) (l : List BusWrite) (h : x.writes = b :: l) :
    s.present x = (s.busWrite b).present { x with writes := l } := by
  unfold State.present
  rw [h]
  rfl

theorem takeInput_writes_cons {s : State} {x : HostInput} {rest : List HostInput} {b : BusWrite} {l : List BusWrite}
    (hx : s.env.inputs = x :: rest) (hw : x.writes = b :: l) :
    s.takeInput = ((s.busWrite b).setEnv { s.env with inputs := { x with writes := l } :: rest }).takeInput := by
  rw [takeInput_cons hx, present_cons _ x b l hw, busWrite_setEnv, takeInput_cons rfl]
  rfl

theorem present_of_pipn_none (s : State) (x : HostInput) (hw : x.writes = []) (hp : x.pipn = none) :
    s.present x = s.setEnv { s.env with
      nmiPending := x.nmi || s.env.nmiPending
      trapsPending := s.env.trapsPending ++ x.busTrap.toList } := by
  unfold State.present
  rw [hw, hp]
  rfl

theorem present_of_pipn_some (s : State) (x : HostInput) (p : BitVec 8) (hw : x.writes = []) (hp : x.pipn = some p) :
    s.present x = (s.setIcr ((s.icr &&& 0xFF00FFFF) ||| BitVec.ofNat 32 (p.toNat * 2 ^ 16))).setEnv { s.env with
      nmiPending := x.nmi || s.env.nmiPending
      trapsPending := s.env.trapsPending ++ x.busTrap.toList } := by
  unfold State.present
  rw [hw, hp, ← setField_pipn]
  rfl

/-- Settles O55: the input is taken off the list, its bus writes are made one by one, and then the ICR and the pending
events take the rest of it. -/
theorem hostEvents : Obligations.HostEvents := by
  refine ⟨fun s h => takeInput_nil h, ?rest, fun s x rest b l hx hw => takeInput_writes_cons hx hw, ?byte, ?csfr⟩
  case rest =>
    intro s x rest hx hw
    rw [takeInput_cons hx]
    cases hp : x.pipn with
    | none => exact present_of_pipn_none _ x hw hp
    | some p => exact present_of_pipn_some _ x p hw hp
  case byte =>
    intro s a v
    by_cases hk : memKind s.cfg a = some .storage
    · refine ⟨_, busWrite_byte_of_storage v hk, fun _ => ⟨fun y hy => ?_, fun hwf => ?_⟩, fun hn => absurd hk hn⟩
      · exact Memory.read_write_other hy v s.mem
      · exact Memory.read_write_same v hwf
    · exact ⟨s.mem, busWrite_byte_of_no_storage v hk, fun hs => absurd hs hk, fun _ => rfl⟩
  case csfr =>
    intro s v k
    refine ⟨fun h4 r old hr hv => ?_, fun h4 hu => ?_, busWrite_csfr_of_unaligned s v⟩
    · rw [busWrite_csfr_of_aligned s v h4]
      exact (writeCsfr_spec s k v h4).1 r old hr hv
    · rw [busWrite_csfr_of_aligned s v h4]
      exact (writeCsfr_spec s k v h4).2 hu

end Sys2Proof.Machine
end

section
/-! The memory: the addressing modes and the bytes of an access (O33), the value it reads (O34), and the traps of the
fetch and decode (O53). -/

namespace Sys2Proof.Machine

open Sys2Proof

/-! ## The addressing modes (20 R161 to R170) -/

theorem toNat_hiHalf (x : Word) : (hiHalf x).toNat = x.toNat / 2 ^ 16 := by
  have := x.isLt
  unfold hiHalf
  rw [BitVec.extractLsb'_toNat, Nat.shiftRight_eq_div_pow]
  omega

theorem toNat_loHalf (x : Word) : (loHalf x).toNat = x.toNat % 2 ^ 16 := by
  unfold loHalf
  rw [BitVec.extractLsb'_toNat, Nat.shiftRight_zero]

theorem absAddress_eq (off : BitVec 18) :
    absAddress off = BitVec.ofNat 32 (off.toNat / 2 ^ 14 * 2 ^ 28 + off.toNat % 2 ^ 14) := by
  apply BitVec.eq_of_toNat_eq
  have := off.isLt
  rw [absAddress, toNat_append_add, toNat_append_zero, BitVec.extractLsb'_toNat, BitVec.extractLsb'_toNat,
    BitVec.toNat_ofNat, Nat.shiftRight_eq_div_pow, Nat.shiftRight_zero]
  omega

/-- The index of the circular mode wraps at most once, at either end of the buffer (20 R168). -/
theorem circularIndex_wraps_once (i l off : Int) : ∃ j : Int,
    (0 ≤ i + off ∧ i + off < l → j = i + off) ∧ (i + off < 0 → j = i + off + l) ∧
    (0 ≤ i + off → l ≤ i + off → j = i + off - l) ∧ circularIndex i l off = BitVec.ofInt 16 j := by
  refine ⟨_, ?inside, ?below, ?above, rfl⟩
  case inside => rintro ⟨h0, hlt⟩; rw [if_neg (by omega), if_neg (by omega)]
  case below => intro hneg; rw [if_pos hneg]
  case above => intro h0 hle; rw [if_neg (by omega), if_pos hle]

/-- The pair register of the circular mode: the length stays in the upper half, the index is cut to the lower half. -/
theorem append_ofInt_eq (m : BitVec 16) (j : Int) :
    m ++ BitVec.ofInt 16 j = BitVec.ofInt 32 (m.toNat * 2 ^ 16 + j % 2 ^ 16) := by
  apply BitVec.eq_of_toNat_eq
  have := m.isLt
  rw [toNat_append_add, BitVec.toNat_ofInt, BitVec.toNat_ofInt]
  omega

/-- The reversed index advances by the reversed modifier: the carries of the sum run from bit 15 down (20 R170). -/
theorem reverse_reverseIndex (i m : BitVec 16) : (reverseIndex i m).reverse = i.reverse + m.reverse :=
  BitVec.reverse_reverse_eq

theorem isPair_eq_decide (b : Reg) : Reg.isPair b = decide (b.val % 2 = 0) :=
  beq_eq_decide _ _

theorem byteAddr_of_wrapping {p : Place} {r : Ring} {n : Nat} (k : Nat) (hr : p.ring = some r) (hin : r.index < r.len)
    (hend : r.len < r.index + n) : p.byteAddr n k = r.base + BitVec.ofNat 32 ((r.index + k) % r.len) := by
  unfold Place.byteAddr
  rw [hr]
  exact if_pos ⟨hin, hend⟩

theorem byteAddr_of_consecutive {p : Place} {n : Nat} (k : Nat)
    (h : ∀ r, p.ring = some r → ¬ (r.index < r.len ∧ r.len < r.index + n)) :
    p.byteAddr n k = p.ea + BitVec.ofNat 32 k := by
  unfold Place.byteAddr
  split
  · rfl
  · next r hr => exact if_neg (h r hr)

/-- The place of the circular mode, its index and length as numbers. -/
theorem place_circ (s : State) (b : Reg) (off : BitVec 10) {i l : Nat} {j : Int}
    (hi : i = (s.getA (b + 1)).toNat % 2 ^ 16) (hl : l = (s.getA (b + 1)).toNat / 2 ^ 16)
    (hj : circularIndex i l off.toInt = BitVec.ofInt 16 j) :
    (AddrMode.circ b off).place s = ⟨s.getA b + BitVec.ofNat 32 i, some (s.getA b), some ⟨s.getA b, l, i⟩,
      some (b + 1, BitVec.ofInt 32 (l * 2 ^ 16 + j % 2 ^ 16)), decide (b.val % 2 = 0)⟩ := by
  rw [← toNat_loHalf] at hi
  rw [← toNat_hiHalf] at hl
  subst hi hl
  simp only [AddrMode.place, zext16_eq, hj, append_ofInt_eq, isPair_eq_decide]

theorem place_brev (s : State) (b : Reg) :
    (AddrMode.brev b).place s = ⟨s.getA b + BitVec.ofNat 32 (loHalf (s.getA (b + 1))).toNat, some (s.getA b), none,
      some (b + 1, hiHalf (s.getA (b + 1)) ++ reverseIndex (loHalf (s.getA (b + 1))) (hiHalf (s.getA (b + 1)))),
      decide (b.val % 2 = 0)⟩ := by
  simp only [AddrMode.place, zext16_eq, isPair_eq_decide]

/-- Settles O33: the modes without a pair register are read off `AddrMode.place`; the circular and the bit-reverse mode
turn on the new index. -/
theorem addressingModes : Obligations.AddressingModes := by
  intro s b o10 o18
  refine ⟨?abs, fun _ => rfl, fun _ => rfl, fun _ => rfl, ?circ, ?brev, fun q n k => ⟨?wrapping, ?consecutive⟩⟩
  case abs => rw [← absAddress_eq]; rfl
  case circ =>
    intro i l hi hl
    obtain ⟨j, inside, below, above, hj⟩ := circularIndex_wraps_once i l o10.toInt
    exact ⟨j, inside, below, above, place_circ s b o10 hi hl hj⟩
  case brev =>
    exact ⟨loHalf (s.getA (b + 1)), hiHalf (s.getA (b + 1)), _, toNat_loHalf _, toNat_hiHalf _,
      reverse_reverseIndex _ _, place_brev s b⟩
  case wrapping => exact fun r hr hin hend => byteAddr_of_wrapping k hr hin hend
  case consecutive => exact byteAddr_of_consecutive k

/-! ## The value an access reads (20 R140, 48 R802) -/

/-- Byte `k` of the value read is the byte of memory at the `k`-th address. -/
theorem Memory.byte_of_readBytes (m : List Host.Cell) (addr : Nat → Word) {n k : Nat} (hk : k < n) :
    BitVec.ofNat 8 (Memory.readBytes m addr n / 256 ^ k) = Memory.read m (addr k).toNat := by
  obtain ⟨d, rfl⟩ := Nat.exists_eq_add_of_lt hk
  have hlow := Memory.readBytes_mod m (fun i => addr (k + i)) 1 d
  rw [Nat.add_assoc, Memory.readBytes_div, Nat.add_comm d 1]
  apply BitVec.eq_of_toNat_eq
  rw [BitVec.toNat_ofNat]
  simpa [Memory.readBytes] using hlow

theorem loadValue_of_storage {s : State} {p : Place} (n : Nat) (h : memKind s.cfg p.ea = some .storage) :
    s.loadValue p n = Memory.readBytes s.mem (p.byteAddr n) n := by
  unfold State.loadValue
  rw [h]
  rfl

/-- Settles O34, with the bound by `loadValue_lt` and the bytes by `Memory.byte_of_readBytes`. -/
theorem loadedValue : Obligations.LoadedValue := by
  intro s q n
  refine ⟨loadValue_lt s q n, fun hk k hkn => ?_⟩
  rw [loadValue_of_storage n hk]
  exact Memory.byte_of_readBytes _ _ hkn

/-! ## The step without an entry (60 R979, R980) -/

theorem interruptAccepted_iff (s : State) : s.interruptAccepted = true ↔ InterruptAccepted s := by
  unfold State.interruptAccepted InterruptAccepted
  rw [Bool.and_eq_true, decide_eq_true_iff]

theorem boundaryEntry_of_noEntry {u : State} (h : NoEntry u) : u.boundaryEntry = none := by
  obtain ⟨hnmi, htraps, hint⟩ := h
  unfold State.boundaryEntry
  rw [hnmi, htraps]
  exact if_neg (mt (interruptAccepted_iff u).1 hint)

/-- Where no entry is made the step is the instruction at pc. -/
theorem step_of_noEntry {s u : State} (hp : Presented s u) (hn : NoEntry u) : step s = stepInstr u := by
  obtain ⟨rfl, hreset, hio⟩ := hp
  unfold step
  rw [hreset, boundaryEntry_of_noEntry hn, if_neg Bool.false_ne_true, if_neg (by simpa using hio)]

/-! ## The checks of the fetch (20 R185) -/

theorem fetchPermitted_iff (u : State) : u.fetchPermitted u.pc = true ↔ FetchInRange u := by
  unfold State.fetchPermitted FetchInRange State.proten
  rw [Bool.or_eq_true, setPermits_iff, Bool.not_eq_true', ← Bool.not_eq_true, imp_iff_not_or]

theorem not_peripheral {x : Word} (h : x.toNat < 0xE0000000) : ¬ isPeripheral x = true := by
  rw [isPeripheral_iff]
  omega

theorem not_inCsfrArea {x : Word} (h : ¬ InCsfrArea x) : ¬ inCsfrArea x = true := mt (inCsfrArea_iff x).1 h

/-- A fetch that the ranges permit. -/
theorem not_fetchDenied {u : State} (h : FetchInRange u) : ¬ (!u.fetchPermitted u.pc) = true := by
  rw [(fetchPermitted_iff u).2 h]
  exact Bool.false_ne_true

theorem fetchTrap_peripheral {u : State} (h : 0xE0000000 ≤ u.pc.toNat) : u.fetchTrap = some .mpx :=
  if_pos ((isPeripheral_iff _).2 h)

theorem fetchTrap_csfrArea {u : State} (h : InCsfrArea u.pc) : u.fetchTrap = some .mem := by
  have hp : u.pc.toNat < 0xE0000000 := by
    obtain ⟨_, hle⟩ := h
    omega
  unfold State.fetchTrap
  rw [if_neg (not_peripheral hp), if_pos ((inCsfrArea_iff _).2 h)]

theorem fetchTrap_denied {u : State} (hp : u.pc.toNat < 0xE0000000) (hc : ¬ InCsfrArea u.pc) (hr : ¬ FetchInRange u) :
    u.fetchTrap = some .mpx := by
  unfold State.fetchTrap
  rw [if_neg (not_peripheral hp), if_neg (not_inCsfrArea hc), if_pos]
  rw [Bool.not_eq_true', ← Bool.not_eq_true, fetchPermitted_iff]
  exact hr

theorem fetchTrap_local {u : State} (hl : u.pc.toNat < 0x30000000) (hc : ¬ InCsfrArea u.pc) (hr : FetchInRange u)
    (hm : memKind u.cfg u.pc = none) : u.fetchTrap = some (.bus .bus) := by
  unfold State.fetchTrap
  rw [if_neg (not_peripheral (by omega)), if_neg (not_inCsfrArea hc), if_neg (not_fetchDenied hr),
    if_pos ((localUnimplemented_iff _ _).2 ⟨hl, hm⟩)]

theorem fetchTrap_of_fetchOk {u : State} (h : FetchOk u) : u.fetchTrap = none := by
  obtain ⟨hp, hc, hr, hm⟩ := h
  have hbus : ¬ localUnimplemented u.cfg u.pc = true := by
    rw [localUnimplemented_iff]
    exact fun ⟨hl, hnone⟩ => hm hl hnone
  unfold State.fetchTrap
  rw [if_neg (not_peripheral hp), if_neg (not_inCsfrArea hc), if_neg (not_fetchDenied hr), if_neg hbus]

/-- A trap of the fetch is taken in the state before it: no signal is sent and no byte drawn. -/
theorem stepInstr_of_fetchTrap {u : State} {x : Trap} (h : u.fetchTrap = some x) : stepInstr u = raise u x := by
  have hfetch : u.fetch = .error x := by unfold State.fetch; rw [h]
  have hdone : u.fetchDone = u := by unfold State.fetchDone; rw [h]; rfl
  unfold stepInstr
  rw [hfetch, hdone]

/-! ## The instruction fetched (30 R235, 60 R980) -/

theorem fetchedWord_eq (u : State) : u.fetchedWord = wordFetched u := by
  unfold State.fetchedWord wordFetched State.readValue
  cases hk : memKind u.cfg u.pc with
  | none => rfl
  | some kind => cases kind <;> rfl

theorem afterFetch_eq (u : State) : u.afterFetch = fetchedState u := by
  unfold State.afterFetch State.drawFetch fetchedState
  rw [fetchedWord_eq, State.emit_cfg, State.emit_pc]
  cases hk : memKind u.cfg u.pc with
  | none => rfl
  | some kind => cases kind <;> rfl

theorem fetchDone_of_fetchOk {u : State} (h : FetchOk u) : u.fetchDone = fetchedState u := by
  unfold State.fetchDone
  rw [fetchTrap_of_fetchOk h, afterFetch_eq]
  rfl

theorem isUnimplemented_iff (u : State) (w : Word) : isUnimplemented u.cfg w = true ↔ MarkedUnimplemented u w := by
  unfold isUnimplemented MarkedUnimplemented
  simp only [List.any_eq_true, beq_iff_eq]

theorem fetch_illegal {u : State} {e : DecodeError} (h : FetchOk u)
    (hd : decodeBy u.cfg.opcodeMap (wordFetched u) = .error e) : u.fetch = .error .iopc := by
  unfold State.fetch
  rw [fetchTrap_of_fetchOk h, fetchedWord_eq, hd]

theorem fetch_decoded {u : State} {i : Instr} (h : FetchOk u)
    (hd : decodeBy u.cfg.opcodeMap (wordFetched u) = .ok i) :
    u.fetch = if isUnimplemented u.cfg (wordFetched u) then .error .uopc else .ok i := by
  unfold State.fetch
  rw [fetchTrap_of_fetchOk h, fetchedWord_eq, hd]

theorem fetch_unimplemented {u : State} {i : Instr} (h : FetchOk u)
    (hd : decodeBy u.cfg.opcodeMap (wordFetched u) = .ok i) (hu : MarkedUnimplemented u (wordFetched u)) :
    u.fetch = .error .uopc := by
  rw [fetch_decoded h hd, if_pos ((isUnimplemented_iff u _).2 hu)]

/-- A trap of the decoding is taken after the fetch is done. -/
theorem stepInstr_of_decodeTrap {u : State} {x : Trap} (h : FetchOk u) (hf : u.fetch = .error x) :
    stepInstr u = raise (fetchedState u) x := by
  unfold stepInstr
  rw [hf, fetchDone_of_fetchOk h]

/-- Settles O53: the step is the instruction at pc, and each clause is one outcome of its fetch. -/
theorem fetchAndDecodeTraps : Obligations.FetchAndDecodeTraps := by
  intro s u i e hp hn
  rw [step_of_noEntry hp hn]
  refine ⟨?peripheral, ?csfrArea, ?denied, ?unmapped, ?illegal, ?unimplemented⟩
  case peripheral => exact fun h => stepInstr_of_fetchTrap (fetchTrap_peripheral h)
  case csfrArea => exact fun h => stepInstr_of_fetchTrap (fetchTrap_csfrArea h)
  case denied => exact fun h hc hr => stepInstr_of_fetchTrap (fetchTrap_denied h hc hr)
  case unmapped => exact fun h hc hr hm => stepInstr_of_fetchTrap (fetchTrap_local h hc hr hm)
  case illegal => exact fun h hd => stepInstr_of_decodeTrap h (fetch_illegal h hd)
  case unimplemented => exact fun h hd hu => stepInstr_of_decodeTrap h (fetch_unimplemented h hd hu)

end Sys2Proof.Machine
end

section
/-! The encoding: what an encoded word decodes to (O50), the length of a decoded instruction and any other opcode map
(O51), and the words of the spec's vectors (O49). -/

namespace Sys2Proof

open Laws

/-! ## The tables that read op2 in two parts -/

/-- The bits of a field above its lowest `k`. -/
theorem bitsOf_high (x lo k n : Nat) : bitsOf x (lo + k) n = bitsOf x lo (k + n) / 2 ^ k := by
  unfold bitsOf
  rw [Nat.pow_add, Nat.pow_add, ← Nat.div_div_eq_div_mul, Nat.mod_mul_right_div_self]

theorem bitsOf_low (x lo k n : Nat) : bitsOf x lo k = bitsOf x lo (k + n) % 2 ^ k := by
  unfold bitsOf
  rw [Nat.pow_add, Nat.mod_mul_right_mod]

theorem encBo_op2_high (op1 op2 : Nat) (a b : Reg) (off10 : BitVec 10) (h1 : op1 < 256) (h2 : op2 < 64) :
    bitsOf (encBo op1 op2 a b off10).toNat 25 3 = op2 / 8 :=
  (bitsOf_high _ 22 3 3).trans (congrArg (· / 8) (encBo_op2 op1 op2 a b off10 h1 h2))

theorem encBo_op2_low (op1 op2 : Nat) (a b : Reg) (off10 : BitVec 10) (h1 : op1 < 256) (h2 : op2 < 64) :
    bitsOf (encBo op1 op2 a b off10).toNat 22 3 = op2 % 8 :=
  (bitsOf_low _ 22 3 3).trans (congrArg (· % 8) (encBo_op2 op1 op2 a b off10 h1 h2))

theorem encSys_op2_high (op1 op2 : Nat) (h1 : op1 < 256) (h2 : op2 < 64) :
    bitsOf (encSys op1 op2).toNat 26 2 = op2 / 16 :=
  (bitsOf_high _ 22 4 2).trans (congrArg (· / 16) (encSys_op2 op1 op2 h1 h2))

theorem encSys_op2_low (op1 op2 : Nat) (h1 : op1 < 256) (h2 : op2 < 64) :
    bitsOf (encSys op1 op2).toNat 22 4 = op2 % 16 :=
  (bitsOf_low _ 22 4 2).trans (congrArg (· % 16) (encSys_op2 op1 op2 h1 h2))

/-! Formats RC and RR: the table that the upper op2 bits select, and the round trip of a form from its row of that table,
stated for every word with the fields of the encoded one. -/

theorem decodeRc4F_x0 {w : Word} (h : bitsOf w.toNat 25 3 = 0) : decodeRc4F w = decodeRc4Fx0 w := by
  simp only [decodeRc4F, h]
theorem decodeRc4F_x1 {w : Word} (h : bitsOf w.toNat 25 3 = 1) : decodeRc4F w = decodeRc4Fx1 w := by
  simp only [decodeRc4F, h]
theorem decodeRc4F_x2 {w : Word} (h : bitsOf w.toNat 25 3 = 2) : decodeRc4F w = decodeRc4Fx2 w := by
  simp only [decodeRc4F, h]
theorem decodeRc4F_x3 {w : Word} (h : bitsOf w.toNat 25 3 = 3) : decodeRc4F w = decodeRc4Fx3 w := by
  simp only [decodeRc4F, h]
theorem decodeRc4F_x4 {w : Word} (h : bitsOf w.toNat 25 3 = 4) : decodeRc4F w = decodeRc4Fx4 w := by
  simp only [decodeRc4F, h]

theorem decodeRr6F_x0 {w : Word} (h : bitsOf w.toNat 24 4 = 0) : decodeRr6F w = decodeRr6Fx0 w := by
  simp only [decodeRr6F, h]
theorem decodeRr6F_x1 {w : Word} (h : bitsOf w.toNat 24 4 = 1) : decodeRr6F w = decodeRr6Fx1 w := by
  simp only [decodeRr6F, h]
theorem decodeRr6F_x2 {w : Word} (h : bitsOf w.toNat 24 4 = 2) : decodeRr6F w = decodeRr6Fx2 w := by
  simp only [decodeRr6F, h]
theorem decodeRr6F_x3 {w : Word} (h : bitsOf w.toNat 24 4 = 3) : decodeRr6F w = decodeRr6Fx3 w := by
  simp only [decodeRr6F, h]
theorem decodeRr6F_x4 {w : Word} (h : bitsOf w.toNat 24 4 = 4) : decodeRr6F w = decodeRr6Fx4 w := by
  simp only [decodeRr6F, h]
theorem decodeRr6F_x5 {w : Word} (h : bitsOf w.toNat 24 4 = 5) : decodeRr6F w = decodeRr6Fx5 w := by
  simp only [decodeRr6F, h]
theorem decodeRr6F_x6 {w : Word} (h : bitsOf w.toNat 24 4 = 6) : decodeRr6F w = decodeRr6Fx6 w := by
  simp only [decodeRr6F, h]
theorem decodeRr6F_x7 {w : Word} (h : bitsOf w.toNat 24 4 = 7) : decodeRr6F w = decodeRr6Fx7 w := by
  simp only [decodeRr6F, h]
theorem decodeRr6F_x8 {w : Word} (h : bitsOf w.toNat 24 4 = 8) : decodeRr6F w = decodeRr6Fx8 w := by
  simp only [decodeRr6F, h]
theorem decodeRr6F_x9 {w : Word} (h : bitsOf w.toNat 24 4 = 9) : decodeRr6F w = decodeRr6Fx9 w := by
  simp only [decodeRr6F, h]

theorem decodeForm_encode_rc {i : Instr} {op2 : Nat} {a c : Reg} {const9 : BitVec 9}
    (he : encode i = .word (encRc 0x4F op2 a c const9)) (h2 : op2 < 128)
    (h : ∀ w : Word, bitsOf w.toNat 25 3 = op2 / 16 → bitsOf w.toNat 21 4 = op2 % 16 →
      fieldD w = c → fieldS1 w = a → fieldConst9 w = const9 → decodeRc4F w = some i) :
    decodeForm (encode i).toWord = some i := by
  have h1 : 0x4F < 256 := by decide
  have hop2 := encRc_op2 0x4F op2 a c const9 h1 h2
  have hhigh := (bitsOf_high _ 21 4 3).trans (congrArg (· / 16) hop2)
  have hlow := (bitsOf_low _ 21 4 3).trans (congrArg (· % 16) hop2)
  rw [he, Encoding.toWord, decodeForm_4F (encRc_op1 _ _ _ _ _ h1)]
  exact h _ hhigh hlow (encRc_fieldD _ _ _ _ _ h1 h2) (encRc_fieldS1 _ _ _ _ _ h1) (encRc_fieldConst9 _ _ _ _ _ h1)

theorem decodeForm_encode_rr {i : Instr} {op2 : Nat} {a b c : Reg} {n : BitVec 2}
    (he : encode i = .word (encRr 0x6F op2 a b c n)) (h2 : op2 < 256)
    (h : ∀ w : Word, bitsOf w.toNat 24 4 = op2 / 16 → bitsOf w.toNat 20 4 = op2 % 16 →
      fieldD w = c → fieldS1 w = a → fieldS2 w = b → fieldN w = n → decodeRr6F w = some i) :
    decodeForm (encode i).toWord = some i := by
  have h1 : 0x6F < 256 := by decide
  have hop2 := encRr_op2 0x6F op2 a b c n h1 h2
  have hhigh := (bitsOf_high _ 20 4 4).trans (congrArg (· / 16) hop2)
  have hlow := (bitsOf_low _ 20 4 4).trans (congrArg (· % 16) hop2)
  rw [he, Encoding.toWord, decodeForm_6F (encRr_op1 _ _ _ _ _ _ h1)]
  exact h _ hhigh hlow (encRr_fieldD _ _ _ _ _ _ h1 h2) (encRr_fieldS1 _ _ _ _ _ _ h1) (encRr_fieldS2 _ _ _ _ _ _ h1)
    (encRr_fieldN _ _ _ _ _ _ h1)

/-- Bit 7 of the first byte belongs to the bit number in BRN and SBRN (30 R210). -/
theorem firstByte_of_op1_7 {x n : Nat} (h : bitsOf x 0 7 = n) : bitsOf x 0 8 = n ∨ bitsOf x 0 8 = n + 0x80 := by
  simp only [bitsOf] at *
  omega

theorem decodeForm_brn01 {w : Word} (h : bitsOf w.toNat 0 7 = 0x01) : decodeForm w = decodeBrn01 w := by
  rcases firstByte_of_op1_7 h with h | h
  · exact decodeForm_01 h
  · exact decodeForm_81 h

theorem decodeForm_sbrn04 {w : Word} (h : bitsOf w.toNat 0 7 = 0x04) :
    decodeForm w = some (.jnzTSbrn (fieldBitNumber w) (fieldDisp4 w)) := by
  rcases firstByte_of_op1_7 h with h | h
  · exact decodeForm_04 h
  · exact decodeForm_84 h

theorem decodeForm_sbrn06 {w : Word} (h : bitsOf w.toNat 0 7 = 0x06) :
    decodeForm w = some (.jzTSbrn (fieldBitNumber w) (fieldDisp4 w)) := by
  rcases firstByte_of_op1_7 h with h | h
  · exact decodeForm_06 h
  · exact decodeForm_86 h

/-- Bits 7:6 of the first byte are the shift count of SRRS (30 R210). -/
theorem decodeForm_srrs02 {w : Word} (h : bitsOf w.toNat 0 6 = 0x02) :
    decodeForm w = some (.addscASrrs (fieldS1 w) (fieldS2 w) (fieldNSrrs w)) := by
  have hbyte : bitsOf w.toNat 0 8 = 0x02 ∨ bitsOf w.toNat 0 8 = 0x42 ∨ bitsOf w.toNat 0 8 = 0x82 ∨
      bitsOf w.toNat 0 8 = 0xC2 := by
    simp only [bitsOf] at *
    omega
  rcases hbyte with h | h | h | h
  · exact decodeForm_02 h
  · exact decodeForm_42 h
  · exact decodeForm_82 h
  · exact decodeForm_C2 h

/-! ## The round trip on words -/

/-- An encoded instruction decodes to itself. In each format op1 leads to the tables of the format, op2 to the row of
the form, and every operand is read from the field that holds it. -/
theorem decodeForm_encode (i : Instr) : decodeForm (encode i).toWord = some i := by
  cases i with
  -- Format BRN.
  | jnzTBrn | jzTBrn =>
    change decodeForm (encBrn _ _ _ _ _) = _
    simp only [decodeForm_brn01, encBrn_op1, decodeBrn01, encBrn_op2, encBrn_fieldDisp15, encBrn_fieldBitNumber,
      encBrn_fieldS1, Nat.reduceLT]
  -- Format ABS.
  | ldAAbs | ldBuAbs | ldBAbs | ldDaAbs | ldDAbs | ldHuAbs | ldHAbs | ldQAbs | ldWAbs | ldlcxAbs | ldmstAbs
  | lducxAbs | leaAbs | stAAbs | stBAbs | stDaAbs | stDAbs | stHAbs | stQAbs | stWAbs | stlcxAbs | stucxAbs
  | swapAAbs | swapWAbs =>
    change decodeForm (encAbs _ _ _ _) = _
    simp only [decodeForm_03, decodeForm_05, decodeForm_07, decodeForm_09, decodeForm_0B, decodeForm_0D, encAbs_op1,
      decodeAbs03, decodeAbs05, decodeAbs07, decodeAbs09, decodeAbs0B, decodeAbs0D, encAbs_op2, encAbs_fieldOff18,
      encAbs_fieldS1, Nat.reduceLT]
  -- Format ABSB.
  | stTAbsb =>
    change decodeForm (encAbsb _ _ _ _ _) = _
    simp only [decodeForm_0F, encAbsb_op1, decodeAbsb0F, encAbsb_op2, encAbsb_fieldOff18, encAbsb_fieldB,
      encAbsb_fieldBpos3, Nat.reduceLT]
  -- Format B.
  | callaB | callB | jaB | jlaB | jlB | jB =>
    change decodeForm (encB _ _) = _
    simp only [decodeForm_11, decodeForm_13, decodeForm_15, decodeForm_17, decodeForm_19, decodeForm_1B, encB_op1,
      encB_fieldDisp24, Nat.reduceLT]
  -- Format BIT.
  | andAndTBit | andAndnTBit | andNorTBit | andOrTBit | andTBit | andnTBit | insTBit | insnTBit | nandTBit | norTBit
  | orAndTBit | orAndnTBit | orNorTBit | orOrTBit | orTBit | ornTBit | shAndTBit | shAndnTBit | shNandTBit
  | shNorTBit | shOrTBit | shOrnTBit | shXnorTBit | shXorTBit | xnorTBit | xorTBit =>
    change decodeForm (encBit _ _ _ _ _ _ _) = _
    simp only [decodeForm_1D, decodeForm_1F, decodeForm_21, decodeForm_23, decodeForm_25, decodeForm_27,
      decodeForm_29, encBit_op1, decodeBit1D, decodeBit1F, decodeBit21, decodeBit23, decodeBit25, decodeBit27,
      decodeBit29, encBit_op2, encBit_fieldD, encBit_fieldP2, encBit_fieldP1, encBit_fieldS2, encBit_fieldS1,
      Nat.reduceLT]
  -- Format BO.
  | ldABoShort | ldABoPreinc | ldABoPostinc | ldABoCirc | ldABoBrev | ldBBoShort | ldBBoPreinc | ldBBoPostinc
  | ldBBoCirc | ldBBoBrev | ldBuBoShort | ldBuBoPreinc | ldBuBoPostinc | ldBuBoCirc | ldBuBoBrev | ldDBoShort
  | ldDBoPreinc | ldDBoPostinc | ldDBoCirc | ldDBoBrev | ldDaBoShort | ldDaBoPreinc | ldDaBoPostinc | ldDaBoCirc
  | ldDaBoBrev | ldHBoShort | ldHBoPreinc | ldHBoPostinc | ldHBoCirc | ldHBoBrev | ldHuBoShort | ldHuBoPreinc
  | ldHuBoPostinc | ldHuBoCirc | ldHuBoBrev | ldQBoShort | ldQBoPreinc | ldQBoPostinc | ldQBoCirc | ldQBoBrev
  | ldWBoShort | ldWBoPreinc | ldWBoPostinc | ldWBoCirc | ldWBoBrev | ldlcxBoShort | ldmstBoShort | ldmstBoPreinc
  | ldmstBoPostinc | ldmstBoCirc | ldmstBoBrev | lducxBoShort | leaBoShort | leaBoPreinc | leaBoPostinc | leaBoCirc
  | leaBoBrev | stABoShort | stABoPreinc | stABoPostinc | stABoCirc | stABoBrev | stBBoShort | stBBoPreinc
  | stBBoPostinc | stBBoCirc | stBBoBrev | stDBoShort | stDBoPreinc | stDBoPostinc | stDBoCirc | stDBoBrev
  | stDaBoShort | stDaBoPreinc | stDaBoPostinc | stDaBoCirc | stDaBoBrev | stHBoShort | stHBoPreinc | stHBoPostinc
  | stHBoCirc | stHBoBrev | stQBoShort | stQBoPreinc | stQBoPostinc | stQBoCirc | stQBoBrev | stWBoShort
  | stWBoPreinc | stWBoPostinc | stWBoCirc | stWBoBrev | stlcxBoShort | stucxBoShort | swapABoShort | swapABoPreinc
  | swapABoPostinc | swapABoCirc | swapABoBrev | swapWBoShort | swapWBoPreinc | swapWBoPostinc | swapWBoCirc
  | swapWBoBrev =>
    change decodeForm (encBo _ _ _ _ _) = _
    simp only [decodeForm_2B, decodeForm_2D, decodeForm_2F, encBo_op1, decodeBo2B, decodeBo2D, decodeBo2F,
      encBo_op2_high, decodeBo2Bx0, decodeBo2Bx1, decodeBo2Bx2, decodeBo2Bx3, decodeBo2Bx4, decodeBo2Dx0,
      decodeBo2Dx1, decodeBo2Dx2, decodeBo2Dx3, decodeBo2Dx4, decodeBo2Fx0, decodeBo2Fx1, decodeBo2Fx2, decodeBo2Fx3,
      decodeBo2Fx4, encBo_op2_low, encBo_fieldOff10, encBo_fieldS2, encBo_fieldS1, Nat.reduceLT]
  -- Format BOL.
  | ldABol | ldWBol | leaBol | stWBol =>
    change decodeForm (encBol _ _ _ _) = _
    simp only [decodeForm_31, decodeForm_33, decodeForm_35, decodeForm_37, encBol_op1, encBol_fieldOff16,
      encBol_fieldS2, encBol_fieldS1, Nat.reduceLT]
  -- Format BRC.
  | jeqBrc | jgeUBrc | jgeBrc | jltUBrc | jltBrc | jnedBrc | jneiBrc | jneBrc =>
    change decodeForm (encBrc _ _ _ _ _) = _
    simp only [decodeForm_39, decodeForm_3B, decodeForm_3D, decodeForm_3F, encBrc_op1, decodeBrc39, decodeBrc3B,
      decodeBrc3D, decodeBrc3F, encBrc_op2, encBrc_fieldDisp15, encBrc_fieldConst4, encBrc_fieldS1, Nat.reduceLT]
  -- Format BRR.
  | jeqABrr | jeqBrr | jgeUBrr | jgeBrr | jltUBrr | jltBrr | jneABrr | jnedBrr | jneiBrr | jneBrr | jnzABrr | jzABrr
  | loopBrr =>
    change decodeForm (encBrr _ _ _ _ _) = _
    simp only [decodeForm_41, decodeForm_43, decodeForm_45, decodeForm_47, decodeForm_49, decodeForm_4B,
      decodeForm_4D, encBrr_op1, decodeBrr41, decodeBrr43, decodeBrr45, decodeBrr47, decodeBrr49, decodeBrr4B,
      decodeBrr4D, encBrr_op2, encBrr_fieldDisp15, encBrr_fieldS2, encBrr_fieldS1, Nat.reduceLT]
  -- Format RC, op2 0x00 to 0x0F.
  | absdifsRc | absdifRc | addcRc | addsURc | addsRc | addxRc | addRc | andEqRc | andGeURc | andGeRc | andLtURc
  | andLtRc | andNeRc | andnRc | andRc | bisrRc =>
    refine decodeForm_encode_rc rfl (by decide) fun w hhigh hlow hc ha hk => ?_
    rw [decodeRc4F_x0 hhigh, decodeRc4Fx0, hlow]
    subst_vars
    rfl
  -- Format RC, op2 0x10 to 0x1F.
  | eqanyBRc | eqanyHRc | eqRc | geURc | geRc | ltURc | ltRc | maxURc | maxRc | minURc | minRc | mulmURc | mulmRc
  | mulsURc | mulsRc | mulRc =>
    refine decodeForm_encode_rc rfl (by decide) fun w hhigh hlow hc ha hk => ?_
    rw [decodeRc4F_x1 hhigh, decodeRc4Fx1, hlow]
    subst_vars
    rfl
  -- Format RC, op2 0x20 to 0x2F.
  | nandRc | neRc | norRc | orEqRc | orGeURc | orGeRc | orLtURc | orLtRc | orNeRc | ornRc | orRc | rsubsURc | rsubsRc
  | rsubRc | shBRc | shEqRc =>
    refine decodeForm_encode_rc rfl (by decide) fun w hhigh hlow hc ha hk => ?_
    rw [decodeRc4F_x2 hhigh, decodeRc4Fx2, hlow]
    subst_vars
    rfl
  -- Format RC, op2 0x30 to 0x3F.
  | shGeURc | shGeRc | shHRc | shLtURc | shLtRc | shNeRc | shaBRc | shaHRc | shasRc | shaRc | shRc | syscallRc
  | xnorRc | xorEqRc | xorGeURc | xorGeRc =>
    refine decodeForm_encode_rc rfl (by decide) fun w hhigh hlow hc ha hk => ?_
    rw [decodeRc4F_x3 hhigh, decodeRc4Fx3, hlow]
    subst_vars
    rfl
  -- Format RC, op2 0x40 to 0x4F.
  | xorLtURc | xorLtRc | xorNeRc | xorRc =>
    refine decodeForm_encode_rc rfl (by decide) fun w hhigh hlow hc ha hk => ?_
    rw [decodeRc4F_x4 hhigh, decodeRc4Fx4, hlow]
    subst_vars
    rfl
  -- Format RCPW.
  | imaskRcpw | insertRcpw =>
    change decodeForm (encRcpw _ _ _ _ _ _ _) = _
    simp only [decodeForm_51, encRcpw_op1, decodeRcpw51, encRcpw_op2, encRcpw_fieldD, encRcpw_fieldP,
      encRcpw_fieldWidth, encRcpw_fieldConst4, encRcpw_fieldS1, Nat.reduceLT]
  -- Format RCR.
  | caddARcr | caddnARcr | caddnRcr | caddRcr | maddmURcr | maddmsURcr | maddmsRcr | maddmRcr | maddsURcr | maddsRcr
  | maddRcr | msubmURcr | msubmsURcr | msubmsRcr | msubmRcr | msubsURcr | msubsRcr | msubRcr | selARcr | selnARcr
  | selnRcr | selRcr =>
    change decodeForm (encRcr _ _ _ _ _ _) = _
    simp only [decodeForm_53, decodeForm_55, decodeForm_57, encRcr_op1, decodeRcr53, decodeRcr55, decodeRcr57,
      encRcr_op2, encRcr_fieldD, encRcr_fieldS3, encRcr_fieldConst9, encRcr_fieldS1, Nat.reduceLT]
  -- Format RCRR.
  | insertRcrr =>
    change decodeForm (encRcrr _ _ _ _ _ _) = _
    simp only [decodeForm_59, encRcrr_op1, decodeRcrr59, encRcrr_op2, encRcrr_fieldD, encRcrr_fieldS3,
      encRcrr_fieldConst4, encRcrr_fieldS1, Nat.reduceLT]
  -- Format RCRW.
  | imaskRcrw | insertRcrw =>
    change decodeForm (encRcrw _ _ _ _ _ _ _) = _
    simp only [decodeForm_5B, encRcrw_op1, decodeRcrw5B, encRcrw_op2, encRcrw_fieldD, encRcrw_fieldS3,
      encRcrw_fieldWidth, encRcrw_fieldConst4, encRcrw_fieldS1, Nat.reduceLT]
  -- Format RLC.
  | addihARlc | addihRlc | addiRlc | mfcrRlc | movURlc | movhARlc | movhRlc | movRlc | mtcrRlc =>
    change decodeForm (encRlc _ _ _ _) = _
    simp only [decodeForm_5D, decodeForm_5F, decodeForm_61, decodeForm_63, decodeForm_65, decodeForm_67,
      decodeForm_69, decodeForm_6B, decodeForm_6D, encRlc_op1, encRlc_fieldD, encRlc_fieldConst16, encRlc_fieldS1,
      Nat.reduceLT]
  -- Format RR, op2 0x00 to 0x0F.
  | absBRr | absHRr | absdifBRr | absdifHRr | absdifsBRr | absdifsHRr | absdifsRr | absdifRr | abssBRr | abssHRr
  | abssRr | absRr | addARr | addBRr | addHRr | addcRr =>
    refine decodeForm_encode_rr rfl (by decide) fun w hhigh hlow hc ha hb hn => ?_
    rw [decodeRr6F_x0 hhigh, decodeRr6Fx0, hlow]
    subst_vars
    rfl
  -- Format RR, op2 0x10 to 0x1F.
  | addsBuRr | addsBRr | addsHuRr | addsHRr | addsURr | addscAtRr | addscARr | addsRr | addxRr | addRr | andEqRr
  | andGeURr | andGeRr | andLtURr | andLtRr | andNeRr =>
    refine decodeForm_encode_rr rfl (by decide) fun w hhigh hlow hc ha hb hn => ?_
    rw [decodeRr6F_x1 hhigh, decodeRr6Fx1, hlow]
    subst_vars
    rfl
  -- Format RR, op2 0x20 to 0x2F.
  | andnRr | andRr | calliRr | cloBRr | cloHRr | cloRr | clsBRr | clsHRr | clsRr | clzBRr | clzHRr | clzRr | difscARr
  | dvinitBuRr | dvinitBRr | dvinitHuRr =>
    refine decodeForm_encode_rr rfl (by decide) fun w hhigh hlow hc ha hb hn => ?_
    rw [decodeRr6F_x2 hhigh, decodeRr6Fx2, hlow]
    subst_vars
    rfl
  -- Format RR, op2 0x30 to 0x3F.
  | dvinitHRr | dvinitURr | dvinitRr | eqARr | eqBRr | eqHRr | eqWRr | eqanyBRr | eqanyHRr | eqzARr | eqRr | geARr
  | geURr | geRr | jiRr | jliRr =>
    refine decodeForm_encode_rr rfl (by decide) fun w hhigh hlow hc ha hb hn => ?_
    rw [decodeRr6F_x3 hhigh, decodeRr6Fx3, hlow]
    subst_vars
    rfl
  -- Format RR, op2 0x40 to 0x4F.
  | ltARr | ltBuRr | ltBRr | ltHuRr | ltHRr | ltURr | ltWuRr | ltWRr | ltRr | maxBuRr | maxBRr | maxHuRr | maxHRr
  | maxURr | maxRr | minBuRr =>
    refine decodeForm_encode_rr rfl (by decide) fun w hhigh hlow hc ha hb hn => ?_
    rw [decodeRr6F_x4 hhigh, decodeRr6Fx4, hlow]
    subst_vars
    rfl
  -- Format RR, op2 0x50 to 0x5F.
  | minBRr | minHuRr | minHRr | minURr | minRr | movAaRr | movARr | movDRr | movRr | mulHRr | mulQRr | mulmURr
  | mulmRr | mulrHRr | mulrQRr | mulsURr =>
    refine decodeForm_encode_rr rfl (by decide) fun w hhigh hlow hc ha hb hn => ?_
    rw [decodeRr6F_x5 hhigh, decodeRr6Fx5, hlow]
    subst_vars
    rfl
  -- Format RR, op2 0x60 to 0x6F.
  | mulsRr | mulRr | nandRr | neARr | nezARr | neRr | norRr | orEqRr | orGeURr | orGeRr | orLtURr | orLtRr | orNeRr
  | ornRr | orRr | satBuRr =>
    refine decodeForm_encode_rr rfl (by decide) fun w hhigh hlow hc ha hb hn => ?_
    rw [decodeRr6F_x6 hhigh, decodeRr6Fx6, hlow]
    subst_vars
    rfl
  -- Format RR, op2 0x70 to 0x7F.
  | satBRr | satHuRr | satHRr | shBRr | shEqRr | shGeURr | shGeRr | shHRr | shLtURr | shLtRr | shNeRr | shaBRr
  | shaHRr | shasRr | shaRr | shRr =>
    refine decodeForm_encode_rr rfl (by decide) fun w hhigh hlow hc ha hb hn => ?_
    rw [decodeRr6F_x7 hhigh, decodeRr6Fx7, hlow]
    subst_vars
    rfl
  -- Format RR, op2 0x80 to 0x8F.
  | subARr | subBRr | subHRr | subcRr | subsBuRr | subsBRr | subsHuRr | subsHRr | subsURr | subscARr | subsRr
  | subxRr | subRr | xnorRr | xorEqRr | xorGeURr =>
    refine decodeForm_encode_rr rfl (by decide) fun w hhigh hlow hc ha hb hn => ?_
    rw [decodeRr6F_x8 hhigh, decodeRr6Fx8, hlow]
    subst_vars
    rfl
  -- Format RR, op2 0x90 to 0x9F.
  | xorGeRr | xorLtURr | xorLtRr | xorNeRr | xorRr =>
    refine decodeForm_encode_rr rfl (by decide) fun w hhigh hlow hc ha hb hn => ?_
    rw [decodeRr6F_x9 hhigh, decodeRr6Fx9, hlow]
    subst_vars
    rfl
  -- Format RRPW.
  | dextrRrpw | extrURrpw | extrRrpw | imaskRrpw | insertRrpw =>
    change decodeForm (encRrpw _ _ _ _ _ _ _) = _
    simp only [decodeForm_71, decodeForm_73, encRrpw_op1, decodeRrpw71, decodeRrpw73, encRrpw_op2, encRrpw_fieldD,
      encRrpw_fieldP, encRrpw_fieldWidth, encRrpw_fieldS2, encRrpw_fieldS1, Nat.reduceLT]
  -- Format RRR.
  | caddARrr | caddnARrr | caddnRrr | caddRrr | csubARrr | csubnARrr | csubnRrr | csubRrr | dvadjRrr | dvstepURrr
  | dvstepRrr | maddHRrr | maddQRrr | maddmHRrr | maddmQRrr | maddmURrr | maddmsURrr | maddmsRrr | maddmRrr
  | maddrHRrr | maddrQRrr | maddrsHRrr | maddrsQRrr | maddsHRrr | maddsQRrr | maddsURrr | maddsRrr | maddRrr
  | msubHRrr | msubQRrr | msubmHRrr | msubmQRrr | msubmURrr | msubmsURrr | msubmsRrr | msubmRrr | msubrHRrr
  | msubrQRrr | msubrsHRrr | msubrsQRrr | msubsHRrr | msubsQRrr | msubsURrr | msubsRrr | msubRrr | selARrr | selnARrr
  | selnRrr | selRrr =>
    change decodeForm (encRrr _ _ _ _ _ _ _) = _
    simp only [decodeForm_75, decodeForm_77, decodeForm_79, decodeForm_7B, encRrr_op1, decodeRrr75, decodeRrr77,
      decodeRrr79, decodeRrr7B, encRrr_op2, encRrr_fieldD, encRrr_fieldS3, encRrr_fieldN, encRrr_fieldS2,
      encRrr_fieldS1, Nat.reduceLT]
  -- Format RRRR.
  | dextrRrrr | extrURrrr | extrRrrr | insertRrrr =>
    change decodeForm (encRrrr _ _ _ _ _ _) = _
    simp only [decodeForm_7D, encRrrr_op1, decodeRrrr7D, encRrrr_op2, encRrrr_fieldD, encRrrr_fieldS3,
      encRrrr_fieldS2, encRrrr_fieldS1, Nat.reduceLT]
  -- Format RRRW.
  | extrURrrw | extrRrrw | imaskRrrw | insertRrrw =>
    change decodeForm (encRrrw _ _ _ _ _ _ _) = _
    simp only [decodeForm_7F, encRrrw_op1, decodeRrrw7F, encRrrw_op2, encRrrw_fieldD, encRrrw_fieldS3,
      encRrrw_fieldWidth, encRrrw_fieldS2, encRrrw_fieldS1, Nat.reduceLT]
  -- Format SYS.
  | debugSys | disableSys | dsyncSys | enableSys | isyncSys | nopSys | retSys | rfeSys | rslcxSys | rstvSys
  | svlcxSys | trapsvSys | trapvSys =>
    change decodeForm (encSys _ _) = _
    simp only [decodeForm_83, encSys_op1, decodeSys83, encSys_op2_high, decodeSys83x0, encSys_op2_low, Nat.reduceLT]
  -- Format SRRS.
  | addscASrrs =>
    change decodeForm ((encSrrs _ _ _ _).setWidth 32) = _
    simp only [decodeForm_srrs02, encSrrs_op1, encSrrs_fieldS2, encSrrs_fieldS1, encSrrs_fieldNSrrs, Nat.reduceLT]
  -- Format SBRN.
  | jnzTSbrn | jzTSbrn =>
    change decodeForm ((encSbrn _ _ _).setWidth 32) = _
    simp only [decodeForm_sbrn04, decodeForm_sbrn06, encSbrn_op1, encSbrn_fieldBitNumber, encSbrn_fieldDisp4,
      Nat.reduceLT]
  -- Format SB.
  | jnzSb | jzSb | jSb =>
    change decodeForm ((encSb _ _).setWidth 32) = _
    simp only [decodeForm_08, decodeForm_0A, decodeForm_0C, encSb_op1, encSb_fieldDisp8, Nat.reduceLT]
  -- Format SBC.
  | jeqSbc | jneSbc =>
    change decodeForm ((encSbc _ _ _).setWidth 32) = _
    simp only [decodeForm_0E, decodeForm_10, encSbc_op1, encSbc_fieldConst4, encSbc_fieldDisp4, Nat.reduceLT]
  -- Format SBR.
  | jeqSbr | jgezSbr | jgtzSbr | jiSbr | jlezSbr | jltzSbr | jneSbr | jnzASbr | jnzSbr | jzASbr | jzSbr | loopSbr =>
    change decodeForm ((encSbr _ _ _).setWidth 32) = _
    simp only [decodeForm_12, decodeForm_14, decodeForm_16, decodeForm_18, decodeForm_1A, decodeForm_1C,
      decodeForm_1E, decodeForm_20, decodeForm_22, decodeForm_24, decodeForm_26, decodeForm_28, encSbr_op1,
      encSbr_fieldS2, encSbr_fieldDisp4, Nat.reduceLT]
  -- Format SC.
  | andSc | bisrSc | movSc | orSc | subASc =>
    change decodeForm ((encSc _ _).setWidth 32) = _
    simp only [decodeForm_2A, decodeForm_2C, decodeForm_2E, decodeForm_30, decodeForm_32, encSc_op1,
      encSc_fieldConst8, Nat.reduceLT]
  -- Format SLR.
  | ldASlr | ldASlrPostinc | ldBuSlr | ldBuSlrPostinc | ldBSlr | ldBSlrPostinc | ldHSlr | ldHSlrPostinc | ldWSlr
  | ldWSlrPostinc =>
    change decodeForm ((encSlr _ _ _).setWidth 32) = _
    simp only [decodeForm_34, decodeForm_36, decodeForm_38, decodeForm_3A, decodeForm_3C, decodeForm_3E,
      decodeForm_40, decodeForm_44, decodeForm_46, decodeForm_48, encSlr_op1, encSlr_fieldS2, encSlr_fieldS1,
      Nat.reduceLT]
  -- Format SLRO.
  | ldASlro | ldBuSlro | ldBSlro | ldHSlro | ldWSlro =>
    change decodeForm ((encSlro _ _ _).setWidth 32) = _
    simp only [decodeForm_4A, decodeForm_4C, decodeForm_4E, decodeForm_50, decodeForm_52, encSlro_op1,
      encSlro_fieldOff4, encSlro_fieldS1, Nat.reduceLT]
  -- Format SR.
  | debugSr | movzASr | nopSr | notSr | retSr | rfeSr | rsubSr | satBuSr | satBSr | satHuSr | satHSr =>
    change decodeForm ((encSr _ _ _).setWidth 32) = _
    simp only [decodeForm_54, encSr_op1, decodeSr54, encSr_op2, encSr_fieldS1, Nat.reduceLT]
  -- Format SRC.
  | addSrc | addSrcD15 | caddnSrc | caddSrc | cmovnSrc | cmovSrc | eqSrc | ltUSrc | ltSrc | movSrc | shaSrc | shSrc =>
    change decodeForm ((encSrc _ _ _).setWidth 32) = _
    simp only [decodeForm_56, decodeForm_58, decodeForm_5A, decodeForm_5C, decodeForm_5E, decodeForm_60,
      decodeForm_62, decodeForm_64, decodeForm_66, decodeForm_68, decodeForm_6A, decodeForm_6C, encSrc_op1,
      encSrc_fieldConst4, encSrc_fieldS1, Nat.reduceLT]
  -- Format SRO.
  | ldASro | ldBuSro | ldBSro | ldHSro | ldWSro | stASro | stBSro | stHSro | stWSro =>
    change decodeForm ((encSro _ _ _).setWidth 32) = _
    simp only [decodeForm_6E, decodeForm_70, decodeForm_72, decodeForm_74, decodeForm_76, decodeForm_78,
      decodeForm_7A, decodeForm_7C, decodeForm_7E, encSro_op1, encSro_fieldS2, encSro_fieldOff4Sro, Nat.reduceLT]
  -- Format SRR.
  | addSrr | addSrrD15 | andSrr | caddnSrr | caddSrr | cmovnSrr | cmovSrr | dvadjSrr | dvstepUSrr | dvstepSrr | eqSrr
  | ltUSrr | ltSrr | movAaSrr | movASrr | movDSrr | movSrr | mulSrr | orSrr | subsSrr | subSrr | subSrrD15 =>
    change decodeForm ((encSrr _ _ _).setWidth 32) = _
    simp only [decodeForm_80, decodeForm_88, decodeForm_8A, decodeForm_8C, decodeForm_8E, decodeForm_90,
      decodeForm_92, decodeForm_94, decodeForm_96, decodeForm_98, decodeForm_9A, decodeForm_9C, decodeForm_9E,
      decodeForm_A0, decodeForm_A2, decodeForm_A4, decodeForm_A6, decodeForm_A8, decodeForm_AA, decodeForm_AC,
      decodeForm_AE, decodeForm_B0, encSrr_op1, encSrr_fieldS2, encSrr_fieldS1, Nat.reduceLT]
  -- Format SSR.
  | stASsr | stASsrPostinc | stBSsr | stBSsrPostinc | stHSsr | stHSsrPostinc | stWSsr | stWSsrPostinc =>
    change decodeForm ((encSsr _ _ _).setWidth 32) = _
    simp only [decodeForm_B2, decodeForm_B4, decodeForm_B6, decodeForm_B8, decodeForm_BA, decodeForm_BC,
      decodeForm_BE, decodeForm_C0, encSsr_op1, encSsr_fieldS2, encSsr_fieldS1, Nat.reduceLT]
  -- Format SSRO.
  | stASsro | stBSsro | stHSsro | stWSsro =>
    change decodeForm ((encSsro _ _ _).setWidth 32) = _
    simp only [decodeForm_C4, decodeForm_C6, decodeForm_C8, decodeForm_CA, encSsro_op1, encSsro_fieldOff4,
      encSsro_fieldS1, Nat.reduceLT]

/-! ## The length of a decoded instruction (30 R201) -/

/-- Every instruction of the answer has `n` bytes. -/
def AnswersOfLength (n : Nat) (o : Option Instr) : Prop := ∀ i, o = some i → (encodeBytes i).length = n

theorem lowNibble_odd {w : Word} (h : w.getLsbD 0 = true) : bitsOf w.toNat 0 4 = 1 ∨ bitsOf w.toNat 0 4 = 3 ∨
    bitsOf w.toNat 0 4 = 5 ∨ bitsOf w.toNat 0 4 = 7 ∨ bitsOf w.toNat 0 4 = 9 ∨ bitsOf w.toNat 0 4 = 11 ∨
    bitsOf w.toNat 0 4 = 13 ∨ bitsOf w.toNat 0 4 = 15 := by
  rw [BitVec.getLsbD, Nat.testBit_zero, decide_eq_true_iff] at h
  unfold bitsOf
  omega

theorem lowNibble_even {w : Word} (h : w.getLsbD 0 = false) : bitsOf w.toNat 0 4 = 0 ∨ bitsOf w.toNat 0 4 = 2 ∨
    bitsOf w.toNat 0 4 = 4 ∨ bitsOf w.toNat 0 4 = 6 ∨ bitsOf w.toNat 0 4 = 8 ∨ bitsOf w.toNat 0 4 = 10 ∨
    bitsOf w.toNat 0 4 = 12 ∨ bitsOf w.toNat 0 4 = 14 := by
  rw [BitVec.getLsbD, Nat.testBit_zero, decide_eq_false_iff_not] at h
  unfold bitsOf
  omega

/-- The forms at an even first byte have 16 bits. -/
theorem answersOfLength_even {w : Word} (h : w.getLsbD 0 = false) : AnswersOfLength 2 (decodeForm w) := by
  rcases lowNibble_even h with h | h | h | h | h | h | h | h
  all_goals
    simp only [decodeForm, decodeRow0, decodeRow1, decodeRow2, decodeRow3, decodeRow4, decodeRow5, decodeRow6,
      decodeRow7, decodeRow8, decodeRow9, decodeRowA, decodeRowB, decodeRowC, decodeSr54, h]
    repeat' split
  all_goals rintro i ⟨⟩ <;> rfl

/-- The forms at an odd first byte, and all rows of its op2 tables, have 32 bits. -/
theorem answersOfLength_odd {w : Word} (h : w.getLsbD 0 = true) : AnswersOfLength 4 (decodeForm w) := by
  rcases lowNibble_odd h with h | h | h | h | h | h | h | h
  all_goals
    simp only [decodeForm, decodeRow0, decodeRow1, decodeRow2, decodeRow3, decodeRow4, decodeRow5, decodeRow6,
      decodeRow7, decodeRow8, decodeRow9, decodeRowA, decodeRowB, decodeRowC, h, decodeBrn01, decodeAbs03,
      decodeAbs05, decodeAbs07, decodeAbs09, decodeAbs0B, decodeAbs0D, decodeAbsb0F, decodeBit1D, decodeBit1F,
      decodeBit21, decodeBit23, decodeBit25, decodeBit27, decodeBit29, decodeBo2Bx0, decodeBo2Bx1, decodeBo2Bx2,
      decodeBo2Bx3, decodeBo2Bx4, decodeBo2B, decodeBo2Dx0, decodeBo2Dx1, decodeBo2Dx2, decodeBo2Dx3, decodeBo2Dx4,
      decodeBo2D, decodeBo2Fx0, decodeBo2Fx1, decodeBo2Fx2, decodeBo2Fx3, decodeBo2Fx4, decodeBo2F, decodeBrc39,
      decodeBrc3B, decodeBrc3D, decodeBrc3F, decodeBrr41, decodeBrr43, decodeBrr45, decodeBrr47, decodeBrr49,
      decodeBrr4B, decodeBrr4D, decodeRc4Fx0, decodeRc4Fx1, decodeRc4Fx2, decodeRc4Fx3, decodeRc4Fx4, decodeRc4F,
      decodeRcpw51, decodeRcr53, decodeRcr55, decodeRcr57, decodeRcrr59, decodeRcrw5B, decodeRr6Fx0, decodeRr6Fx1,
      decodeRr6Fx2, decodeRr6Fx3, decodeRr6Fx4, decodeRr6Fx5, decodeRr6Fx6, decodeRr6Fx7, decodeRr6Fx8, decodeRr6Fx9,
      decodeRr6F, decodeRrpw71, decodeRrpw73, decodeRrr75, decodeRrr77, decodeRrr79, decodeRrr7B, decodeRrrr7D,
      decodeRrrw7F, decodeSys83x0, decodeSys83]
    repeat' split
  all_goals rintro i ⟨⟩ <;> rfl

/-! ## The upper halfword of a 16-bit instruction -/

/-- A field within the lower halfword does not depend on the upper one. -/
theorem bitsOf_congr_low {v w : Word} (hlow : v.toNat % 2 ^ 16 = w.toNat % 2 ^ 16) (lo n : Nat) (h : lo + n ≤ 16) :
    bitsOf v.toNat lo n = bitsOf w.toNat lo n := by
  obtain ⟨d, hd⟩ := Nat.exists_eq_add_of_le h
  have key : ∀ x : Nat, bitsOf x lo n = bitsOf (x % 2 ^ 16) lo n := by
    intro x
    unfold bitsOf
    rw [hd, Nat.add_assoc, Nat.pow_add, Nat.mod_mul_right_div_self, Nat.pow_add, Nat.mod_mul_right_mod]
  rw [key v.toNat, hlow, ← key]

/-- Every table of an even first byte reads fields of the lower halfword only. -/
theorem decodeForm_congr_low {v w : Word} (h : w.getLsbD 0 = false) (hlow : v.toNat % 2 ^ 16 = w.toNat % 2 ^ 16) :
    decodeForm v = decodeForm w := by
  have hfield := bitsOf_congr_low hlow
  rcases lowNibble_even h with h | h | h | h | h | h | h | h
  all_goals
    simp only [decodeForm, decodeRow0, decodeRow1, decodeRow2, decodeRow3, decodeRow4, decodeRow5, decodeRow6,
      decodeRow7, decodeRow8, decodeRow9, decodeRowA, decodeRowB, decodeRowC, decodeSr54, fieldS1, fieldS2,
      fieldConst4, fieldConst8, fieldDisp4, fieldDisp8, fieldOff4, fieldOff4Sro, fieldNSrrs, fieldBitNumber, hfield,
      h, Nat.reduceAdd, Nat.reduceLeDiff]

/-! ## Decoding by the default map -/

theorem decodeWord_eq_ok_iff {w : Word} {i : Instr} : decodeWord w = .ok i ↔ decodeForm w = some i := by
  unfold decodeWord
  cases decodeForm w <;> simp

theorem decodeWord_encode (i : Instr) : decodeWord (encode i).toWord = .ok i :=
  decodeWord_eq_ok_iff.2 (decodeForm_encode i)

/-- Bit 0 of a word that decodes tells the length of the instruction (30 R201). -/
theorem length_of_decodeWord {w : Word} {i : Instr} (h : decodeWord w = .ok i) :
    (encodeBytes i).length = instrLength w := by
  rw [decodeWord_eq_ok_iff] at h
  unfold instrLength
  cases hb : w.getLsbD 0 with
  | true => exact answersOfLength_odd hb i h
  | false => exact answersOfLength_even hb i h

/-! ## The bytes of an encoding (20 R140) -/

theorem Encoding.length_bytes_word (w : Word) : (Encoding.word w).bytes.length = 4 := rfl
theorem Encoding.length_bytes_half (h : BitVec 16) : (Encoding.half h).bytes.length = 2 := rfl

theorem getLsbD_of_encode_word {i : Instr} {w : Word} (h : encode i = .word w) : w.getLsbD 0 = true := by
  have hlen := length_of_decodeWord (decodeWord_encode i)
  rw [encodeBytes, h, Encoding.length_bytes_word, Encoding.toWord, instrLength] at hlen
  by_contra hodd
  rw [if_neg hodd] at hlen
  omega

theorem getLsbD_of_encode_half {i : Instr} {x : BitVec 16} (h : encode i = .half x) : x.getLsbD 0 = false := by
  have hlen := length_of_decodeWord (decodeWord_encode i)
  rw [encodeBytes, h, Encoding.length_bytes_half, Encoding.toWord, instrLength, BitVec.getLsbD_setWidth] at hlen
  by_contra hodd
  rw [if_pos (by simpa using hodd)] at hlen
  omega

/-- The bytes of a word, put together again. -/
theorem append_bytes_word (w : Word) :
    w.extractLsb' 24 8 ++ w.extractLsb' 16 8 ++ w.extractLsb' 8 8 ++ w.extractLsb' 0 8 = w := by
  apply BitVec.eq_of_toNat_eq
  have := w.isLt
  simp only [Machine.toNat_append_add, BitVec.extractLsb'_toNat, Nat.shiftRight_eq_div_pow]
  omega

theorem append_bytes_half (x : BitVec 16) : x.extractLsb' 8 8 ++ x.extractLsb' 0 8 = x := by
  apply BitVec.eq_of_toNat_eq
  have := x.isLt
  simp only [Machine.toNat_append_add, BitVec.extractLsb'_toNat, Nat.shiftRight_eq_div_pow]
  omega

theorem decodeBytes_word {w : Word} {i : Instr} (rest : List Byte) (hb : w.getLsbD 0 = true)
    (h : decodeWord w = .ok i) : decodeBytes ((Encoding.word w).bytes ++ rest) = .ok (i, rest) := by
  have hb0 : (w.extractLsb' 0 8).getLsbD 0 = true := by simpa using hb
  simp only [Encoding.bytes, List.cons_append, List.nil_append, decodeBytes, hb0, if_true, append_bytes_word, h]

theorem decodeBytes_half {x : BitVec 16} {i : Instr} (rest : List Byte) (hb : x.getLsbD 0 = false)
    (h : decodeWord (x.setWidth 32) = .ok i) : decodeBytes ((Encoding.half x).bytes ++ rest) = .ok (i, rest) := by
  have hb0 : (x.extractLsb' 0 8).getLsbD 0 = false := by simpa using hb
  simp only [Encoding.bytes, List.cons_append, List.nil_append, decodeBytes, hb0, if_false, append_bytes_half, h,
    Bool.false_eq_true]

/-- Settles O50: the round trip on words (`decodeForm_encode`), read from the bytes of a word or a halfword. -/
theorem decodeEncode : Obligations.DecodeEncode := by
  intro i rest
  have hd := decodeWord_encode i
  unfold encodeBytes
  cases he : encode i with
  | word w =>
    rw [he] at hd
    exact decodeBytes_word rest (getLsbD_of_encode_word he) hd
  | half x =>
    rw [he] at hd
    exact decodeBytes_half rest (getLsbD_of_encode_half he) hd

/-! ## Any opcode map (30 R230) -/

/-- The format of a form is wide where bit 0 of its match value is 1. -/
theorem formFormat_wide {form : Word} {f : Format} (h : formFormat form = some f) : f.wide = form.getLsbD 0 := by
  have hwide : ∀ p ∈ defaultFormats.1, p.2.wide = true := by decide
  have hhalf : ∀ p ∈ defaultFormats.2, p.2.wide = false := by decide
  unfold formFormat at h
  obtain ⟨p, hp, rfl⟩ := Option.map_eq_some_iff.1 h
  have hmem := List.mem_of_find?_eq_some hp
  cases hb : form.getLsbD 0 with
  | true => exact hwide p (by rwa [hb, if_pos rfl] at hmem)
  | false => exact hhalf p (by rwa [hb, if_neg Bool.false_ne_true] at hmem)

theorem Format.mask_bit0 (f : Format) : f.mask.getLsbD 0 = true := by cases f <;> decide

/-- The bits of op1 are opcode bits. -/
theorem Format.mask_and_op1Mask (f : Format) : f.mask &&& f.op1Mask = f.op1Mask := by cases f <;> decide

/-- The opcode bits of a recoded word are those of the opcode, the others those of the word. -/
theorem getLsbD_recode (f : Format) (w opcode : Word) (k : Nat) : (f.recode w opcode).getLsbD k =
    (w.getLsbD k && !f.mask.getLsbD k || opcode.getLsbD k) := by
  unfold Format.recode
  rw [BitVec.getLsbD_or, BitVec.getLsbD_and, BitVec.getLsbD_not]
  by_cases hk : k < 32
  · rw [decide_eq_true hk, Bool.true_and]
  · rw [BitVec.getLsbD_of_ge w k (by omega), Bool.false_and, Bool.false_and]

theorem recode_getLsbD_zero (f : Format) (w opcode : Word) : (f.recode w opcode).getLsbD 0 = opcode.getLsbD 0 := by
  rw [getLsbD_recode, Format.mask_bit0, Bool.not_true, Bool.and_false, Bool.false_or]

/-- Recoding a word with its own opcode changes nothing. -/
theorem recode_self (f : Format) (w : Word) : f.recode w (w &&& f.mask) = w := by
  apply BitVec.eq_of_getLsbD_eq
  intro k _
  rw [getLsbD_recode, BitVec.getLsbD_and]
  cases w.getLsbD k <;> cases f.mask.getLsbD k <;> rfl

/-- Recoding a word twice is recoding it with the second opcode. -/
theorem recode_recode (f : Format) (w opcode form : Word) :
    f.recode (f.recode w (opcode &&& f.mask)) form = f.recode w form := by
  apply BitVec.eq_of_getLsbD_eq
  intro k _
  rw [getLsbD_recode, getLsbD_recode, getLsbD_recode, BitVec.getLsbD_and]
  cases w.getLsbD k <;> cases f.mask.getLsbD k <;> cases opcode.getLsbD k <;> rfl

/-- The opcode bits of a recoded word. -/
theorem recode_and_mask (f : Format) (w opcode : Word) :
    f.recode w (opcode &&& f.mask) &&& f.mask = opcode &&& f.mask := by
  apply BitVec.eq_of_getLsbD_eq
  intro k _
  rw [BitVec.getLsbD_and, getLsbD_recode, BitVec.getLsbD_and]
  cases w.getLsbD k <;> cases f.mask.getLsbD k <;> cases opcode.getLsbD k <;> rfl

/-- Two values that agree with one word on their masks agree on the common part of the masks. -/
theorem xor_and_masks_eq_zero {w m n p q : Word} (hp : w &&& m = p &&& m) (hq : w &&& n = q &&& n) :
    (p ^^^ q) &&& (m &&& n) = 0 := by
  apply BitVec.eq_of_getLsbD_eq
  intro k _
  have hpk : (w.getLsbD k && m.getLsbD k) = (p.getLsbD k && m.getLsbD k) := by
    rw [← BitVec.getLsbD_and, hp, BitVec.getLsbD_and]
  have hqk : (w.getLsbD k && n.getLsbD k) = (q.getLsbD k && n.getLsbD k) := by
    rw [← BitVec.getLsbD_and, hq, BitVec.getLsbD_and]
  rw [BitVec.getLsbD_and, BitVec.getLsbD_xor, BitVec.getLsbD_and]
  cases hm : m.getLsbD k <;> cases hn : n.getLsbD k <;> simp_all

theorem OpcodeRow.word_and_mask (r : OpcodeRow) : r.word &&& r.format.mask = r.word := by
  rw [OpcodeRow.word, BitVec.and_assoc, BitVec.and_self]

theorem OpcodeRow.hits_iff (r : OpcodeRow) (w : Word) : r.hits w = true ↔ w &&& r.format.mask = r.word := by
  rw [OpcodeRow.hits, beq_iff_eq]

/-- A word that a row hits has the op1 of the row. -/
theorem OpcodeRow.op1_of_hits {r : OpcodeRow} {w : Word} (h : r.hits w = true) :
    w &&& r.format.op1Mask = r.word &&& r.format.op1Mask := by
  rw [← (r.hits_iff w).1 h, BitVec.and_assoc, Format.mask_and_op1Mask]

theorem OpcodeRow.hits_recode (r : OpcodeRow) (w : Word) : r.hits (r.format.recode w r.word) = true := by
  rw [OpcodeRow.hits_iff, ← r.word_and_mask, recode_and_mask]

theorem OpcodeRow.Apart.symm {r q : OpcodeRow} (h : r.Apart q) : q.Apart r := by
  obtain ⟨hform, hword, hlen⟩ := h
  refine ⟨hform.symm, ?_, fun hw => ?_⟩
  · rw [BitVec.xor_comm, BitVec.and_comm q.format.mask]
    exact hword
  · rw [BitVec.xor_comm, BitVec.and_comm q.format.op1Mask]
    exact hlen hw.symm

/-- The rows of a legal map are apart in either order. -/
theorem LegalMap.apart {m : OpcodeMap} (h : LegalMap m) {r q : OpcodeRow} (hr : r ∈ m) (hq : q ∈ m) (hne : r ≠ q) :
    r.Apart q :=
  have : Std.Symm OpcodeRow.Apart := ⟨fun _ _ => OpcodeRow.Apart.symm⟩
  h.2.forall hr hq hne

/-- No two rows of a legal map hit the same word. -/
theorem LegalMap.eq_of_hits {m : OpcodeMap} (h : LegalMap m) {r q : OpcodeRow} {w : Word} (hr : r ∈ m) (hq : q ∈ m)
    (hrw : r.hits w = true) (hqw : q.hits w = true) : r = q := by
  by_contra hne
  obtain ⟨_, hword, _⟩ := h.apart hr hq hne
  rw [OpcodeRow.hits_iff, ← OpcodeRow.word_and_mask] at hrw hqw
  exact hword (xor_and_masks_eq_zero hrw hqw)

theorem hits_of_find? {m : OpcodeMap} {r : OpcodeRow} {w : Word} (h : (m.find? fun q => q.hits w) = some r) :
    r.hits w = true :=
  List.find?_some (p := fun q : OpcodeRow => q.hits w) h

/-- The row that a word hits is the row the decoder finds. -/
theorem LegalMap.find?_hits {m : OpcodeMap} (h : LegalMap m) {r : OpcodeRow} {w : Word} (hr : r ∈ m)
    (hrw : r.hits w = true) : (m.find? fun q => q.hits w) = some r := by
  cases hf : m.find? fun q => q.hits w with
  | none => exact absurd hrw (List.find?_eq_none.1 hf r hr)
  | some q => rw [h.eq_of_hits hr (List.mem_of_find?_eq_some hf) hrw (hits_of_find? hf)]

theorem decodeBy_of_find? {m : OpcodeMap} {r : OpcodeRow} {w : Word} (h : (m.find? fun q => q.hits w) = some r) :
    decodeBy (some m) w = decodeWord (r.format.recode w r.form) := by
  simp only [decodeBy, h]

theorem decodeBy_of_find?_none {m : OpcodeMap} {w : Word} (h : (m.find? fun q => q.hits w) = none) :
    decodeBy (some m) w = .error .illegalOpcode := by
  simp only [decodeBy, h]

theorem LegalMap.decodeBy_of_hits {m : OpcodeMap} (h : LegalMap m) {r : OpcodeRow} {w : Word} (hr : r ∈ m)
    (hrw : r.hits w = true) : decodeBy (some m) w = decodeWord (r.format.recode w r.form) :=
  decodeBy_of_find? (h.find?_hits hr hrw)

/-- What a map decodes is what the default map decodes from the word recoded by the row that hits. -/
theorem exists_row_of_decodeBy {m : OpcodeMap} {w : Word} {i : Instr} (h : decodeBy (some m) w = .ok i) :
    ∃ r, r ∈ m ∧ r.hits w = true ∧ decodeWord (r.format.recode w r.form) = .ok i := by
  cases hf : m.find? fun q => q.hits w with
  | none =>
    rw [decodeBy_of_find?_none hf] at h
    cases h
  | some r =>
    rw [decodeBy_of_find? hf] at h
    exact ⟨r, List.mem_of_find?_eq_some hf, hits_of_find? hf, h⟩

/-- What a map encodes is the default encoding recoded by the row of its form. -/
theorem exists_row_of_encodeBy {m : OpcodeMap} {w : Word} {i : Instr} (h : encodeBy (some m) i = some w) :
    ∃ r, r ∈ m ∧ (encode i).toWord &&& r.format.mask = r.form ∧ r.format.recode (encode i).toWord r.word = w := by
  unfold encodeBy at h
  obtain ⟨r, hf, hw⟩ := Option.map_eq_some_iff.1 h
  exact ⟨r, List.mem_of_find?_eq_some hf, by simpa using List.find?_some hf, hw⟩

theorem LegalMap.decodeBy_encodeBy {m : OpcodeMap} (h : LegalMap m) {i : Instr} {w : Word}
    (he : encodeBy (some m) i = some w) : decodeBy (some m) w = .ok i := by
  obtain ⟨r, hr, hform, rfl⟩ := exists_row_of_encodeBy he
  rw [h.decodeBy_of_hits hr (r.hits_recode _), ← r.word_and_mask, recode_recode, ← hform, recode_self]
  exact decodeWord_encode i

/-- The length by a legal map is that of the format of the row that hits. -/
theorem LegalMap.lengthBy_of_hits {m : OpcodeMap} (h : LegalMap m) {r : OpcodeRow} {w : Word} (hr : r ∈ m)
    (hrw : r.hits w = true) : lengthBy (some m) w = if r.format.wide then 4 else 2 := by
  unfold lengthBy
  refine if_congr ?_ rfl rfl
  rw [List.any_eq_true]
  constructor
  · rintro ⟨q, hq, hqw⟩
    obtain ⟨hwide, hop1⟩ := Bool.and_eq_true_iff.1 hqw
    by_contra hnarrow
    have hlen : r.format.wide ≠ q.format.wide := by rw [hwide]; exact hnarrow
    obtain ⟨_, _, hop1Apart⟩ := h.apart hr hq fun e => hlen (by rw [e])
    exact hop1Apart hlen (xor_and_masks_eq_zero (OpcodeRow.op1_of_hits hrw) (beq_iff_eq.1 hop1))
  · intro hwide
    exact ⟨r, hr, by rw [hwide, OpcodeRow.op1_of_hits hrw, beq_self_eq_true, Bool.and_self]⟩

theorem LegalMap.length_of_decodeBy {m : OpcodeMap} (h : LegalMap m) {i : Instr} {w : Word}
    (hd : decodeBy (some m) w = .ok i) : (encodeBytes i).length = lengthBy (some m) w := by
  obtain ⟨r, hr, hrw, hi⟩ := exists_row_of_decodeBy hd
  obtain ⟨_, hformat, _⟩ := h.1 r hr
  rw [length_of_decodeWord hi, h.lengthBy_of_hits hr hrw, instrLength, recode_getLsbD_zero, formFormat_wide hformat]

/-- Settles O51: the length from the decoding tables (`length_of_decodeWord`), the upper halfword from their fields
(`decodeForm_congr_low`), and any legal map through the row that a word hits. -/
theorem decodedLength : Obligations.DecodedLength := by
  refine ⟨fun w i h => length_of_decodeWord h, fun w v hb hlow => ?_, fun m i w h => h.decodeBy_encodeBy,
    fun m i w h => h.length_of_decodeBy⟩
  unfold decodeWord
  rw [decodeForm_congr_low hb hlow]

/-- Settles O49: the decoder is run on each word. -/
theorem decodeWords : Obligations.DecodeWords := ⟨rfl, rfl, rfl, rfl, rfl, rfl, rfl, rfl, rfl⟩

end Sys2Proof
end

section
/-! OPD for odd pair operands (O59). -/

namespace Sys2Proof.Machine

open Sys2Proof

/-! ## Odd pair operands (30 R226) -/

theorem isPair_of_odd {r : Reg} (h : IsOdd r) : Reg.isPair r = false := by
  rw [← Bool.not_eq_true, isPair_iff, not_not]
  exact h

theorem onPairs_of_odd {s t : State} {r : Reg} (h : IsOdd r) : onPairs s (Reg.isPair r) t = raise s .opd := by
  rw [isPair_of_odd h]
  rfl

theorem onPairs_of_one_odd {s t : State} {c d : Reg} (h : IsOdd c ∨ IsOdd d) :
    onPairs s (Reg.isPair c && Reg.isPair d) t = raise s .opd := by
  rcases h with h | h
  · rw [isPair_of_odd h, Bool.false_and]
    rfl
  · rw [isPair_of_odd h, Bool.and_false]
    rfl

/-- A defined shift field leaves the meaning of the multiply as it is (43 R500). -/
theorem onQShift_of_le {n : BitVec 2} {o : Out} (h : n.toNat ≤ 1) : onQShift n o = o := by
  have hn : n = 0 ∨ n = 1 := by bv_omega
  rcases hn with rfl | rfl <;> rfl

/-- Settles O59: the meaning of each form is guarded by `onPairs`, within `onQShift` where the form has a shift field. -/
theorem oddPairTraps : Obligations.OddPairTraps := by
  intro s c d a b k4 k9 n p w
  refine ⟨?mulmURc, ?mulmRc, ?imaskRcpw, ?maddmURcr, ?maddmsURcr, ?maddmsRcr, ?maddmRcr, ?msubmURcr, ?msubmsURcr,
    ?msubmsRcr, ?msubmRcr, ?insertRcrr, ?imaskRcrw, ?dvinitBuRr, ?dvinitBRr, ?dvinitHuRr, ?dvinitHRr, ?dvinitURr,
    ?dvinitRr, ?mulHRr, ?mulmURr, ?mulmRr, ?imaskRrpw, ?dvadjRrr, ?dvstepURrr, ?dvstepRrr, ?maddHRrr, ?maddmHRrr,
    ?maddmQRrr, ?maddmURrr, ?maddmsURrr, ?maddmsRrr, ?maddmRrr, ?maddrHRrr, ?maddrsHRrr, ?maddsHRrr, ?msubHRrr,
    ?msubmHRrr, ?msubmQRrr, ?msubmURrr, ?msubmsURrr, ?msubmsRrr, ?msubmRrr, ?msubrHRrr, ?msubrsHRrr, ?msubsHRrr,
    ?extrURrrr, ?extrRrrr, ?insertRrrr, ?imaskRrrw, ?dvadjSrr, ?dvstepUSrr, ?dvstepSrr⟩
  -- One pair operand.
  case mulmURc | mulmRc | imaskRcpw | imaskRcrw | dvinitBuRr | dvinitBRr | dvinitHuRr | dvinitHRr | dvinitURr
      | dvinitRr | mulmURr | mulmRr | imaskRrpw | imaskRrrw | insertRcrr | extrURrrr | extrRrrr | insertRrrr | dvadjSrr
      | dvstepUSrr | dvstepSrr =>
    exact fun h => onPairs_of_odd h
  -- Two pair operands.
  case maddmURcr | maddmsURcr | maddmsRcr | maddmRcr | msubmURcr | msubmsURcr | msubmsRcr | msubmRcr | dvadjRrr
      | dvstepURrr | dvstepRrr | maddmHRrr | maddmQRrr | maddmURrr | maddmsURrr | maddmsRrr | maddmRrr | msubmHRrr
      | msubmQRrr | msubmURrr | msubmsURrr | msubmsRrr | msubmRrr =>
    exact fun h => onPairs_of_one_odd h
  -- A shift field, and one pair operand or two.
  case mulHRr | maddrHRrr | maddrsHRrr | msubrHRrr | msubrsHRrr =>
    exact fun hn h => (onQShift_of_le hn).trans (onPairs_of_odd h)
  case maddHRrr | maddsHRrr | msubHRrr | msubsHRrr =>
    exact fun hn h => (onQShift_of_le hn).trans (onPairs_of_one_odd h)

end Sys2Proof.Machine
end

section
/-! The integer arithmetic of spec/40_integer_arithmetic.md: the moves and selects (O1), the larger, the smaller and the
nearest value (O2), the additions and subtractions with their flags, plain (O3), saturating (O4) and conditional (O5). Every
meaning is one of the shared writes of Laws/Effects.lean, so that what each proof shows is the value it writes. -/

namespace Sys2Proof.Machine

open Sys2Proof

/-! ## Moves and selects (40 R301 to R303, R335 to R338) -/

/-- A conditional move whose condition holds writes its register. -/
theorem movesTo_of_ite {i : Instr} {s : State} {c : Reg} {len v : Word} {p : Prop} [Decidable p]
    (h : exec i s = .next (if p then s.putD c v len else s.advance len)) (hp : p) : MovesTo i s c len v :=
  movesTo_putD (h.trans (by rw [if_pos hp]))

/-- A conditional move whose condition fails only moves the pc. -/
theorem jumpsTo_of_ite {i : Instr} {s : State} {c : Reg} {len v : Word} {p : Prop} [Decidable p]
    (h : exec i s = .next (if p then s.putD c v len else s.advance len)) (hp : ¬ p) : JumpsTo i s (s.pc + len) :=
  jumpsTo_setPc (h.trans (by rw [if_neg hp, State.advance]))

/-- Settles O1: a move or select is the write `putD` of the value of its rule; a conditional move is this write or only the
step of the pc. -/
theorem movesAndSelects : Obligations.MovesAndSelects := by
  intro s c d a b k4 k8 k9 k16
  refine ⟨?movRlc, ?movRr, ?movSc, ?movSrc, ?movSrr, ?movU, ?movh, ?cmovConst, ?cmovConstNot, ?cmov, ?cmovNot,
    ?cmovnConst, ?cmovnConstNot, ?cmovn, ?cmovnNot, ?selConst, ?sel, ?selnConst, ?seln⟩
  case movRlc | movRr | movSrc | movSrr => exact movesTo_putD rfl
  case movSc => rw [← zext8_eq]; exact movesTo_putD rfl
  case movU => rw [← zext16_eq]; exact movesTo_putD rfl
  case movh => rw [← high16_eq]; exact movesTo_putD rfl
  -- The condition is D15 ≠ 0 for CMOV and D15 = 0 for CMOVN.
  case cmovConst | cmov | cmovnConst | cmovn => exact movesTo_of_ite rfl
  case cmovConstNot | cmovNot => exact fun h => jumpsTo_of_ite rfl (not_not.2 h)
  case cmovnConstNot | cmovnNot => exact jumpsTo_of_ite rfl
  -- The rule of SEL asks for D[d] ≠ 0, that of SELN for D[d] = 0.
  case selConst | sel => rw [← ite_not]; exact movesTo_putD rfl
  case selnConst | seln => exact movesTo_putD rfl

/-! ## The larger, the smaller and the nearest value (40 R323 to R330) -/

/-- A word is the word of its signed value. -/
theorem leftInverse_ofInt_toInt : Function.LeftInverse (BitVec.ofInt 32) fun x : Word => x.toInt :=
  fun _ => BitVec.ofInt_toInt

/-- A word is the word of its unsigned value. -/
theorem leftInverse_ofInt_toNat : Function.LeftInverse (BitVec.ofInt 32) fun x : Word => (x.toNat : Int) := fun x => by
  rw [BitVec.ofInt_natCast, BitVec.ofNat_toNat, BitVec.setWidth_eq]

/-- The word of the maximum is the word that MAX selects, for the signed and for the unsigned value. -/
theorem ofInt_max_eq_ite {val : Word → Int} (h : Function.LeftInverse (BitVec.ofInt 32) val) (x y : Word) :
    BitVec.ofInt 32 (max (val x) (val y)) = if val x > val y then x else y := by
  split
  next hgt => rw [max_eq_left hgt.le, h x]
  next hle => rw [max_eq_right (not_lt.1 hle), h y]

/-- The word of the minimum is the word that MIN selects, for the signed and for the unsigned value. -/
theorem ofInt_min_eq_ite {val : Word → Int} (h : Function.LeftInverse (BitVec.ofInt 32) val) (x y : Word) :
    BitVec.ofInt 32 (min (val x) (val y)) = if val x < val y then x else y := by
  split
  next hlt => rw [min_eq_left hlt.le, h x]
  next hge => rw [min_eq_right (not_lt.1 hge), h y]

/-- The unsigned saturation of a word keeps it or gives the top of the narrower range. -/
theorem ofInt_clampUnsigned_toNat (n : Nat) (x : Word) :
    BitVec.ofInt 32 (clampUnsigned n x.toNat) =
      if (x.toNat : Int) > 2 ^ n - 1 then BitVec.ofInt 32 (2 ^ n - 1) else x := by
  have hpos : (0 : Int) < 2 ^ n := by positivity
  unfold clampUnsigned
  split
  next hgt => rw [min_eq_right hgt.le, max_eq_right (by omega)]
  next hle => rw [min_eq_left (not_lt.1 hle), max_eq_right (by omega), leftInverse_ofInt_toNat x]

/-- Settles O2: each instruction is the write `putD` of the word that the comparison of its rule selects, or of the
saturated value, and this is the word of the maximum, of the minimum or of the nearest value. -/
theorem minMaxSaturate : Obligations.MinMaxSaturate := by
  intro s c a b k9
  unfold State.sD State.uD
  -- The constant is the extended word that the meaning reads (30 R220).
  rw [← sext9_toInt, ← zext9_toNat]
  refine ⟨?maxConst, ?max, ?maxUConst, ?maxU, ?minConst, ?min, ?minUConst, ?minU, ?satB, ?satB16, ?satBu, ?satBu16, ?satH,
    ?satH16, ?satHu, ?satHu16⟩
  case maxConst | max => rw [ofInt_max_eq_ite leftInverse_ofInt_toInt]; exact movesTo_putD rfl
  case maxUConst | maxU => rw [ofInt_max_eq_ite leftInverse_ofInt_toNat]; exact movesTo_putD rfl
  case minConst | min => rw [ofInt_min_eq_ite leftInverse_ofInt_toInt]; exact movesTo_putD rfl
  case minUConst | minU => rw [ofInt_min_eq_ite leftInverse_ofInt_toNat]; exact movesTo_putD rfl
  case satB | satB16 | satH | satH16 => unfold clampSigned; rw [← ssov_eq_clamp]; exact movesTo_putD rfl
  case satBu | satBu16 | satHu | satHu16 => rw [ofInt_clampUnsigned_toNat]; exact movesTo_putD rfl

/-! ## Additions and subtractions (40 R304 to R322) -/

/-- The absolute difference of 40 R321 is the absolute value of the difference. -/
theorem absDiff_eq_abs (x y : Int) : absDiff x y = |x - y| := by
  unfold absDiff
  split
  next hgt => rw [abs_of_pos (by omega)]
  next hle => rw [abs_of_nonpos (by omega), neg_sub]

theorem carry32_iff (x y : Word) (cin : Bool) : carry32 x y cin = true ↔ 2 ^ 32 ≤ x.toNat + y.toNat + cin.toNat :=
  decide_eq_true_iff

/-- The carry out of x + ~y + c is set where x - y - 1 + c needs no borrow (92 D16). -/
theorem carry32_not_iff (x y : Word) (cin : Bool) :
    carry32 x (~~~y) cin = true ↔ y.toNat + 1 ≤ x.toNat + cin.toNat := by
  have hy := y.isLt
  rw [carry32_iff, BitVec.toNat_not]
  omega

/-- Settles O3: each instruction writes the wrapped result of an integer, with C as well where the rule sets it, and this
integer is the true result of the statement. -/
theorem signedAddSubtract : Obligations.SignedAddSubtract := by
  intro s c a b k4 k9 k16
  -- The constants are the extended words that the meanings read (30 R220).
  rw [← sext9_eq, ← sext9_toInt, ← sext4_toInt, ← high16_toInt, ← sext16_toInt]
  refine ⟨?addConst, ?add, ?addConst16, ?addConst16D15, ?add16, ?add16D15, ?addi, ?addih, ?addxConst, ?addx, ?addcConst,
    ?addc, ?sub, ?sub16, ?sub16D15, ?subx, ?subc, ?rsubConst, ?rsub16, ?abs, ?absdifConst, ?absdif⟩
  case add | addConst | addConst16 | addConst16D15 | add16 | add16D15 | addi | addih | sub | sub16 | sub16D15
      | rsubConst =>
    exact signedTo_putResult rfl rfl
  case rsub16 => exact signedTo_putResult rfl (zero_sub _)
  case abs => exact signedTo_putResult rfl (Int.natCast_natAbs _)
  case absdifConst | absdif => exact signedTo_putResult rfl (absDiff_eq_abs _ _)
  -- ADDX is ADDC with no carry in, and SUBX is x + ~y + 1.
  case addxConst | addx => exact signedCarryTo_putResultC rfl rfl (carry32_iff _ _ false)
  case addcConst | addc => exact signedCarryTo_putResultC rfl rfl (carry32_iff _ _ _)
  case subx => exact signedCarryTo_putResultC rfl rfl ((carry32_not_iff _ _ true).trans Nat.succ_le_succ_iff)
  case subc => exact signedCarryTo_putResultC rfl rfl (carry32_not_iff _ _ _)

/-- Settles O4: each instruction writes the saturated result of an integer, and this integer is the true result of the
statement. -/
theorem saturatingAddSubtract : Obligations.SaturatingAddSubtract := by
  intro s c a b k9
  -- The constants are the extended words that the meanings read (30 R220).
  rw [← sext9_toInt, ← zext9_toNat]
  refine ⟨?addsConst, ?adds, ?addsUConst, ?addsU, ?subs, ?subs16, ?subsU, ?rsubsConst, ?rsubsUConst, ?abss,
    ?absdifsConst, ?absdifs⟩
  case addsConst | adds | subs | subs16 | rsubsConst => exact signedSatTo_putResult rfl rfl
  case addsUConst | addsU | subsU | rsubsUConst => exact unsignedSatTo_putResult rfl rfl
  case abss => exact signedSatTo_putResult rfl (Int.natCast_natAbs _)
  case absdifsConst | absdifs => exact signedSatTo_putResult rfl (absDiff_eq_abs _ _)

/-! ## Conditional additions and subtractions (40 R331 to R334) -/

/-- Settles O5: each instruction writes the wrapped result of the integer its condition selects. CADD and CSUB ask for a
register other than 0, CADDN and CSUBN for 0, so that the former have the branches of the statement in the other order. -/
theorem conditionalAddSubtract : Obligations.ConditionalAddSubtract := by
  intro s c d a b k4 k9
  -- The constants are the extended words that the meanings read (30 R220).
  rw [← sext9_toInt, ← sext4_toInt]
  refine ⟨?caddConst, ?cadd, ?caddConst16, ?cadd16, ?caddnConst, ?caddn, ?caddnConst16, ?caddn16, ?csub, ?csubn⟩
  case caddConst | cadd | caddConst16 | cadd16 | csub => exact signedTo_putResult rfl (ite_not _ _ _)
  case caddnConst | caddn | caddnConst16 | caddn16 | csubn => exact signedTo_putResult rfl rfl

end Sys2Proof.Machine
end

section
/-! The multiplications of spec/41_multiply_divide.md: the results of one word (O6) and of a pair (O7). Every meaning is one
of the shared writes of Laws/Effects.lean, so that what each proof shows is the integer whose result it writes. -/

namespace Sys2Proof.Machine

open Sys2Proof

/-! ## Results of one word (41 R382 to R384, R387 to R389, R394 to R396) -/

/-- Settles O6: each instruction writes the wrapped or the saturated result of an integer, and this integer is the true
product, sum or difference of the statement. -/
theorem multiplyWord : Obligations.MultiplyWord := by
  intro s c d a b k9
  -- The constants are the extended words that the meanings read (30 R220).
  rw [← sext9_toInt, ← zext9_toNat]
  refine ⟨?mulConst, ?mul, ?mul16, ?mulsConst, ?muls, ?mulsUConst, ?mulsU, ?maddConst, ?madd, ?maddsConst, ?madds,
    ?maddsUConst, ?maddsU, ?msubConst, ?msub, ?msubsConst, ?msubs, ?msubsUConst, ?msubsU⟩
  case mulConst | mul | mul16 | maddConst | madd | msubConst | msub => exact signedTo_putResult rfl rfl
  case mulsConst | muls | maddsConst | madds | msubsConst | msubs => exact signedSatTo_putResult rfl rfl
  case mulsUConst | mulsU | maddsUConst | maddsU | msubsUConst | msubsU => exact unsignedSatTo_putResult rfl rfl

/-! ## Even pair operands (30 R226) -/

theorem onPairs_of_even {s t : State} {r : Reg} (h : ¬ IsOdd r) : onPairs s (Reg.isPair r) t = .next t :=
  if_pos ((isPair_iff r).2 h)

theorem onPairs_of_both_even {s t : State} {c d : Reg} (hc : ¬ IsOdd c) (hd : ¬ IsOdd d) :
    onPairs s (Reg.isPair c && Reg.isPair d) t = .next t := by
  rw [(isPair_iff c).2 hc, Bool.true_and]
  exact onPairs_of_even hd

/-! ## Results of a pair (10 R62) -/

theorem signedPairTo_putResultE {i : Instr} {s : State} {c : Reg} {r : Int}
    (h : exec i s = .next (s.putResultE c (signedResult 64 r) 4)) : SignedPairTo i s c r :=
  arithPairTo_putResultE h rfl (overflowSigned_iff 64 r) (advOverflow_iff _)

theorem unsignedPairTo_putResultE {i : Instr} {s : State} {c : Reg} {r : Int}
    (h : exec i s = .next (s.putResultE c (unsignedResult 64 r) 4)) : UnsignedPairTo i s c r :=
  arithPairTo_putResultE h rfl (overflowUnsigned_iff 64 r) (advOverflow_iff _)

theorem signedSatPairTo_putResultE {i : Instr} {s : State} {c : Reg} {r : Int}
    (h : exec i s = .next (s.putResultE c (signedSatResult 64 r) 4)) : SignedSatPairTo i s c r := by
  unfold SignedSatPairTo clampSigned
  rw [← ssov_eq_clamp]
  exact arithPairTo_putResultE h rfl (overflowSigned_iff 64 r) (advOverflow_iff _)

theorem unsignedSatPairTo_putResultE {i : Instr} {s : State} {c : Reg} {r : Int}
    (h : exec i s = .next (s.putResultE c (unsignedSatResult 64 r) 4)) : UnsignedSatPairTo i s c r := by
  unfold UnsignedSatPairTo clampUnsigned
  rw [← suov_eq_clamp]
  exact arithPairTo_putResultE h rfl (overflowUnsigned_iff 64 r) (advOverflow_iff _)

/-- The product of two signed words is a signed number of 64 bits (41 R385). -/
theorem signedProduct_fits (x y : Word) : ¬ OutsideSigned 64 (x.toInt * y.toInt) := by
  have hlo := BitVec.le_toInt_mul_toInt (x := x) (y := y)
  have hhi := BitVec.toInt_mul_toInt_le (x := x) (y := y)
  unfold OutsideSigned
  omega

/-- The product of two unsigned words is an unsigned number of 64 bits (41 R386). -/
theorem unsignedProduct_fits (x y : Word) : ¬ OutsideUnsigned 64 ((x.toNat : Int) * y.toNat) := by
  have hlt := BitVec.toNat_mul_toNat_lt (x := x) (y := y)
  unfold OutsideUnsigned
  rw [← Nat.cast_mul]
  omega

/-- A signed result of 64 bits that fits clears V. -/
theorem arithPairTo_of_fits_signed {i : Instr} {s : State} {c : Reg} {r : Int}
    (h : exec i s = .next (s.putResultE c (signedResult 64 r) 4)) (hr : ¬ OutsideSigned 64 r) :
    ArithPairTo i s c 4 (BitVec.ofInt 64 r) False (TopBitsDiffer (BitVec.ofInt 64 r)) := by
  rw [← eq_false hr]
  exact signedPairTo_putResultE h

/-- An unsigned result of 64 bits that fits clears V. -/
theorem arithPairTo_of_fits_unsigned {i : Instr} {s : State} {c : Reg} {r : Int}
    (h : exec i s = .next (s.putResultE c (unsignedResult 64 r) 4)) (hr : ¬ OutsideUnsigned 64 r) :
    ArithPairTo i s c 4 (BitVec.ofInt 64 r) False (TopBitsDiffer (BitVec.ofInt 64 r)) := by
  rw [← eq_false hr]
  exact unsignedPairTo_putResultE h

/-- Settles O7: with even pairs each instruction writes the wrapped or the saturated result of an integer, and this integer
is the true result of the statement; a product alone always fits. -/
theorem multiplyPair : Obligations.MultiplyPair := by
  intro s c d a b k9
  -- The constants and the pairs are the extended words and the double words that the meanings read (30 R220, 10 R43).
  unfold signedPair unsignedPair
  rw [← sext9_toInt, ← zext9_toNat, ← State.sE_eq, ← State.uE_eq]
  refine ⟨?mulmConst, ?mulm, ?mulmUConst, ?mulmU, ?maddmConst, ?maddm, ?maddmUConst, ?maddmU, ?maddmsConst, ?maddms,
    ?maddmsUConst, ?maddmsU, ?msubmConst, ?msubm, ?msubmUConst, ?msubmU, ?msubmsConst, ?msubms, ?msubmsUConst, ?msubmsU⟩
  case mulmConst | mulm =>
    exact fun hc => arithPairTo_of_fits_signed (onPairs_of_even hc) (signedProduct_fits _ _)
  case mulmUConst | mulmU =>
    exact fun hc => arithPairTo_of_fits_unsigned (onPairs_of_even hc) (unsignedProduct_fits _ _)
  case maddmConst | maddm | msubmConst | msubm =>
    exact fun hc hd => signedPairTo_putResultE (onPairs_of_both_even hc hd)
  case maddmUConst | maddmU | msubmUConst | msubmU =>
    exact fun hc hd => unsignedPairTo_putResultE (onPairs_of_both_even hc hd)
  case maddmsConst | maddms | msubmsConst | msubms =>
    exact fun hc hd => signedSatPairTo_putResultE (onPairs_of_both_even hc hd)
  case maddmsUConst | maddmsU | msubmsUConst | msubmsU =>
    exact fun hc hd => unsignedSatPairTo_putResultE (onPairs_of_both_even hc hd)

end Sys2Proof.Machine
end

section
/-! The division of spec/41_multiply_divide.md: DVINIT (O8), DVSTEP, DVSTEP.U and DVADJ (O9), and a whole unsigned division
(O10). The functions of Machine/MulDiv.lean work on double words; what is shown of each is its value over integers. -/

namespace Sys2Proof.Machine

open Sys2Proof

/-! ## Words and integers -/

theorem msb_ne_msb_iff {m n : Nat} (x : BitVec m) (y : BitVec n) :
    (x.msb != y.msb) = true ↔ ¬(x.toInt < 0 ↔ y.toInt < 0) := by
  simp only [BitVec.msb_eq_toInt, bne_iff_ne, ne_eq, decide_eq_decide]

theorem ofInt_two_pow (w n : Nat) : BitVec.ofInt w (2 ^ n) = BitVec.twoPow w n := by
  apply BitVec.eq_of_toNat_eq
  rw [BitVec.toNat_twoPow, ← Nat.cast_ofNat, ← Nat.cast_pow, BitVec.ofInt_natCast, BitVec.toNat_ofNat]

theorem ofInt_shiftLeft (w n : Nat) (x : Int) : BitVec.ofInt w x <<< n = BitVec.ofInt w (x * 2 ^ n) := by
  rw [BitVec.shiftLeft_eq_mul_twoPow, BitVec.ofInt_mul, ofInt_two_pow]

/-- The zeros that a shift brings in take any number below. -/
theorem shiftLeft_or_ofNat {w n k : Nat} (x : BitVec w) (hk : k < 2 ^ n) :
    x <<< n ||| BitVec.ofNat w k = x <<< n + BitVec.ofNat w k := by
  refine (BitVec.add_eq_or_of_and_eq_zero _ _ (BitVec.eq_of_getLsbD_eq fun i _ => ?_)).symm
  rw [BitVec.getLsbD_and, BitVec.getLsbD_shiftLeft, BitVec.getLsbD_ofNat, BitVec.getLsbD_zero]
  by_cases hi : i < n
  · simp [hi]
  · simp [Nat.testBit_lt_two_pow (hk.trans_le (Nat.pow_le_pow_right Nat.two_pos (not_lt.1 hi)))]

theorem highWord_toNat (e : DWord) : (e.extractLsb' 32 32).toNat = e.toNat / 2 ^ 32 := by
  have := e.isLt
  rw [BitVec.extractLsb'_toNat, Nat.shiftRight_eq_div_pow]
  omega

theorem highWord_toInt (e : DWord) : (e.extractLsb' 32 32).toInt = e.toInt / 2 ^ 32 := by
  have := e.isLt
  rw [BitVec.toInt_eq_toNat_cond, BitVec.toInt_eq_toNat_cond, highWord_toNat]
  split <;> split <;> omega

/-! ## DVINIT (41 R422) -/

theorem divideInit_signed (x y : Word) (n : Nat) :
    divideInit x y n true =
      BitVec.ofInt 64 (x.toInt * 2 ^ n + if (x.toInt < 0 ↔ y.toInt < 0) then 0 else 2 ^ n - 1) := by
  have hpos := Nat.two_pow_pos n
  have hfill : BitVec.ofNat 64 (2 ^ n - 1) = BitVec.ofInt 64 (2 ^ n - 1) := by
    rw [← BitVec.ofInt_natCast, Nat.cast_sub hpos]
    push_cast
    rfl
  have hx : x.signExtend 64 <<< n = BitVec.ofInt 64 (x.toInt * 2 ^ n) := ofInt_shiftLeft 64 n x.toInt
  unfold divideInit
  rw [Bool.true_and, if_pos rfl, BitVec.ofInt_add, ← hx]
  by_cases h : (x.toInt < 0 ↔ y.toInt < 0)
  · rw [if_neg (mt (msb_ne_msb_iff x y).1 (not_not.2 h)), if_pos h]
    simp
  · rw [if_pos ((msb_ne_msb_iff x y).2 h), if_neg h, shiftLeft_or_ofNat _ (by omega), hfill]

theorem divideInit_unsigned (x y : Word) (n : Nat) : divideInit x y n false = BitVec.ofInt 64 (x.toNat * 2 ^ n) := by
  have hx : x.setWidth 64 <<< n = BitVec.ofInt 64 (x.toNat * 2 ^ n) := by
    rw [← ofInt_shiftLeft, BitVec.ofInt_natCast, BitVec.ofNat_toNat]
  unfold divideInit
  simp [hx]

/-- The magnitude of a negative high word is its one's complement (92 D28). -/
theorem onesComplementMagnitude_eq (x : Word) :
    ((if x.msb then (~~~x).toNat else x.toNat : Nat) : Int) = if x.toInt < 0 then -x.toInt - 1 else x.toInt := by
  have := x.isLt
  rw [BitVec.msb_eq_toInt, BitVec.toNat_not, BitVec.toInt_eq_toNat_cond]
  simp only [decide_eq_true_eq]
  split <;> split <;> omega

theorem divideInitOverflow_signed_iff (e : DWord) (y : Word) :
    divideInitOverflow e y true = true ↔
      |y.toInt| ≤ if e.toInt < 0 then -(e.toInt / 2 ^ 32) - 1 else e.toInt / 2 ^ 32 := by
  have hmag := onesComplementMagnitude_eq (e.extractLsb' 32 32)
  have hneg : e.toInt / 2 ^ 32 < 0 ↔ e.toInt < 0 := by omega
  simp only [highWord_toInt, hneg] at hmag
  rw [← hmag, ← Int.natCast_natAbs, Int.ofNat_le]
  exact decide_eq_true_iff

theorem divideInitOverflow_unsigned_iff (e : DWord) (y : Word) :
    divideInitOverflow e y false = true ↔ (y.toNat : Int) ≤ (e.toNat : Int) / 2 ^ 32 := by
  unfold divideInitOverflow
  simp only [highWord_toNat, Bool.false_eq_true, if_false, decide_eq_true_eq]
  omega

/-- E[c] <- `e`, V and SV by its overflow condition. -/
theorem divideInitTo_divideInitOp {i : Instr} {s : State} {c a b : Reg} {n : Nat} {signed : Bool} {e : Int} {ov : Prop}
    (h : exec i s = divideInitOp s c a b n signed) (hc : ¬ IsOdd c)
    (he : divideInit (s.getD a) (s.getD b) n signed = BitVec.ofInt 64 e)
    (hov : divideInitOverflow (BitVec.ofInt 64 e) (s.getD b) signed = true ↔ ov) : DivideInitTo i s c e ov := by
  unfold divideInitOp at h
  rw [he, onPairs_of_even hc] at h
  refine ⟨_, h, fun r => State.getD_setE s c _ r, fun _ => rfl, ?v, ?sv, fun k h29 h30 => ?kept, rfl, RestKept.refl s⟩
  case v =>
    refine Iff.trans (Eq.congr_left ?_) hov
    exact (Psw.getLsbD_setV s.psw _ 30).trans rfl
  case sv =>
    refine Iff.trans (Eq.congr_left ?_) ((Bool.or_eq_true _ _).to_iff.trans (or_congr_left hov))
    exact Psw.getLsbD_setV s.psw _ 29
  case kept => exact (Psw.getLsbD_setV s.psw _ k).trans (by rw [if_neg h29, if_neg h30])

theorem divideInitTo_signed {i : Instr} {s : State} {c a b : Reg} {n : Nat} {e : Int}
    (h : exec i s = divideInitOp s c a b n true) (hc : ¬ IsOdd c) (hn : n ≤ 24)
    (he : s.sD a * 2 ^ n + (if (s.sD a < 0 ↔ s.sD b < 0) then 0 else 2 ^ n - 1) = e) :
    DivideInitTo i s c e (|s.sD b| ≤ if e < 0 then -(e / 2 ^ 32) - 1 else e / 2 ^ 32) := by
  have hrange : (BitVec.ofInt 64 e).toInt = e := by
    have hpow : (2 : Int) ^ n ≤ 2 ^ 24 := pow_le_pow_right₀ (by omega) hn
    have hlo : -2 ^ 31 * 2 ^ n ≤ s.sD a * 2 ^ n := Int.mul_le_mul_of_nonneg_right (BitVec.le_toInt _) (by positivity)
    have hhi : s.sD a * 2 ^ n ≤ (2 ^ 31 - 1) * 2 ^ n :=
      Int.mul_le_mul_of_nonneg_right (Int.le_sub_one_of_lt BitVec.toInt_lt) (by positivity)
    apply BitVec.toInt_ofInt_eq_self (by omega) <;> split at he <;> omega
  refine divideInitTo_divideInitOp h hc (he ▸ divideInit_signed _ _ n) ?_
  rw [divideInitOverflow_signed_iff, hrange]
  rfl

theorem divideInitTo_unsigned {i : Instr} {s : State} {c a b : Reg} {n : Nat} {e : Int}
    (h : exec i s = divideInitOp s c a b n false) (hc : ¬ IsOdd c) (hn : n ≤ 24) (he : s.uD a * 2 ^ n = e) :
    DivideInitTo i s c e (s.uD b ≤ e / 2 ^ 32) := by
  have hrange : ((BitVec.ofInt 64 e).toNat : Int) = e := by
    have hpow : 2 ^ n ≤ 2 ^ 24 := Nat.pow_le_pow_right Nat.two_pos hn
    have hlt : (s.getD a).toNat * 2 ^ n < 2 ^ 32 * 2 ^ 24 :=
      Nat.mul_lt_mul_of_lt_of_le (s.getD a).isLt hpow (by positivity)
    have hcast : e = ((s.getD a).toNat * 2 ^ n : Nat) := he.symm.trans (by push_cast; rfl)
    rw [hcast, BitVec.ofInt_natCast, BitVec.toNat_ofNat, Nat.mod_eq_of_lt (by omega)]
  refine divideInitTo_divideInitOp h hc (he ▸ divideInit_unsigned _ _ n) ?_
  rw [divideInitOverflow_unsigned_iff, hrange]
  rfl

/-- Settles O8: each instruction is the shared operation `divideInitOp` at a shift of 0, 16 or 24, whose pair and overflow
condition are those of the statement over integers. -/
theorem divideInitialize : Obligations.DivideInitialize := by
  intro s c a b
  refine ⟨?word, ?wordU, ?half, ?halfU, ?byte, ?byteU⟩
  case word => exact fun hc => divideInitTo_signed rfl hc (by omega) (by simp)
  case half | byte => exact fun hc => divideInitTo_signed rfl hc (by omega) rfl
  case wordU => exact fun hc => divideInitTo_unsigned rfl hc (by omega) (mul_one _)
  case halfU | byteU => exact fun hc => divideInitTo_unsigned rfl hc (by omega) rfl

/-! ## The pair of a divide step -/

/-- The double word of a remainder and a quotient (10 R43). -/
def wordPair (x : Int × Int) : DWord := BitVec.ofInt 32 x.1 ++ BitVec.ofInt 32 x.2

theorem wordPair_mk (r q : Int) : wordPair (r, q) = BitVec.ofInt 32 r ++ BitVec.ofInt 32 q := rfl

theorem natCast_toNat_ofInt (w : Nat) (x : Int) : ((BitVec.ofInt w x).toNat : Int) = x % 2 ^ w := by
  rw [BitVec.toNat_ofInt, Int.toNat_of_nonneg (Int.emod_nonneg _ (by positivity))]
  push_cast
  rfl

theorem ofInt_eq_of_emod_eq {w : Nat} {x y : Int} (h : x % 2 ^ w = y % 2 ^ w) : BitVec.ofInt w x = BitVec.ofInt w y := by
  apply BitVec.eq_of_toNat_eq
  rw [← Int.natCast_inj, natCast_toNat_ofInt, natCast_toNat_ofInt, h]

theorem highWord_ofInt (z : Int) : (BitVec.ofInt 64 z).extractLsb' 32 32 = BitVec.ofInt 32 (z / 2 ^ 32) := by
  have hz := natCast_toNat_ofInt 64 z
  have hq := natCast_toNat_ofInt 32 (z / 2 ^ 32)
  apply BitVec.eq_of_toNat_eq
  rw [highWord_toNat]
  omega

theorem lowWord_ofInt (z : Int) : (BitVec.ofInt 64 z).extractLsb' 0 32 = BitVec.ofInt 32 z := by
  have hz := natCast_toNat_ofInt 64 z
  have hr := natCast_toNat_ofInt 32 z
  apply BitVec.eq_of_toNat_eq
  rw [BitVec.extractLsb'_toNat, Nat.shiftRight_zero]
  omega

theorem wordPair_eq_ofInt (rem : Int) {q : Int} (h0 : 0 ≤ q) (h1 : q < 2 ^ 32) :
    wordPair (rem, q) = BitVec.ofInt 64 (rem * 2 ^ 32 + q) := by
  have hp := natCast_toNat_ofInt 64 (rem * 2 ^ 32 + q)
  have hr := natCast_toNat_ofInt 32 rem
  have hq := natCast_toNat_ofInt 32 q
  apply BitVec.eq_of_toNat_eq
  rw [wordPair_mk, toNat_append_add]
  omega

theorem repeat_succ_apply {α : Type} (f : α → α) (n : Nat) (x : α) :
    Nat.repeat f (n + 1) x = Nat.repeat f n (f x) := by
  induction n with
  | zero => rfl
  | succ n ih => exact congrArg f ih

/-! ## DVSTEP (41 R425) -/

theorem boolWord_eq_ofNat (p : Bool) : boolWord p = BitVec.ofNat 32 p.toNat := by
  cases p <;> rfl

/-- The remainder of a step before its addition: shifted, with the top bit of the low word. -/
theorem highWord_shifted (rem : Int) {q : Int} (h0 : 0 ≤ q) (h1 : q < 2 ^ 32) :
    (wordPair (rem, q) <<< 1).extractLsb' 32 32 = BitVec.ofInt 32 (2 * rem + q / 2 ^ 31) := by
  rw [wordPair_eq_ofInt rem h0 h1, ofInt_shiftLeft, highWord_ofInt]
  congr 1
  omega

/-- The quotient of a step: shifted, with the new bit below. -/
theorem lowWord_shifted_or (rem : Int) {q : Int} (h0 : 0 ≤ q) (h1 : q < 2 ^ 32) (p : Bool) :
    (wordPair (rem, q) <<< 1).extractLsb' 0 32 ||| boolWord p = BitVec.ofInt 32 (2 * q % 2 ^ 32 + p.toNat) := by
  have hp : p.toNat < 2 ^ 1 := p.toNat_lt
  rw [wordPair_eq_ofInt rem h0 h1, ofInt_shiftLeft, lowWord_ofInt, ← ofInt_shiftLeft, boolWord_eq_ofNat,
    shiftLeft_or_ofNat _ hp, ofInt_shiftLeft, ← BitVec.ofInt_natCast, ← BitVec.ofInt_add]
  apply ofInt_eq_of_emod_eq
  omega

/-- One quotient bit over words is one quotient bit over integers. -/
theorem divideStepBit_wordPair (neg : Prop) [Decidable neg] (qs : Bool) (y rem : Int) {q : Int} (h0 : 0 ≤ q)
    (h1 : q < 2 ^ 32) :
    divideStepBit (decide neg) qs y (wordPair (rem, q)) = wordPair (signedSteps neg qs.toNat y 1 (rem, q)) := by
  have hnot : ((!qs).toNat : Int) = 1 - qs.toNat := by cases qs <;> rfl
  unfold divideStepBit
  simp only [highWord_shifted rem h0 h1, lowWord_shifted_or rem h0 h1, signedSteps, Bool.beq_eq_decide_eq,
    decide_eq_decide, decide_eq_true_eq]
  split
  next => rw [wordPair, hnot]
  next => rfl

theorem signedSteps_one_snd_range (neg : Prop) [Decidable neg] (qs : Bool) (y : Int) (x : Int × Int) :
    0 ≤ (signedSteps neg qs.toNat y 1 x).2 ∧ (signedSteps neg qs.toNat y 1 x).2 < 2 ^ 32 := by
  have hqs := qs.toNat_lt
  simp only [signedSteps]
  split <;> dsimp only <;> omega

/-- The quotient bits over words are those over integers. -/
theorem repeat_divideStepBit_wordPair (neg : Prop) [Decidable neg] (qs : Bool) (y : Int) (n : Nat) {x : Int × Int}
    (h0 : 0 ≤ x.2) (h1 : x.2 < 2 ^ 32) :
    Nat.repeat (divideStepBit (decide neg) qs y) n (wordPair x) = wordPair (signedSteps neg qs.toNat y n x) := by
  induction n generalizing x with
  | zero => rfl
  | succ n ih =>
    obtain ⟨hlo, hhi⟩ := signedSteps_one_snd_range neg qs y x
    rw [repeat_succ_apply, divideStepBit_wordPair neg qs y x.1 h0 h1, ih hlo hhi]
    rfl

theorem wordPair_toInt_toNat (hi lo : Word) : wordPair (hi.toInt, lo.toNat) = hi ++ lo := by
  rw [wordPair_mk, BitVec.ofInt_toInt, leftInverse_ofInt_toNat lo]

theorem msb_append_word (hi lo : Word) : (hi ++ lo : DWord).msb = hi.msb := by
  rw [BitVec.msb_append, if_neg (by omega)]

theorem divideStep_append (hi lo y : Word) {r q : Int} (h : signedStepResult hi.toInt lo.toNat y.toInt = (r, q)) :
    divideStep (hi ++ lo) y = wordPair (r, q) := by
  have hlo := lo.isLt
  have hqs : (hi.msb != y.msb) = decide ¬(hi.toInt < 0 ↔ y.toInt < 0) :=
    Bool.eq_iff_iff.2 ((msb_ne_msb_iff hi y).trans decide_eq_true_iff.symm)
  rw [← h]
  dsimp only [divideStep, signedStepResult]
  rw [msb_append_word, hqs, BitVec.msb_eq_toInt, ← wordPair_toInt_toNat,
    repeat_divideStepBit_wordPair _ _ _ _ (by omega) (by omega)]
  by_cases hsign : (hi.toInt < 0 ↔ y.toInt < 0) <;> simp [hsign]

/-! ## DVSTEP.U (41 R426) -/

/-- One unsigned quotient bit over words is one quotient bit over integers. -/
theorem divideStepBitU_toNat (y : Nat) (x : Nat × Word) :
    Prod.map id BitVec.toNat (divideStepBitU y x) = unsignedSteps y 1 (Prod.map id BitVec.toNat x) := by
  obtain ⟨rem, q⟩ := x
  have hq := q.isLt
  have hmsb : q.msb.toNat = q.toNat / 2 ^ 31 := by
    rw [BitVec.msb_eq_decide]
    by_cases h : 2 ^ 31 ≤ q.toNat
    · rw [decide_eq_true h, Bool.toNat_true]
      omega
    · rw [decide_eq_false h, Bool.toNat_false]
      omega
  have hshift : (q <<< 1).toNat = 2 * q.toNat % 2 ^ 32 := by
    rw [BitVec.toNat_shiftLeft, Nat.shiftLeft_eq]
    omega
  have hone : (q <<< 1 ||| 1).toNat = 2 * q.toNat % 2 ^ 32 + 1 := by
    rw [show (1 : Word) = BitVec.ofNat 32 1 from rfl, shiftLeft_or_ofNat q (by omega), BitVec.toNat_add, hshift]
    simp only [BitVec.toNat_ofNat]
    omega
  unfold divideStepBitU
  simp only [hmsb, unsignedSteps, Prod.map, id]
  split
  next => rw [hone]
  next => rw [hshift]

theorem repeat_divideStepBitU_toNat (y n : Nat) (x : Nat × Word) :
    Prod.map id BitVec.toNat (Nat.repeat (divideStepBitU y) n x) = unsignedSteps y n (Prod.map id BitVec.toNat x) := by
  induction n generalizing x with
  | zero => rfl
  | succ n ih =>
    rw [repeat_succ_apply, ih, divideStepBitU_toNat]
    rfl

theorem divideStepU_append (hi lo y : Word) {r q : Nat}
    (h : unsignedSteps y.toNat 8 (hi.toNat, lo.toNat) = (r, q)) :
    divideStepU (hi ++ lo) y = BitVec.ofNat 32 r ++ BitVec.ofNat 32 q := by
  have hsteps := (repeat_divideStepBitU_toNat y.toNat 8 (hi.toNat, lo)).trans h
  obtain ⟨hr, hq⟩ := Prod.mk.inj hsteps
  unfold divideStepU
  rw [BitVec.extractLsb'_append_eq_left, BitVec.extractLsb'_append_eq_right, ← hr, ← hq, BitVec.ofNat_toNat,
    BitVec.setWidth_eq]
  rfl

/-! ## DVADJ (41 R427) -/

/-- The adjusted pair over integers: `r` and `q` are the remainder and the quotient of the rule. -/
theorem divideAdjust_append (hi lo y : Word) {r q : Int}
    (hr : r = if hi.toInt < 0 ∧ (hi.toInt = y.toInt ∨ BitVec.ofInt 32 hi.toInt = BitVec.ofInt 32 (-y.toInt)) then 0
      else hi.toInt)
    (hq : q = if (¬(hi.toInt < 0 ↔ y.toInt < 0) ∧
        ¬(hi.toInt < 0 ∧ BitVec.ofInt 32 hi.toInt = BitVec.ofInt 32 (-y.toInt))) ∨ (hi.toInt < 0 ∧ hi.toInt = y.toInt)
      then (lo.toNat : Int) + 1 else lo.toNat) :
    divideAdjust (hi ++ lo) y = wordPair (r, q) := by
  have hlo : BitVec.ofInt 32 (lo.toNat : Int) = lo := leftInverse_ofInt_toNat lo
  have hsucc : BitVec.ofInt 32 ((lo.toNat : Int) + 1) = lo + 1 := by rw [BitVec.ofInt_add, hlo]; rfl
  subst hr hq
  dsimp only [divideAdjust, wordPair]
  rw [msb_append_word]
  simp only [BitVec.extractLsb'_append_eq_left, BitVec.extractLsb'_append_eq_right, apply_ite (BitVec.ofInt 32), hlo,
    hsucc, BitVec.ofInt_neg, BitVec.ofInt_toInt, BitVec.msb_eq_toInt, BitVec.toInt_inj]
  congr 1
  · exact if_congr (by simp [and_or_left]) rfl rfl
  · exact if_congr (by simp [imp_iff_not_or]) rfl rfl

/-- E[c] <- `v`, and V cleared. -/
theorem runsTo_clearV {i : Instr} {s : State} {c : Reg} {v : DWord} {len : Word}
    (h : exec i s = .next (((s.setE c v).setPsw (Psw.clearV s.psw)).advance len)) :
    RunsTo i s fun t => PairIs s t c v ∧ AddressKept s t ∧
      (∀ k, t.psw.getLsbD k = if k = 30 then false else s.psw.getLsbD k) ∧ t.pc = s.pc + len ∧ RestKept s t :=
  ⟨_, h, fun r => State.getD_setE s c v r, fun _ => rfl, fun k => getLsbD_setBit s.psw 30 false k (by omega), rfl,
    RestKept.refl s⟩

/-- E[c] <- a value that is `v`, without flags. -/
theorem movesPairTo_of_eq {i : Instr} {s : State} {c : Reg} {len : Word} {v w : DWord}
    (h : exec i s = .next (s.putE c w len)) (hw : w = v) : MovesPairTo i s c len v :=
  movesPairTo_putE (hw ▸ h)

/-- Settles O9: each instruction writes the pair of its function of Machine/MulDiv.lean, which over integers is the algorithm
of the statement. -/
theorem divideStepAndAdjust : Obligations.DivideStepAndAdjust := by
  intro s c d b
  refine ⟨?dvstep, ?dvstep16, ?dvstepU, ?dvstepU16, ?dvadj⟩
  case dvstep =>
    exact fun hc hd r q h => movesPairTo_of_eq (onPairs_of_both_even hc hd) (divideStep_append _ _ _ h)
  case dvstep16 => exact fun hd r q h => movesPairTo_of_eq (onPairs_of_even hd) (divideStep_append _ _ _ h)
  case dvstepU => exact fun hc hd r q h => movesPairTo_of_eq (onPairs_of_both_even hc hd) (divideStepU_append _ _ _ h)
  case dvstepU16 => exact fun hd r q h => movesPairTo_of_eq (onPairs_of_even hd) (divideStepU_append _ _ _ h)
  case dvadj =>
    rintro hi lo r q rfl rfl hr hq
    have hv : divideAdjust (s.getE d) (s.getD b) = wordPair (r, q) := divideAdjust_append _ _ _ hr hq
    rw [← wordPair_mk, ← hv]
    exact ⟨fun hc hd => runsTo_clearV (onPairs_of_both_even hc hd), fun hd => runsTo_clearV (onPairs_of_even hd)⟩

/-! ## A whole unsigned division (41 R429) -/

theorem unsignedSteps_add (y m n : Nat) (x : Nat × Nat) :
    unsignedSteps y (m + n) x = unsignedSteps y n (unsignedSteps y m x) := by
  induction m generalizing x with
  | zero => rw [Nat.zero_add]; rfl
  | succ m ih => rw [Nat.succ_add]; exact ih _

/-- One quotient bit doubles the dividend, takes the bit times the divisor from its high word and puts the bit below. -/
theorem unsignedSteps_one_spec {y : Nat} {x : Nat × Nat} (hrem : x.1 < y) (hq : x.2 < 2 ^ 32) :
    (unsignedSteps y 1 x).1 < y ∧ (unsignedSteps y 1 x).2 < 2 ^ 32 ∧
      ∃ bit ≤ 1, (unsignedSteps y 1 x).1 * 2 ^ 32 + (unsignedSteps y 1 x).2 + bit * (y * 2 ^ 32) =
        2 * (x.1 * 2 ^ 32 + x.2) + bit := by
  simp only [unsignedSteps]
  split
  next => exact ⟨by omega, by omega, 1, by omega, by omega⟩
  next => exact ⟨by omega, by omega, 0, by omega, by omega⟩

/-- `n` quotient bits, as the number `Q`, shift the dividend by `n`, take `Q` times the divisor from its high word and put
`Q` below. The remainder stays below the divisor, so that a register holds it. -/
theorem unsignedSteps_spec {y : Nat} (n : Nat) {x : Nat × Nat} (hrem : x.1 < y) (hq : x.2 < 2 ^ 32) :
    (unsignedSteps y n x).1 < y ∧ (unsignedSteps y n x).2 < 2 ^ 32 ∧
      ∃ Q < 2 ^ n, (unsignedSteps y n x).1 * 2 ^ 32 + (unsignedSteps y n x).2 + Q * (y * 2 ^ 32) =
        2 ^ n * (x.1 * 2 ^ 32 + x.2) + Q := by
  induction n generalizing x with
  | zero => exact ⟨hrem, hq, 0, by omega, by simp [unsignedSteps]⟩
  | succ n ih =>
    obtain ⟨hrem', hq', bit, hbit, hstep⟩ := unsignedSteps_one_spec hrem hq
    obtain ⟨hremn, hqn, Q, hQ, hsteps⟩ := ih hrem' hq'
    have htop : bit * 2 ^ n ≤ 1 * 2 ^ n := Nat.mul_le_mul_right _ hbit
    refine ⟨hremn, hqn, bit * 2 ^ n + Q, by omega, ?_⟩
    calc
      _ = (unsignedSteps y n (unsignedSteps y 1 x)).1 * 2 ^ 32 + (unsignedSteps y n (unsignedSteps y 1 x)).2 +
          Q * (y * 2 ^ 32) + 2 ^ n * (bit * (y * 2 ^ 32)) := by rw [Nat.add_comm n 1, unsignedSteps_add]; ring
      _ = 2 ^ n * ((unsignedSteps y 1 x).1 * 2 ^ 32 + (unsignedSteps y 1 x).2 + bit * (y * 2 ^ 32)) + Q := by
        rw [hsteps]; ring
      _ = _ := by rw [hstep]; ring

/-- Thirty-two quotient bits of a dividend of one word are its remainder and its quotient. -/
theorem unsignedSteps_word {x y : Nat} (hx : x < 2 ^ 32) (hy : 0 < y) : unsignedSteps y 32 (0, x) = (x % y, x / y) := by
  obtain ⟨hrem, hq, Q, hQ, hsteps⟩ := unsignedSteps_spec 32 (x := (0, x)) hy hx
  rw [← Nat.mul_assoc, Nat.mul_comm Q y] at hsteps
  have hquot : (unsignedSteps y 32 (0, x)).2 = Q := by omega
  obtain ⟨hdiv, hmod⟩ := (Nat.div_mod_unique hy (a := x) (c := (unsignedSteps y 32 (0, x)).1) (d := Q)).2
    ⟨by omega, hrem⟩
  rw [hdiv, hmod, ← hquot]

/-- From `s` to `t`, E[c] got the pair after `n` quotient bits of the division of D[a] by D[b]; memory and the other data
registers are unchanged. -/
def DividedTo (s t : State) (c a b : Reg) (n : Nat) : Prop :=
  unsignedSteps (s.getD b).toNat n (0, (s.getD a).toNat) = ((t.getD (c + 1)).toNat, (t.getD c).toNat) ∧
    (∀ r, r ≠ c → r ≠ c + 1 → t.getD r = s.getD r) ∧ MemoryKept s t

theorem PairIs.high {s t : State} {c : Reg} {v : DWord} (h : PairIs s t c v) :
    t.getD (c + 1) = v.extractLsb' 32 32 :=
  (h (c + 1)).trans (if_pos rfl)

theorem PairIs.low {s t : State} {c : Reg} {v : DWord} (h : PairIs s t c v) : t.getD c = v.extractLsb' 0 32 :=
  (h c).trans (by rw [if_neg (Reg.succ_ne c).symm, if_pos rfl])

theorem PairIs.other {s t : State} {c : Reg} {v : DWord} (h : PairIs s t c v) {r : Reg} (hlow : r ≠ c)
    (hhigh : r ≠ c + 1) : t.getD r = s.getD r :=
  (h r).trans (by rw [if_neg hhigh, if_neg hlow])

theorem RestKept.memoryKept {s t : State} (h : RestKept s t) : MemoryKept s t := by
  obtain ⟨_, _, _, hmem, _⟩ := h
  exact hmem

/-- DVINIT.U begins the division. -/
theorem dividedTo_dvinitU (s : State) {c a b : Reg} (hc : ¬ IsOdd c) :
    ∃ t, exec (.dvinitURr c a b) s = .next t ∧ DividedTo s t c a b 0 := by
  obtain ⟨_, hinit, _⟩ := divideInitialize s c a b
  obtain ⟨t, hexec, hpair, _, _, _, _, _, hrest⟩ := hinit hc
  have ha := (s.getD a).isLt
  refine ⟨t, hexec, ?_, fun r => hpair.other, hrest.memoryKept⟩
  have hhighWord := natCast_toNat_ofInt 32 (s.uD a / 2 ^ 32)
  have hlowWord := natCast_toNat_ofInt 32 (s.uD a)
  have huD : s.uD a = ((s.getD a).toNat : Int) := rfl
  change (0, (s.getD a).toNat) = _
  rw [hpair.high, hpair.low, highWord_ofInt, lowWord_ofInt, Prod.mk.injEq]
  omega

/-- DVSTEP.U goes on with the division by eight quotient bits. -/
theorem dividedTo_dvstepU {s t : State} {c a b : Reg} {n : Nat} (hc : ¬ IsOdd c) (hlow : b ≠ c) (hhigh : b ≠ c + 1)
    (hb : 0 < (s.getD b).toNat) (h : DividedTo s t c a b n) :
    ∃ t', exec (.dvstepURrr c c b) t = .next t' ∧ DividedTo s t' c a b (n + 8) := by
  obtain ⟨hpair, hother, hmem⟩ := h
  rcases hsteps : unsignedSteps (t.getD b).toNat 8 ((t.getD (c + 1)).toNat, (t.getD c).toNat) with ⟨r, q⟩
  have hall : unsignedSteps (s.getD b).toNat (n + 8) (0, (s.getD a).toNat) = (r, q) := by
    rw [unsignedSteps_add, hpair, ← hother b hlow hhigh, hsteps]
  obtain ⟨hr, hq, _⟩ := hall ▸ unsignedSteps_spec (n + 8) (x := (0, (s.getD a).toNat)) hb (s.getD a).isLt
  have hblt := (s.getD b).isLt
  obtain ⟨_, _, hstep, _⟩ := divideStepAndAdjust t c c b
  obtain ⟨t', hexec, hpair', _, _, _, hrest⟩ := hstep hc hc r q hsteps
  refine ⟨t', hexec, ?_, fun k hk hk' => (hpair'.other hk hk').trans (hother k hk hk'),
    fun x => (hrest.memoryKept x).trans (hmem x)⟩
  rw [hall, hpair'.high, hpair'.low, BitVec.extractLsb'_append_eq_left, BitVec.extractLsb'_append_eq_right,
    BitVec.toNat_ofNat, BitVec.toNat_ofNat, Nat.mod_eq_of_lt (hr.trans hblt), Nat.mod_eq_of_lt hq]

/-- Settles O10: DVINIT.U begins the division, each DVSTEP.U adds eight quotient bits, and the thirty-two bits are the
remainder and the quotient. -/
theorem unsignedDivisionSequence : Obligations.UnsignedDivisionSequence := by
  intro s c a b hc hlow hhigh hne
  have hb : 0 < (s.getD b).toNat := BitVec.toNat_pos_of_ne_zero hne
  obtain ⟨t0, hexec0, hdiv0⟩ := dividedTo_dvinitU s (a := a) (b := b) hc
  obtain ⟨t1, hexec1, hdiv1⟩ := dividedTo_dvstepU hc hlow hhigh hb hdiv0
  obtain ⟨t2, hexec2, hdiv2⟩ := dividedTo_dvstepU hc hlow hhigh hb hdiv1
  obtain ⟨t3, hexec3, hdiv3⟩ := dividedTo_dvstepU hc hlow hhigh hb hdiv2
  obtain ⟨t4, hexec4, hpair, hother, hmem⟩ := dividedTo_dvstepU hc hlow hhigh hb hdiv3
  rw [unsignedSteps_word (s.getD a).isLt hb] at hpair
  obtain ⟨hrem, hquot⟩ := Prod.mk.inj hpair
  exact ⟨t0, t1, t2, t3, t4, hexec0, hexec1, hexec2, hexec3, hexec4, hquot.symm, hrem.symm, hother, hmem⟩

end Sys2Proof.Machine
end

section
/-! The logical, count-leading, shift and bit-field instructions of spec/42_logic_shift_bitfield.md: bit by bit and by the
run counted (O11), the word shifts (O12) and the bit fields (O13). The functions of Machine/Bits.lean, Machine/Shift.lean and
Machine/Logic.lean are characterised first: by their bits, by the run they count, by their value over integers. -/

namespace Sys2Proof.Machine

open Sys2Proof

/-! ## Words written bit by bit -/

/-- D[c] <- a word whose bits are known, without flags. -/
theorem bitsTo_putD {i : Instr} {s : State} {c : Reg} {len v : Word} {f : Nat → Bool}
    (h : exec i s = .next (s.putD c v len)) (hf : ∀ k, k < 32 → v.getLsbD k = f k) : BitsTo i s c len f :=
  ⟨v, hf, movesTo_putD h⟩

theorem getLsbD_not_of_lt {w k : Nat} (x : BitVec w) (hk : k < w) : (~~~x).getLsbD k = !x.getLsbD k := by
  rw [BitVec.getLsbD_not, decide_eq_true hk, Bool.true_and]

/-! ## Leading runs (42 R451 to R453) -/

theorem zerosBelow_le {w : Nat} (x : BitVec w) (n : Nat) : zerosBelow x n ≤ n := by
  induction n with
  | zero => rfl
  | succ n ih =>
    unfold zerosBelow
    split
    next => exact Nat.zero_le _
    next => exact Nat.succ_le_succ ih

/-- The bits that `zerosBelow` counts are 0. -/
theorem getLsbD_of_lt_zerosBelow {w : Nat} (x : BitVec w) {n k : Nat} (hk : k < zerosBelow x n) :
    x.getLsbD (n - 1 - k) = false := by
  induction n generalizing k with
  | zero => exact absurd hk (Nat.not_lt_zero k)
  | succ n ih =>
    unfold zerosBelow at hk
    split at hk
    next => exact absurd hk (Nat.not_lt_zero k)
    next htop =>
      cases k with
      | zero => exact Bool.eq_false_of_not_eq_true htop
      | succ k => exact (congrArg x.getLsbD (by omega)).trans (ih (Nat.lt_of_succ_lt_succ hk))

/-- The bit below those that `zerosBelow` counts is 1. -/
theorem getLsbD_zerosBelow {w : Nat} (x : BitVec w) {n : Nat} (hn : zerosBelow x n < n) :
    x.getLsbD (n - 1 - zerosBelow x n) = true := by
  induction n with
  | zero => exact absurd hn (Nat.not_lt_zero _)
  | succ n ih =>
    unfold zerosBelow at hn ⊢
    split
    next htop => exact htop
    next htop =>
      rw [if_neg htop] at hn
      exact (congrArg x.getLsbD (by omega)).trans (ih (Nat.lt_of_succ_lt_succ hn))

theorem leadingRun_leadingZeros {w : Nat} (x : BitVec w) : LeadingRun x 0 false (leadingZeros x) := by
  unfold LeadingRun leadingZeros
  rw [Nat.zero_add, Nat.sub_zero]
  exact ⟨zerosBelow_le x w, fun k hk => getLsbD_of_lt_zerosBelow x hk, getLsbD_zerosBelow x⟩

/-- A run of the complement is a run of the other bit. -/
theorem LeadingRun.of_not {w skip n : Nat} {x : BitVec w} {b : Bool} (h : LeadingRun (~~~x) skip b n) :
    LeadingRun x skip (!b) n := by
  obtain ⟨hle, hrun, hend⟩ := h
  refine ⟨hle, fun k hk => ?_, fun hlt => ?_⟩
  · rw [← hrun k hk, getLsbD_not_of_lt x (by omega), Bool.not_not]
  · rw [← hend hlt, getLsbD_not_of_lt x (by omega), Bool.not_not]

theorem leadingRun_leadingOnes {w : Nat} (x : BitVec w) : LeadingRun x 0 true (leadingOnes x) :=
  (leadingRun_leadingZeros (~~~x)).of_not

/-- A run that the top bit begins is longer by one than the run below the top bit. -/
theorem LeadingRun.pred {w n : Nat} {x : BitVec w} {b : Bool} (h : LeadingRun x 0 b n) (hw : 0 < w)
    (htop : x.getLsbD (w - 1) = b) : LeadingRun x 1 b (n - 1) := by
  obtain ⟨hle, hrun, hend⟩ := h
  have hpos : 0 < n := by
    by_contra hn
    obtain rfl : n = 0 := by omega
    exact (Bool.eq_not_self b).mp (htop.symm.trans (hend hw))
  refine ⟨by omega, fun k hk => ?_, fun hlt => ?_⟩
  · rw [← hrun (k + 1) (by omega)]
    exact congrArg x.getLsbD (by omega)
  · rw [← hend (by omega)]
    exact congrArg x.getLsbD (by omega)

theorem leadingRun_leadingSigns {w : Nat} (x : BitVec w) (hw : 0 < w) :
    LeadingRun x 1 (x.getLsbD (w - 1)) (leadingSigns x) := by
  unfold leadingSigns
  rw [BitVec.msb_eq_getLsbD_last]
  cases htop : x.getLsbD (w - 1) with
  | true => exact (leadingRun_leadingOnes x).pred hw htop
  | false => exact (leadingRun_leadingZeros x).pred hw htop

/-- Settles O11: each logical instruction is the write `putD` of a bitwise operation, and the three counts are the lengths
of their runs. -/
theorem logicAndCount : Obligations.LogicAndCount := by
  intro s c a b k8 k9
  -- The constants are the extended words that the meanings read (30 R220).
  rw [← zext9_eq, ← zext8_eq]
  refine ⟨?andConst, ?and, ?andConst16, ?and16, ?andnConst, ?andn, ?nandConst, ?nand, ?norConst, ?nor, ?orConst, ?or,
    ?orConst16, ?or16, ?ornConst, ?orn, ?xnorConst, ?xnor, ?xorConst, ?xor, ?not, ?clz, ?clo, ?cls⟩
  case andConst | and | andConst16 | and16 => exact bitsTo_putD rfl fun _ _ => BitVec.getLsbD_and
  case orConst | or | orConst16 | or16 => exact bitsTo_putD rfl fun _ _ => BitVec.getLsbD_or
  case xorConst | xor => exact bitsTo_putD rfl fun _ _ => BitVec.getLsbD_xor
  case not => exact bitsTo_putD rfl fun _ hk => getLsbD_not_of_lt _ hk
  -- One of the two sources complemented.
  case andnConst | andn =>
    exact bitsTo_putD rfl fun _ hk => by rw [BitVec.getLsbD_and, getLsbD_not_of_lt _ hk]
  case ornConst | orn =>
    exact bitsTo_putD rfl fun _ hk => by rw [BitVec.getLsbD_or, getLsbD_not_of_lt _ hk]
  -- The result complemented.
  case nandConst | nand =>
    exact bitsTo_putD rfl fun _ hk => by rw [getLsbD_not_of_lt _ hk, BitVec.getLsbD_and]
  case norConst | nor =>
    exact bitsTo_putD rfl fun _ hk => by rw [getLsbD_not_of_lt _ hk, BitVec.getLsbD_or]
  case xnorConst | xnor =>
    exact bitsTo_putD rfl fun _ hk => by rw [getLsbD_not_of_lt _ hk, BitVec.getLsbD_xor]
  case clz => exact ⟨_, leadingRun_leadingZeros _, movesTo_putD rfl⟩
  case clo => exact ⟨_, leadingRun_leadingOnes _, movesTo_putD rfl⟩
  case cls => exact ⟨_, leadingRun_leadingSigns _ (by omega), movesTo_putD rfl⟩

/-! ## Shifts (42 R468 to R471) -/

/-- The low bits of a word read as a signed number. -/
theorem toInt_setWidth_eq_signedField {w : Nat} (n : Nat) (x : BitVec w) :
    (x.setWidth n).toInt = signedField n x.toNat := by
  rw [BitVec.toInt_eq_toNat_cond, BitVec.toNat_setWidth, signedField]
  push_cast
  rfl

theorem shiftCount6_eq (x : Word) : shiftCount6 x = signedField 6 x.toNat := toInt_setWidth_eq_signedField 6 x

theorem shiftCount6_const9 (k : BitVec 9) : shiftCount6 (k.setWidth 32) = signedField 6 k.toNat := by
  rw [shiftCount6, BitVec.setWidth_setWidth_of_le k (by omega), toInt_setWidth_eq_signedField]

theorem shiftCount4_const4 (k : BitVec 4) : shiftCount4 (k.setWidth 32) = k.toInt := by
  rw [shiftCount4, BitVec.setWidth_setWidth_of_le k (by omega), BitVec.setWidth_eq]

theorem shiftArith_eq_shifted {n : Nat} (x : BitVec n) (cnt : Int) : shiftArith x cnt = shifted x.toInt cnt := rfl

theorem shiftLogical_eq_ofInt {n : Nat} (x : BitVec n) (cnt : Int) :
    shiftLogical x cnt = BitVec.ofInt n (shifted x.toNat cnt) := by
  unfold shiftLogical shifted
  split
  next => rw [← ofInt_shiftLeft, BitVec.ofInt_natCast, BitVec.ofNat_toNat, BitVec.setWidth_eq]
  next =>
    rw [← Nat.cast_ofNat, ← Nat.cast_pow, ← Int.natCast_ediv, BitVec.ofInt_natCast, ← Nat.shiftRight_eq_div_pow,
      ← BitVec.toNat_ushiftRight, BitVec.ofNat_toNat, BitVec.setWidth_eq]

theorem shiftCarry_iff (x : Word) (cnt : Int) : shiftCarry x cnt = true ↔ ShiftsOut x.toNat cnt := by
  unfold shiftCarry ShiftsOut
  split <;> rw [bne_iff_ne] <;> norm_cast

/-- Settles O12: each instruction writes the value of its shift over integers, and C of SHA is a 1 among the bits shifted
out. -/
theorem shiftWord : Obligations.ShiftWord := by
  intro s c a b k4 k9
  unfold State.uD
  -- The counts are those that the meanings read (42 R468).
  rw [← shiftCount6_const9, ← shiftCount6_eq, ← shiftCount4_const4]
  refine ⟨?shConst, ?shaConst, ?shasConst, ?sh, ?sha, ?shas, ?sh16, ?sha16⟩
  case shConst | sh | sh16 => rw [← shiftLogical_eq_ofInt]; exact movesTo_putD rfl
  case shaConst | sha | sha16 =>
    exact signedCarryTo_putResultC rfl (shiftArith_eq_shifted _ _) (shiftCarry_iff _ _)
  case shasConst | shas => exact signedSatTo_putResult rfl (shiftArith_eq_shifted _ _)

/-! ## Bit fields (42 R480 to R485) -/

theorem field5_eq (x : Word) : field5 x = x.toNat % 32 := BitVec.toNat_setWidth 5 x

theorem field5_lt (x : Word) : field5 x < 32 := (x.setWidth 5).isLt

theorem getLsbD_fieldMask (width : Nat) {k : Nat} (hk : k < 32) :
    (fieldMask width).getLsbD k = decide (k < width) := by
  rw [fieldMask, BitVec.getLsbD_ofNat, decide_eq_true hk, Bool.true_and, Nat.testBit_two_pow_sub_one]

theorem getLsbD_extractField (x : Word) (pos width : Nat) {k : Nat} (hk : k < 32) :
    (extractField x pos width).getLsbD k = (decide (k < width) && x.getLsbD (pos + k)) := by
  rw [extractField, BitVec.getLsbD_and, BitVec.getLsbD_ushiftRight, getLsbD_fieldMask width hk, Bool.and_comm]

/-- The bits from the top of the field up repeat its top bit; an empty field is 0 (42 R481). -/
theorem getLsbD_extractFieldSigned (x : Word) (pos width : Nat) {k : Nat} (hk : k < 32) :
    (extractFieldSigned x pos width).getLsbD k =
      (decide (width ≠ 0) && x.getLsbD (pos + min k (width - 1))) := by
  unfold extractFieldSigned
  split
  next h0 => simp [h0]
  next hpos =>
    have hwidth : 0 < width := Nat.pos_of_ne_zero hpos
    rw [BitVec.getLsbD_signExtend, decide_eq_true hk, decide_eq_true hpos, Bool.true_and, Bool.true_and]
    split
    next hlt =>
      rw [BitVec.getLsbD_setWidth, getLsbD_extractField x pos width hk, decide_eq_true hlt,
        min_eq_left (by omega), Bool.true_and, Bool.true_and]
    next hge =>
      have htop : width - 1 < width := by omega
      rw [BitVec.msb_eq_getLsbD_last, BitVec.getLsbD_setWidth, getLsbD_extractField x pos width (by omega),
        decide_eq_true htop, min_eq_right (by omega), Bool.true_and, Bool.true_and]

/-- A word moved up to a position (42 R480). -/
theorem getLsbD_shiftLeft_of_lt (x : Word) (pos : Nat) {k : Nat} (hk : k < 32) :
    (x <<< pos).getLsbD k = (decide (pos ≤ k) && x.getLsbD (k - pos)) := by
  rw [BitVec.getLsbD_shiftLeft, decide_eq_true hk, Bool.true_and, ← decide_not]
  simp only [not_lt]

theorem getLsbD_fieldMask_shiftLeft (pos width : Nat) {k : Nat} (hk : k < 32) :
    (fieldMask width <<< pos).getLsbD k = decide (pos ≤ k ∧ k < pos + width) := by
  rw [getLsbD_shiftLeft_of_lt _ pos hk, getLsbD_fieldMask width (by omega), ← Bool.decide_and, decide_eq_decide]
  omega

theorem getLsbD_insertField (x src : Word) (pos width : Nat) {k : Nat} (hk : k < 32) :
    (insertField x src pos width).getLsbD k =
      if pos ≤ k ∧ k < pos + width then src.getLsbD (k - pos) else x.getLsbD k := by
  rw [insertField, BitVec.getLsbD_or, BitVec.getLsbD_and, BitVec.getLsbD_and, getLsbD_not_of_lt _ hk,
    getLsbD_fieldMask_shiftLeft pos width hk, getLsbD_shiftLeft_of_lt src pos hk]
  split
  next hin => simp [hin]
  next hout => simp [hout]

theorem getLsbD_extractDouble (x y : Word) {pos : Nat} (hpos : pos < 32) {k : Nat} (hk : k < 32) :
    (extractDouble x y pos).getLsbD k =
      if pos ≤ k then x.getLsbD (k - pos) else y.getLsbD (32 + k - pos) := by
  have hup : 32 + k < 64 := by omega
  have hnot : ¬ 32 + k < pos := by omega
  rw [extractDouble, BitVec.getLsbD_extractLsb', BitVec.getLsbD_shiftLeft, BitVec.getLsbD_append]
  simp only [hk, hup, hnot, decide_true, decide_false, Bool.not_false, Bool.true_and]
  split
  next hlow => rw [if_neg (by omega)]
  next hhigh => rw [if_pos (by omega), show 32 + k - pos - 32 = k - pos by omega]

/-- E[c] <- the mask and the value moved up to the position (42 R485). -/
theorem movesPairTo_insertMask {i : Instr} {s : State} {c : Reg} {len src : Word} {pos width : Nat}
    (h : exec i s = .next (s.putE c (insertMask src pos width) len)) :
    ∃ m v : Word, MovesPairTo i s c len (m ++ v) ∧
      (∀ k, k < 32 → m.getLsbD k = decide (pos ≤ k ∧ k < pos + width)) ∧
      (∀ k, k < 32 → v.getLsbD k = (decide (pos ≤ k) && src.getLsbD (k - pos))) :=
  ⟨_, _, movesPairTo_putE h, fun _ hk => getLsbD_fieldMask_shiftLeft pos width hk,
    fun _ hk => getLsbD_shiftLeft_of_lt src pos hk⟩

/-- Settles O13: each instruction writes the word, or IMASK the pair, of its function of Machine/Logic.lean, whose bits are
those of the statement. -/
theorem bitFields : Obligations.BitFields := by
  intro s c d a b k4 p w
  -- Positions, widths and the constant are those that the meanings read (42 R480, 30 R220).
  rw [← field5_eq, ← field5_eq, ← zext4_eq]
  refine ⟨?extr, ?extrPair, ?extrReg, ?extrU, ?extrUPair, ?extrUReg, ?dextr, ?dextrReg, ?insertConst, ?insertConstPair,
    ?insertConstReg, ?insert, ?insertPair, ?insertReg, ?imaskConst, ?imaskConstReg, ?imask, ?imaskReg⟩
  case extr | extrReg => exact bitsTo_putD rfl fun _ hk => getLsbD_extractFieldSigned _ _ _ hk
  case extrPair =>
    exact fun hd => bitsTo_putD (onPairs_of_even hd) fun _ hk => getLsbD_extractFieldSigned _ _ _ hk
  case extrU | extrUReg => exact bitsTo_putD rfl fun _ hk => getLsbD_extractField _ _ _ hk
  case extrUPair => exact fun hd => bitsTo_putD (onPairs_of_even hd) fun _ hk => getLsbD_extractField _ _ _ hk
  case dextr => exact bitsTo_putD rfl fun _ hk => getLsbD_extractDouble _ _ p.isLt hk
  case dextrReg => exact bitsTo_putD rfl fun _ hk => getLsbD_extractDouble _ _ (field5_lt _) hk
  case insertConst | insertConstReg | insert | insertReg =>
    exact bitsTo_putD rfl fun _ hk => getLsbD_insertField _ _ _ _ hk
  case insertConstPair | insertPair =>
    exact fun hd => bitsTo_putD (onPairs_of_even hd) fun _ hk => getLsbD_insertField _ _ _ _ hk
  case imaskConst | imaskConstReg | imask | imaskReg =>
    exact fun hc => movesPairTo_insertMask (onPairs_of_even hc)

end Sys2Proof.Machine
end

section
/-! The Q-format multiplications of spec/43_dsp_arithmetic.md: the refused shift fields (O17), the results of one word (O14)
and of two (O15), and the accumulators of 64 bits (O16). The functions on halfwords of Machine/Dsp.lean and
Machine/Flags.lean are characterised first, by their value over integers. -/

namespace Sys2Proof.Machine

open Sys2Proof

/-! ## The shift field (43 R500) -/

theorem onQShift_of_lt {n : BitVec 2} {o : Out} (h : n.toNat < 2) : onQShift n o = o :=
  onQShift_of_le (Nat.le_of_lt_succ h)

theorem onQShift_of_two_le {n : BitVec 2} {o : Out} (h : 2 ≤ n.toNat) :
    onQShift n o = .refused .undefinedShiftField := by
  have hn : n = 2 ∨ n = 3 := by bv_omega
  rcases hn with rfl | rfl <;> rfl

/-- Settles O17: the meaning of each form is guarded by `onQShift`. -/
theorem fractionalShiftRefused : Obligations.FractionalShiftRefused := by
  intro s c d a b n hn
  have refused : ∀ o : Out, onQShift n o = .refused .undefinedShiftField := fun _ => onQShift_of_two_le hn
  exact ⟨refused _, refused _, refused _, refused _, refused _, refused _, refused _, refused _, refused _, refused _,
    refused _, refused _, refused _, refused _, refused _, refused _, refused _, refused _, refused _, refused _⟩

/-! ## Halfwords and integers (43 R501) -/

theorem toInt_hiHalf (x : Word) : (hiHalf x).toInt = x.toInt / 2 ^ 16 := by
  have := x.isLt
  rw [BitVec.toInt_eq_toNat_cond, BitVec.toInt_eq_toNat_cond, toNat_hiHalf]
  split <;> split <;> omega

theorem toInt_loHalf (x : Word) : (loHalf x).toInt = signedField 16 x.toNat := by
  have hlow : loHalf x = x.setWidth 16 := BitVec.eq_of_toNat_eq (by rw [toNat_loHalf, BitVec.toNat_setWidth])
  rw [hlow, toInt_setWidth_eq_signedField]

/-- The high halves of two words side by side. -/
theorem hiHalf_append_hiHalf (y z : Int) :
    hiHalf (BitVec.ofInt 32 y) ++ hiHalf (BitVec.ofInt 32 z) =
      BitVec.ofInt 32 (y / 2 ^ 16 * 2 ^ 16 + z / 2 ^ 16 % 2 ^ 16) := by
  have hy := natCast_toNat_ofInt 32 y
  have hz := natCast_toNat_ofInt 32 z
  have hyz := natCast_toNat_ofInt 32 (y / 2 ^ 16 * 2 ^ 16 + z / 2 ^ 16 % 2 ^ 16)
  apply BitVec.eq_of_toNat_eq
  rw [toNat_append_add, toNat_hiHalf, toNat_hiHalf]
  omega

/-- The high half of a word above zeros. -/
theorem hiHalf_append_zero (z : Int) :
    hiHalf (BitVec.ofInt 32 z) ++ (0 : BitVec 16) = BitVec.ofInt 32 (z / 2 ^ 16 * 2 ^ 16) := by
  rw [show (0 : BitVec 16) = hiHalf (BitVec.ofInt 32 0) from rfl, hiHalf_append_hiHalf, Int.zero_ediv, Int.zero_emod,
    Int.add_zero]

/-- The low half of a word does not reach its two top bits. -/
theorem topBitsDiffer_hiHalf_append (x : Word) (y : BitVec 16) : TopBitsDiffer (hiHalf x ++ y) ↔ TopBitsDiffer x := by
  unfold TopBitsDiffer hiHalf
  rw [BitVec.getLsbD_append, BitVec.getLsbD_append, BitVec.getLsbD_extractLsb', BitVec.getLsbD_extractLsb']
  rfl

/-! ## Products of fractions (43 R500, R512) -/

/-- The halfword that stands for the fraction -1. -/
theorem eq_minusOne_iff (x : BitVec 16) : x = 0x8000 ↔ x.toInt = -2 ^ 15 := BitVec.toInt_inj.symm

theorem qmul_eq_qProduct (x y : BitVec 16) (n : BitVec 2) : qmul x y n = qProduct x.toInt y.toInt n := by
  unfold qmul qProduct
  simp only [eq_minusOne_iff]
  rfl

theorem State.qHi_eq (s : State) (a b : Reg) (n : BitVec 2) : s.qHi a b n = qProduct (highInt s a) (highInt s b) n := by
  rw [State.qHi, qmul_eq_qProduct, toInt_hiHalf, toInt_hiHalf]
  rfl

theorem State.qLo_eq (s : State) (a b : Reg) (n : BitVec 2) : s.qLo a b n = qProduct (lowInt s a) (lowInt s b) n := by
  rw [State.qLo, qmul_eq_qProduct, toInt_loHalf, toInt_loHalf]
  rfl

theorem State.pHi_eq (s : State) (a b : Reg) : s.pHi a b = highInt s a * highInt s b := by
  rw [State.pHi, toInt_hiHalf, toInt_hiHalf]
  rfl

theorem State.pLo_eq (s : State) (a b : Reg) : s.pLo a b = lowInt s a * lowInt s b := by
  rw [State.pLo, toInt_loHalf, toInt_loHalf]
  rfl

/-- -1 * -1 is the only product of two fractions that reaches 1. -/
theorem toInt_mul_toInt_lt {x y : BitVec 16} (h : ¬ (x = 0x8000 ∧ y = 0x8000)) : x.toInt * y.toInt < 2 ^ 30 := by
  have hxlo : -2 ^ 15 ≤ x.toInt := x.le_toInt
  have hxhi : x.toInt < 2 ^ 15 := x.toInt_lt
  have hylo : -2 ^ 15 ≤ y.toInt := y.le_toInt
  have hyhi : y.toInt < 2 ^ 15 := y.toInt_lt
  rw [eq_minusOne_iff, eq_minusOne_iff] at h
  rcases not_and_or.1 h with hx | hy
  · have : -2 ^ 15 < x.toInt := lt_of_le_of_ne hxlo (Ne.symm hx)
    nlinarith
  · have : -2 ^ 15 < y.toInt := lt_of_le_of_ne hylo (Ne.symm hy)
    nlinarith

/-- A product of two fractions fits a word, since the one that does not is replaced. -/
theorem qmul_fits (x y : BitVec 16) {n : BitVec 2} (hn : n.toNat < 2) : ¬ OutsideSigned 32 (qmul x y n) := by
  have hlo := BitVec.le_toInt_mul_toInt (x := x) (y := y)
  have hhi := BitVec.toInt_mul_toInt_le (x := x) (y := y)
  have hn : n = 0 ∨ n = 1 := by bv_omega
  unfold qmul OutsideSigned
  split
  next => omega
  next hmin =>
    rcases hn with rfl | rfl
    · rw [show (0 : BitVec 2).toNat = 0 from rfl]
      omega
    · have hlt := toInt_mul_toInt_lt fun h => hmin ⟨rfl, h⟩
      rw [show (1 : BitVec 2).toNat = 1 from rfl]
      omega

/-- Rounding leaves a multiple of 2^16 (00 R27). -/
theorem rounded_ediv_mul (r : Int) : rounded r / 2 ^ 16 * 2 ^ 16 = rounded r := by
  unfold rounded
  omega

/-! ## Accumulators of 64 bits (43 R512, R517, R522, R527) -/

/-- Settles O16: with even pairs each instruction writes the wrapped result of an integer, the sum or the difference of the
statement. -/
theorem fractionalAccumulate : Obligations.FractionalAccumulate := by
  intro s c d a b
  unfold signedPair
  rw [← State.sE_eq, ← State.pHi_eq, ← State.pLo_eq]
  refine ⟨?maddmQ, ?maddmH, ?msubmQ, ?msubmH⟩
  case maddmQ | maddmH | msubmQ | msubmH =>
    exact fun hc hd => signedPairTo_putResultE (onPairs_of_both_even hc hd)

/-! ## Results of 32 bits that wrap or saturate (43 R502) -/

/-- The result `q` is that of the integer `r`, which `f` wraps or saturates, with the flags of the statements. -/
def Result.IsSigned (q : Result 32) (f : Int → Int) (r : Int) : Prop :=
  q.value = BitVec.ofInt 32 (f r) ∧ (q.v = true ↔ OutsideSigned 32 r) ∧
    (q.av = true ↔ TopBitsDiffer (BitVec.ofInt 32 (f r)))

theorem signedResult_isSigned (r : Int) : (signedResult 32 r).IsSigned id r :=
  ⟨rfl, overflowSigned_iff 32 r, advOverflow_iff _⟩

theorem signedSatResult_isSigned (r : Int) : (signedSatResult 32 r).IsSigned (clampSigned 32) r := by
  unfold Result.IsSigned clampSigned
  rw [← ssov_eq_clamp]
  exact ⟨rfl, overflowSigned_iff 32 r, advOverflow_iff _⟩

/-- D[c] <- a result whose AV is not that of the word written. -/
theorem arithPackTo_putResult {i : Instr} {s : State} {c : Reg} {v : Word} {q : Result 32} {ov av : Prop}
    (h : exec i s = .next (s.putResult c q 4)) (hv : q.value = v) (ho : q.v = true ↔ ov) (ha : q.av = true ↔ av) :
    ArithPackTo i s c v ov av := by
  subst hv
  exact ⟨_, h, fun r => State.getD_putResult s c q 4 r, fun _ => rfl, overflowFlags_setOverflow rfl ho ha,
    Psw.c_setOverflow s.psw q.v q.av, statusKept_setOverflow rfl, rfl, RestKept.refl s⟩

/-- D[c] <- the high halfword of a rounded result (43 R505). -/
theorem arithTo_highResult {i : Instr} {s : State} {c : Reg} {q : Result 32} {f : Int → Int} {r : Int}
    (h : exec i s = .next (s.putResult c (highResult q) 4)) (hq : q.IsSigned f r) :
    ArithTo i s c 4 (BitVec.ofInt 32 (f r / 2 ^ 16 * 2 ^ 16)) (OutsideSigned 32 r) CarryKept := by
  obtain ⟨hvalue, hv, hav⟩ := hq
  have hword : (highResult q).value = BitVec.ofInt 32 (f r / 2 ^ 16 * 2 ^ 16) := by
    rw [highResult, hvalue, hiHalf_append_zero]
  refine arithPackTo_putResult h hword hv (hav.trans ?_)
  rw [← hiHalf_append_zero, topBitsDiffer_hiHalf_append]

/-- E[c] <- two word results (43 R506). -/
theorem twoWordsTo_packWordResults {i : Instr} {s : State} {c : Reg} {q1 q0 : Result 32} {f : Int → Int} {r1 r0 : Int}
    (h : exec i s = .next (s.putResultE c (packWordResults q1 q0) 4)) (h1 : q1.IsSigned f r1) (h0 : q0.IsSigned f r0) :
    TwoWordsTo i s c f r1 r0 := by
  obtain ⟨hvalue1, hv1, hav1⟩ := h1
  obtain ⟨hvalue0, hv0, hav0⟩ := h0
  exact arithPairTo_putResultE h (congrArg₂ (· ++ ·) hvalue1 hvalue0) (Bool.or_eq_true_iff.trans (or_congr hv1 hv0))
    (Bool.or_eq_true_iff.trans (or_congr hav1 hav0))

/-- D[c] <- the high halfwords of two rounded results (43 R507). -/
theorem twoHighTo_packHighResults {i : Instr} {s : State} {c : Reg} {q1 q0 : Result 32} {f : Int → Int} {r1 r0 : Int}
    (h : exec i s = .next (s.putResult c (packHighResults q1 q0) 4)) (h1 : q1.IsSigned f r1) (h0 : q0.IsSigned f r0) :
    TwoHighTo i s c f r1 r0 := by
  obtain ⟨hvalue1, hv1, hav1⟩ := h1
  obtain ⟨hvalue0, hv0, hav0⟩ := h0
  refine arithPackTo_putResult h ?_ (Bool.or_eq_true_iff.trans (or_congr hv1 hv0))
    (Bool.or_eq_true_iff.trans (or_congr hav1 hav0))
  rw [packHighResults, hvalue1, hvalue0, hiHalf_append_hiHalf]

/-! ## The Q forms (43 R504, R505, R508 to R511, R518 to R521) -/

/-- A rounded result that wraps is kept whole, since its low halfword is 0. -/
theorem signedTo_highResult {i : Instr} {s : State} {c : Reg} {r : Int}
    (h : exec i s = .next (s.putResult c (highResult (signedResult 32 (round16 r))) 4)) : SignedTo i s c 4 (rounded r) := by
  have := arithTo_highResult h (signedResult_isSigned (rounded r))
  rwa [id, rounded_ediv_mul] at this

/-- Settles O14: with a defined shift each instruction writes the wrapped or the saturated result of an integer, or its high
halfword where it rounds, and this integer is the one of the statement; a product alone always fits. -/
theorem fractionalWord : Obligations.FractionalWord := by
  intro s c d a b n
  rw [← State.qHi_eq]
  refine ⟨?mul, ?mulr, ?madd, ?madds, ?maddr, ?maddrs, ?msub, ?msubs, ?msubr, ?msubrs⟩
  case mul =>
    intro hn
    have hfit : ¬ OutsideSigned 32 (s.qHi a b n) := qmul_fits _ _ hn
    rw [← eq_false hfit]
    exact signedTo_putResult (onQShift_of_lt hn) rfl
  case madd | msub => exact fun hn => signedTo_putResult (onQShift_of_lt hn) rfl
  case madds | msubs => exact fun hn => signedSatTo_putResult (onQShift_of_lt hn) rfl
  case mulr | maddr | msubr => exact fun hn => signedTo_highResult (onQShift_of_lt hn)
  case maddrs | msubrs => exact fun hn => arithTo_highResult (onQShift_of_lt hn) (signedSatResult_isSigned _)

/-! ## The H forms (43 R506, R507, R513 to R516, R523 to R526) -/

/-- Settles O15: with a defined shift and even pairs each instruction writes two results side by side, or their high
halfwords where it rounds, each the wrapped or the saturated result of the integer of the statement; a product alone always
fits. -/
theorem fractionalPair : Obligations.FractionalPair := by
  intro s c d a b n
  rw [← State.qHi_eq, ← State.qLo_eq]
  refine ⟨?mul, ?mulr, ?madd, ?madds, ?maddr, ?maddrs, ?msub, ?msubs, ?msubr, ?msubrs⟩
  case mul =>
    intro hn hc
    have hfit : ¬ (OutsideSigned 32 (s.qHi a b n) ∨ OutsideSigned 32 (s.qLo a b n)) :=
      not_or.2 ⟨qmul_fits _ _ hn, qmul_fits _ _ hn⟩
    rw [← eq_false hfit]
    change TwoWordsTo _ s c id (s.qHi a b n) (s.qLo a b n)
    exact twoWordsTo_packWordResults ((onQShift_of_lt hn).trans (onPairs_of_even hc)) (signedResult_isSigned _)
      (signedResult_isSigned _)
  case mulr =>
    exact fun hn => twoHighTo_packHighResults (onQShift_of_lt hn) (signedResult_isSigned _) (signedResult_isSigned _)
  case madd | msub =>
    exact fun hn hc hd => twoWordsTo_packWordResults ((onQShift_of_lt hn).trans (onPairs_of_both_even hc hd))
      (signedResult_isSigned _) (signedResult_isSigned _)
  case madds | msubs =>
    exact fun hn hc hd => twoWordsTo_packWordResults ((onQShift_of_lt hn).trans (onPairs_of_both_even hc hd))
      (signedSatResult_isSigned _) (signedSatResult_isSigned _)
  case maddr | msubr =>
    exact fun hn hd => twoHighTo_packHighResults ((onQShift_of_lt hn).trans (onPairs_of_even hd))
      (signedResult_isSigned _) (signedResult_isSigned _)
  case maddrs | msubrs =>
    exact fun hn hd => twoHighTo_packHighResults ((onQShift_of_lt hn).trans (onPairs_of_even hd))
      (signedSatResult_isSigned _) (signedSatResult_isSigned _)

end Sys2Proof.Machine
end

section
/-! The packed instructions of spec/44_packed_arithmetic.md: the arithmetic with flags (O18), and the selections, counts and
logical shifts without (O19). Every meaning maps a function over the elements of its sources, so that what each proof shows is
this function at one element. -/

namespace Sys2Proof.Machine

open Sys2Proof

/-! ## Elements (44 R550, R551) -/

theorem byteElem_eq_element (x : Word) (k : Nat) : byteElem x k = element 8 x k :=
  congrArg (BitVec.ofNat 8) (Nat.shiftRight_eq_div_pow x.toNat (8 * k))

theorem halfElem_eq_element (x : Word) (k : Nat) : halfElem x k = element 16 x k :=
  congrArg (BitVec.ofNat 16) (Nat.shiftRight_eq_div_pow x.toNat (16 * k))

/-- D[c] <- the byte elements of an operation without flags. -/
theorem movesTo_mapBytes {i : Instr} {s : State} {c : Reg} {g : BitVec 8 → BitVec 8 → BitVec 8} {x y : Word}
    {f : Nat → BitVec 8} (h : exec i s = .next (s.putD c (mapBytes g x y) 4))
    (hf : ∀ k, g (element 8 x k) (element 8 y k) = f k) : MovesTo i s c 4 (ofBytes f) := by
  have hvalue : mapBytes g x y = ofBytes f := by
    simp only [mapBytes, byteElem_eq_element, hf, packBytes_eq_ofBytes]
  exact hvalue ▸ movesTo_putD h

/-- D[c] <- the halfword elements of an operation without flags. -/
theorem movesTo_mapHalves {i : Instr} {s : State} {c : Reg} {g : BitVec 16 → BitVec 16 → BitVec 16} {x y : Word}
    {f : Nat → BitVec 16} (h : exec i s = .next (s.putD c (mapHalves g x y) 4))
    (hf : ∀ k, g (element 16 x k) (element 16 y k) = f k) : MovesTo i s c 4 (ofHalves f) := by
  have hvalue : mapHalves g x y = ofHalves f := by
    simp only [mapHalves, halfElem_eq_element, hf, packHalves_eq_ofHalves]
  exact hvalue ▸ movesTo_putD h

/-! ## The result of one element (10 R60 to R63) -/

/-- The result writes `v`, its V says whether `ov`, and its AV is that of the value written. -/
structure Result.Gives {n : Nat} (q : Result n) (v : BitVec n) (ov : Prop) : Prop where
  value_eq : q.value = v
  v_iff : q.v = true ↔ ov
  av_eq : q.av = advOverflow v

theorem signedResult_gives {n : Nat} {r r' : Int} (hr : r' = r) :
    (signedResult n r').Gives (BitVec.ofInt n r) (OutsideSigned n r) := by
  subst hr
  exact ⟨rfl, overflowSigned_iff n r', rfl⟩

theorem signedSatResult_gives {n : Nat} {r r' : Int} (hr : r' = r) :
    (signedSatResult n r').Gives (BitVec.ofInt n (clampSigned n r)) (OutsideSigned n r) := by
  subst hr
  unfold clampSigned
  rw [← ssov_eq_clamp]
  exact ⟨rfl, overflowSigned_iff n r', rfl⟩

theorem unsignedSatResult_gives {n : Nat} {r r' : Int} (hr : r' = r) :
    (unsignedSatResult n r').Gives (BitVec.ofInt n (clampUnsigned n r)) (OutsideUnsigned n r) := by
  subst hr
  unfold clampUnsigned
  rw [← suov_eq_clamp]
  exact ⟨rfl, overflowUnsigned_iff n r', rfl⟩

/-- D[c] <- the byte elements of an operation with flags. -/
theorem bytesTo_byteResults {i : Instr} {s : State} {c : Reg} {g : BitVec 8 → BitVec 8 → Result 8} {x y : Word}
    {f : Nat → BitVec 8} {ov : Nat → Prop} (h : exec i s = .next (s.putResult c (byteResults g x y) 4))
    (hg : ∀ k, (g (element 8 x k) (element 8 y k)).Gives (f k) (ov k)) : BytesTo i s c f ov := by
  simp only [byteResults, byteElem_eq_element] at h
  exact bytesTo_putResult h (fun k _ => (hg k).value_eq) (fun k _ => (hg k).v_iff) fun k _ => (hg k).av_eq

/-- D[c] <- the halfword elements of an operation with flags. -/
theorem halvesTo_halfResults {i : Instr} {s : State} {c : Reg} {g : BitVec 16 → BitVec 16 → Result 16} {x y : Word}
    {f : Nat → BitVec 16} {ov : Nat → Prop} (h : exec i s = .next (s.putResult c (halfResults g x y) 4))
    (hg : ∀ k, (g (element 16 x k) (element 16 y k)).Gives (f k) (ov k)) : HalvesTo i s c f ov := by
  simp only [halfResults, halfElem_eq_element] at h
  exact halvesTo_putResult h (fun k _ => (hg k).value_eq) (fun k _ => (hg k).v_iff) fun k _ => (hg k).av_eq

/-! ## The counts of the packed shifts (44 R590) -/

theorem shiftCount4_eq (x : Word) : shiftCount4 x = signedField 4 x.toNat := toInt_setWidth_eq_signedField 4 x

theorem shiftCount5_eq (x : Word) : shiftCount5 x = signedField 5 x.toNat := toInt_setWidth_eq_signedField 5 x

theorem shiftCount4_const9 (k : BitVec 9) : shiftCount4 (k.setWidth 32) = signedField 4 k.toNat := by
  rw [shiftCount4, BitVec.setWidth_setWidth_of_le k (by omega), toInt_setWidth_eq_signedField]

theorem shiftCount5_const9 (k : BitVec 9) : shiftCount5 (k.setWidth 32) = signedField 5 k.toNat := by
  rw [shiftCount5, BitVec.setWidth_setWidth_of_le k (by omega), toInt_setWidth_eq_signedField]

/-! ## Arithmetic with flags (44 R555 to R565, R592) -/

/-- Settles O18: each instruction writes, per element, the wrapped or the saturated result of an integer, and this integer is
the true result of the statement. -/
theorem packedArithmetic : Obligations.PackedArithmetic := by
  intro s c a b k9
  -- The counts are those that the meanings read (44 R590).
  rw [← shiftCount4_const9, ← shiftCount4_eq, ← shiftCount5_const9, ← shiftCount5_eq]
  refine ⟨?absB, ?absH, ?abssB, ?abssH, ?absdifB, ?absdifH, ?absdifsB, ?absdifsH, ?addB, ?addH, ?addsB, ?addsH, ?addsBu,
    ?addsHu, ?subB, ?subH, ?subsB, ?subsH, ?subsBu, ?subsHu, ?shaBConst, ?shaB, ?shaHConst, ?shaH⟩
  case addB | subB => exact bytesTo_byteResults rfl fun _ => signedResult_gives rfl
  case addH | subH => exact halvesTo_halfResults rfl fun _ => signedResult_gives rfl
  case addsB | subsB => exact bytesTo_byteResults rfl fun _ => signedSatResult_gives rfl
  case addsH | subsH => exact halvesTo_halfResults rfl fun _ => signedSatResult_gives rfl
  case addsBu | subsBu => exact bytesTo_byteResults rfl fun _ => unsignedSatResult_gives rfl
  case addsHu | subsHu => exact halvesTo_halfResults rfl fun _ => unsignedSatResult_gives rfl
  -- The absolute value of an element, and of a difference of two.
  case absB => exact bytesTo_byteResults rfl fun _ => signedResult_gives (Int.natCast_natAbs _)
  case absH => exact halvesTo_halfResults rfl fun _ => signedResult_gives (Int.natCast_natAbs _)
  case abssB => exact bytesTo_byteResults rfl fun _ => signedSatResult_gives (Int.natCast_natAbs _)
  case abssH => exact halvesTo_halfResults rfl fun _ => signedSatResult_gives (Int.natCast_natAbs _)
  case absdifB => exact bytesTo_byteResults rfl fun _ => signedResult_gives (absDiff_eq_abs _ _)
  case absdifH => exact halvesTo_halfResults rfl fun _ => signedResult_gives (absDiff_eq_abs _ _)
  case absdifsB => exact bytesTo_byteResults rfl fun _ => signedSatResult_gives (absDiff_eq_abs _ _)
  case absdifsH => exact halvesTo_halfResults rfl fun _ => signedSatResult_gives (absDiff_eq_abs _ _)
  case shaBConst | shaB => exact bytesTo_byteResults rfl fun _ => signedResult_gives (shiftArith_eq_shifted _ _)
  case shaHConst | shaH => exact halvesTo_halfResults rfl fun _ => signedResult_gives (shiftArith_eq_shifted _ _)

/-! ## Selections, counts and logical shifts (44 R570 to R573, R580 to R582, R591) -/

/-- An element is the element of its signed value. -/
theorem leftInverse_ofInt_sOf (n : Nat) : Function.LeftInverse (BitVec.ofInt n) (sOf (n := n)) :=
  fun _ => BitVec.ofInt_toInt

/-- An element is the element of its unsigned value. -/
theorem leftInverse_ofInt_uOf (n : Nat) : Function.LeftInverse (BitVec.ofInt n) (uOf (n := n)) := fun x => by
  rw [uOf, BitVec.ofInt_natCast, BitVec.ofNat_toNat, BitVec.setWidth_eq]

/-- `ofInt_max_eq_ite` at every width: the element that MAX selects is that of the maximum, for either value. -/
theorem ite_gt_eq_ofInt_max {n : Nat} {val : BitVec n → Int} (h : Function.LeftInverse (BitVec.ofInt n) val)
    (x y : BitVec n) : (if val x > val y then x else y) = BitVec.ofInt n (max (val x) (val y)) := by
  rw [max_comm, max_def_lt, apply_ite (BitVec.ofInt n), h x, h y]

/-- `ofInt_min_eq_ite` at every width: the element that MIN selects is that of the minimum, for either value. -/
theorem ite_lt_eq_ofInt_min {n : Nat} {val : BitVec n → Int} (h : Function.LeftInverse (BitVec.ofInt n) val)
    (x y : BitVec n) : (if val x < val y then x else y) = BitVec.ofInt n (min (val x) (val y)) := by
  rw [min_def_lt, apply_ite (BitVec.ofInt n), h x, h y]

/-- Settles O19: each instruction writes, per element, the element that its comparison selects, the length of its run or the
value of its shift over integers. -/
theorem packedSelectAndCount : Obligations.PackedSelectAndCount := by
  intro s c a b k9
  -- The counts are those that the meanings read (44 R590).
  rw [← shiftCount4_const9, ← shiftCount4_eq, ← shiftCount5_const9, ← shiftCount5_eq]
  refine ⟨?maxB, ?maxBu, ?minB, ?minBu, ?shBConst, ?shB, ?clzB, ?cloB, ?clsB, ?maxH, ?maxHu, ?minH, ?minHu, ?shHConst,
    ?shH, ?clzH, ?cloH, ?clsH⟩
  case maxB => exact movesTo_mapBytes rfl fun _ => ite_gt_eq_ofInt_max (leftInverse_ofInt_sOf 8) _ _
  case maxBu => exact movesTo_mapBytes rfl fun _ => ite_gt_eq_ofInt_max (leftInverse_ofInt_uOf 8) _ _
  case minB => exact movesTo_mapBytes rfl fun _ => ite_lt_eq_ofInt_min (leftInverse_ofInt_sOf 8) _ _
  case minBu => exact movesTo_mapBytes rfl fun _ => ite_lt_eq_ofInt_min (leftInverse_ofInt_uOf 8) _ _
  case maxH => exact movesTo_mapHalves rfl fun _ => ite_gt_eq_ofInt_max (leftInverse_ofInt_sOf 16) _ _
  case maxHu => exact movesTo_mapHalves rfl fun _ => ite_gt_eq_ofInt_max (leftInverse_ofInt_uOf 16) _ _
  case minH => exact movesTo_mapHalves rfl fun _ => ite_lt_eq_ofInt_min (leftInverse_ofInt_sOf 16) _ _
  case minHu => exact movesTo_mapHalves rfl fun _ => ite_lt_eq_ofInt_min (leftInverse_ofInt_uOf 16) _ _
  case shBConst | shB => exact movesTo_mapBytes rfl fun _ => shiftLogical_eq_ofInt _ _
  case shHConst | shH => exact movesTo_mapHalves rfl fun _ => shiftLogical_eq_ofInt _ _
  -- The run is the one that the model counts in each element.
  case clzB => exact ⟨_, fun _ _ => leadingRun_leadingZeros _, movesTo_mapBytes rfl fun _ => rfl⟩
  case cloB => exact ⟨_, fun _ _ => leadingRun_leadingOnes _, movesTo_mapBytes rfl fun _ => rfl⟩
  case clsB => exact ⟨_, fun _ _ => leadingRun_leadingSigns _ (by omega), movesTo_mapBytes rfl fun _ => rfl⟩
  case clzH => exact ⟨_, fun _ _ => leadingRun_leadingZeros _, movesTo_mapHalves rfl fun _ => rfl⟩
  case cloH => exact ⟨_, fun _ _ => leadingRun_leadingOnes _, movesTo_mapHalves rfl fun _ => rfl⟩
  case clsH => exact ⟨_, fun _ _ => leadingRun_leadingSigns _ (by omega), movesTo_mapHalves rfl fun _ => rfl⟩

end Sys2Proof.Machine
end

section
/-! The compare and single-bit instructions of spec/45_compare_and_bit.md: the compares of words (O20) and of packed elements
(O21), the compares that accumulate or shift in their result (O22, O23), and the same for functions of two bits (O24, O25).
A meaning writes a Boolean plain, extended to an element, accumulated or shifted in (INS.T and INSN.T write a word with one
bit replaced), so that what each proof shows is the condition this Boolean decides. -/

namespace Sys2Proof.Machine

open Sys2Proof

/-! ## The conditions of the rules as Booleans -/

section
variable {x y : Bool} {p q : Prop}

theorem and_eq_true_iff_of_iff (hx : x = true ↔ p) (hy : y = true ↔ q) : (x && y) = true ↔ p ∧ q := by
  rw [Bool.and_eq_true, hx, hy]

theorem or_eq_true_iff_of_iff (hx : x = true ↔ p) (hy : y = true ↔ q) : (x || y) = true ↔ p ∨ q := by
  rw [Bool.or_eq_true, hx, hy]

theorem not_eq_true_iff_of_iff (hx : x = true ↔ p) : (!x) = true ↔ ¬ p := by
  rw [Bool.not_eq_true', ← Bool.not_eq_true, hx]

theorem beq_eq_true_iff_of_iff (hx : x = true ↔ p) (hy : y = true ↔ q) : (x == y) = true ↔ (p ↔ q) := by
  rw [beq_iff_eq, Bool.eq_iff_iff, hx, hy]

theorem bne_eq_true_iff_of_iff (hx : x = true ↔ p) (hy : y = true ↔ q) : (x != y) = true ↔ ¬ (p ↔ q) := by
  rw [bne_iff_ne, Ne, Bool.eq_iff_iff, hx, hy]

end

theorem bit0_iff (s : State) (r : Reg) : s.bit0 r = true ↔ BitOf s r 0 := Iff.rfl

theorem bitD_iff (s : State) (r : Reg) (p : BitVec 5) : s.bitD r p = true ↔ BitOf s r p.toNat := Iff.rfl

/-! ## Writing a condition (45 R620, R628, R647, R654, R676, R685) -/

theorem getLsbD_accumulate (x : Word) (b : Bool) (k : Nat) :
    (accumulate x b).getLsbD k = if k = 0 then b else x.getLsbD k :=
  getLsbD_setBit x 0 b k (by omega)

theorem getLsbD_shiftIn_zero (x : Word) (b : Bool) : (shiftIn x b).getLsbD 0 = b :=
  BitVec.getLsbD_append.trans (by simp)

theorem getLsbD_shiftIn_succ (x : Word) (b : Bool) {k : Nat} (hk : k < 31) :
    (shiftIn x b).getLsbD (k + 1) = x.getLsbD k :=
  BitVec.getLsbD_append.trans (by simp [hk])

/-- The extended boolean of a condition. -/
theorem extBool_eq_ite {n : Nat} {b : Bool} {p : Prop} [Decidable p] (hb : b = true ↔ p) :
    extBool n b = if p then BitVec.allOnes n else 0 :=
  if_congr hb rfl rfl

section
variable {i : Instr} {s : State} {c : Reg} {b : Bool} {p : Prop}

/-- D[c] <- 1 or 0. -/
theorem comparesTo_putD {len : Word} (h : exec i s = .next (s.putD c (boolWord b) len)) (hb : b = true ↔ p) :
    ComparesTo i s c len p := by
  refine ⟨fun hp => ?_, fun hp => ?_⟩
  · rw [hb.2 hp] at h
    exact movesTo_putD h
  · rw [Bool.eq_false_of_not_eq_true (mt hb.1 hp)] at h
    exact movesTo_putD h

/-- D[c] <- all ones or all zeros. -/
theorem movesTo_extBool [Decidable p] (h : exec i s = .next (s.putD c (extBool 32 b) 4)) (hb : b = true ↔ p) :
    MovesTo i s c 4 (if p then 0xFFFFFFFF else 0) := by
  rw [extBool_eq_ite hb] at h
  exact movesTo_putD h

/-- D[c] <- its old value with bit 0 replaced. -/
theorem accumulatesTo_putD (h : exec i s = .next (s.putD c (accumulate (s.getD c) b) 4)) (hb : b = true ↔ p) :
    AccumulatesTo i s c p := by
  refine ⟨_, ?_, fun k hpos _ => ?_, movesTo_putD h⟩
  · rw [getLsbD_accumulate, if_pos rfl, hb]
  · rw [getLsbD_accumulate, if_neg hpos.ne']

/-- D[c] <- its old value moved up by one, with a new bit 0. -/
theorem shiftsInTo_putD (h : exec i s = .next (s.putD c (shiftIn (s.getD c) b) 4)) (hb : b = true ↔ p) :
    ShiftsInTo i s c p := by
  refine ⟨_, ?_, fun k hk => getLsbD_shiftIn_succ _ b hk, movesTo_putD h⟩
  rw [getLsbD_shiftIn_zero, hb]

end

/-! ## Compares of words (45 R622 to R627, R657, R664, R665) -/

/-- Settles O20: each compare writes the Boolean of its condition, the .W forms its extended boolean. -/
theorem compareWords : Obligations.CompareWords := by
  intro s c a b k4 k9
  -- The constants are the extended words that the meanings read (30 R220).
  rw [← sext9_eq, ← sext4_eq, ← sext9_toInt, ← sext4_toInt, ← zext9_toNat, ← zext4_toNat]
  refine ⟨?eqConst, ?eq, ?neConst, ?ne, ?ltConst, ?lt, ?ltUConst, ?ltU, ?geConst, ?ge, ?geUConst, ?geU, ?eqConst16, ?eq16,
    ?ltConst16, ?lt16, ?ltUConst16, ?ltU16, ?eqW, ?ltW, ?ltWu⟩
  case eqConst | eq | eqConst16 | eq16 => exact comparesTo_putD rfl beq_iff_eq
  case neConst | ne => exact comparesTo_putD rfl bne_iff_ne
  case ltConst | lt | ltUConst | ltU | ltConst16 | lt16 | ltUConst16 | ltU16 | geConst | ge | geUConst | geU =>
    exact comparesTo_putD rfl decide_eq_true_iff
  case eqW => exact movesTo_extBool rfl beq_iff_eq
  case ltW | ltWu => exact movesTo_extBool rfl decide_eq_true_iff

/-! ## Compares of packed elements (45 R655, R656, R658 to R663) -/

theorem anyByteEqual_iff (x y : Word) :
    anyByteEqual x y = true ↔ ∃ k, k < 4 ∧ element 8 x k = element 8 y k := by
  simp only [anyByteEqual, byteElem_eq_element, Bool.or_eq_true, beq_iff_eq, Nat.exists_lt_succ_right, Nat.not_lt_zero,
    false_and, exists_false, false_or]
  tauto

theorem anyHalfEqual_iff (x y : Word) :
    anyHalfEqual x y = true ↔ ∃ k, k < 2 ∧ element 16 x k = element 16 y k := by
  simp only [anyHalfEqual, halfElem_eq_element, Bool.or_eq_true, beq_iff_eq, Nat.exists_lt_succ_right, Nat.not_lt_zero,
    false_and, exists_false, false_or]
  tauto

/-- Settles O21: each packed compare writes the extended booleans of its elements, and EQANY the Boolean of the condition
that two elements at one place agree. -/
theorem comparePacked : Obligations.ComparePacked := by
  intro s c a b k9
  -- The constant is the extended word that the meanings read (30 R220).
  rw [← sext9_eq]
  refine ⟨?eqB, ?ltB, ?ltBu, ?eqanyB, ?eqanyBConst, ?eqH, ?ltH, ?ltHu, ?eqanyH, ?eqanyHConst⟩
  case eqB => exact movesTo_mapBytes rfl fun _ => extBool_eq_ite beq_iff_eq
  case ltB | ltBu => exact movesTo_mapBytes rfl fun _ => extBool_eq_ite decide_eq_true_iff
  case eqH => exact movesTo_mapHalves rfl fun _ => extBool_eq_ite beq_iff_eq
  case ltH | ltHu => exact movesTo_mapHalves rfl fun _ => extBool_eq_ite decide_eq_true_iff
  case eqanyB | eqanyBConst => exact comparesTo_putD rfl (anyByteEqual_iff _ _)
  case eqanyH | eqanyHConst => exact comparesTo_putD rfl (anyHalfEqual_iff _ _)

/-! ## Compares that accumulate or shift in (45 R628 to R653) -/

/-- Settles O22: bit 0 gets the and or the or of the old bit 0 with the Boolean of the condition. -/
theorem compareAndOr : Obligations.CompareAndOr := by
  intro s c a b k9
  -- The constants are the extended words that the meanings read (30 R220).
  rw [← sext9_eq, ← sext9_toInt, ← zext9_toNat]
  refine ⟨?andEqConst, ?andEq, ?andNeConst, ?andNe, ?andLtConst, ?andLt, ?andLtUConst, ?andLtU, ?andGeConst, ?andGe,
    ?andGeUConst, ?andGeU, ?orEqConst, ?orEq, ?orNeConst, ?orNe, ?orLtConst, ?orLt, ?orLtUConst, ?orLtU, ?orGeConst, ?orGe,
    ?orGeUConst, ?orGeU⟩
  case andEqConst | andEq => exact accumulatesTo_putD rfl (and_eq_true_iff_of_iff (bit0_iff s c) beq_iff_eq)
  case andNeConst | andNe => exact accumulatesTo_putD rfl (and_eq_true_iff_of_iff (bit0_iff s c) bne_iff_ne)
  case andLtConst | andLt | andLtUConst | andLtU | andGeConst | andGe | andGeUConst | andGeU =>
    exact accumulatesTo_putD rfl (and_eq_true_iff_of_iff (bit0_iff s c) decide_eq_true_iff)
  case orEqConst | orEq => exact accumulatesTo_putD rfl (or_eq_true_iff_of_iff (bit0_iff s c) beq_iff_eq)
  case orNeConst | orNe => exact accumulatesTo_putD rfl (or_eq_true_iff_of_iff (bit0_iff s c) bne_iff_ne)
  case orLtConst | orLt | orLtUConst | orLtU | orGeConst | orGe | orGeUConst | orGeU =>
    exact accumulatesTo_putD rfl (or_eq_true_iff_of_iff (bit0_iff s c) decide_eq_true_iff)

/-- Settles O23: bit 0 gets the exclusive or of the old bit 0 with the Boolean of the condition, or this Boolean itself
behind the other bits. -/
theorem compareXorShift : Obligations.CompareXorShift := by
  intro s c a b k9
  -- The constants are the extended words that the meanings read (30 R220).
  rw [← sext9_eq, ← sext9_toInt, ← zext9_toNat]
  refine ⟨?xorEqConst, ?xorEq, ?xorNeConst, ?xorNe, ?xorLtConst, ?xorLt, ?xorLtUConst, ?xorLtU, ?xorGeConst, ?xorGe,
    ?xorGeUConst, ?xorGeU, ?shEqConst, ?shEq, ?shNeConst, ?shNe, ?shLtConst, ?shLt, ?shLtUConst, ?shLtU, ?shGeConst, ?shGe,
    ?shGeUConst, ?shGeU⟩
  case xorEqConst | xorEq => exact accumulatesTo_putD rfl (bne_eq_true_iff_of_iff (bit0_iff s c) beq_iff_eq)
  case xorNeConst | xorNe => exact accumulatesTo_putD rfl (bne_eq_true_iff_of_iff (bit0_iff s c) bne_iff_ne)
  case xorLtConst | xorLt | xorLtUConst | xorLtU | xorGeConst | xorGe | xorGeUConst | xorGeU =>
    exact accumulatesTo_putD rfl (bne_eq_true_iff_of_iff (bit0_iff s c) decide_eq_true_iff)
  case shEqConst | shEq => exact shiftsInTo_putD rfl beq_iff_eq
  case shNeConst | shNe => exact shiftsInTo_putD rfl bne_iff_ne
  case shLtConst | shLt | shLtUConst | shLtU | shGeConst | shGe | shGeUConst | shGeU =>
    exact shiftsInTo_putD rfl decide_eq_true_iff

/-! ## Functions of two bits (45 R667 to R695) -/

section
variable (s : State) (a b : Reg) (p1 p2 : BitVec 5)

theorem bitsAnd_iff : (s.bitD a p1 && s.bitD b p2) = true ↔ BitOf s a p1.toNat ∧ BitOf s b p2.toNat :=
  and_eq_true_iff_of_iff (bitD_iff s a p1) (bitD_iff s b p2)

theorem bitsAndn_iff : (s.bitD a p1 && !s.bitD b p2) = true ↔ BitOf s a p1.toNat ∧ ¬ BitOf s b p2.toNat :=
  and_eq_true_iff_of_iff (bitD_iff s a p1) (not_eq_true_iff_of_iff (bitD_iff s b p2))

theorem bitsOr_iff : (s.bitD a p1 || s.bitD b p2) = true ↔ BitOf s a p1.toNat ∨ BitOf s b p2.toNat :=
  or_eq_true_iff_of_iff (bitD_iff s a p1) (bitD_iff s b p2)

theorem bitsOrn_iff : (s.bitD a p1 || !s.bitD b p2) = true ↔ BitOf s a p1.toNat ∨ ¬ BitOf s b p2.toNat :=
  or_eq_true_iff_of_iff (bitD_iff s a p1) (not_eq_true_iff_of_iff (bitD_iff s b p2))

theorem bitsNand_iff : (!(s.bitD a p1 && s.bitD b p2)) = true ↔ ¬ (BitOf s a p1.toNat ∧ BitOf s b p2.toNat) :=
  not_eq_true_iff_of_iff (bitsAnd_iff s a b p1 p2)

theorem bitsNor_iff : (!(s.bitD a p1 || s.bitD b p2)) = true ↔ ¬ (BitOf s a p1.toNat ∨ BitOf s b p2.toNat) :=
  not_eq_true_iff_of_iff (bitsOr_iff s a b p1 p2)

theorem bitsXnor_iff : (s.bitD a p1 == s.bitD b p2) = true ↔ (BitOf s a p1.toNat ↔ BitOf s b p2.toNat) :=
  beq_eq_true_iff_of_iff (bitD_iff s a p1) (bitD_iff s b p2)

theorem bitsXor_iff : (s.bitD a p1 != s.bitD b p2) = true ↔ ¬ (BitOf s a p1.toNat ↔ BitOf s b p2.toNat) :=
  bne_eq_true_iff_of_iff (bitD_iff s a p1) (bitD_iff s b p2)

end

/-- Settles O24: each logical .T instruction writes the Boolean of its function of the two bits; INS.T and INSN.T write the
source with one bit replaced. -/
theorem bitOperations : Obligations.BitOperations := by
  intro s c a b p1 p2
  refine ⟨?and, ?andn, ?nand, ?nor, ?or, ?orn, ?xnor, ?xor, ?ins, ?insn⟩
  case and => exact comparesTo_putD rfl (bitsAnd_iff s a b p1 p2)
  case andn => exact comparesTo_putD rfl (bitsAndn_iff s a b p1 p2)
  case nand => exact comparesTo_putD rfl (bitsNand_iff s a b p1 p2)
  case nor => exact comparesTo_putD rfl (bitsNor_iff s a b p1 p2)
  case or => exact comparesTo_putD rfl (bitsOr_iff s a b p1 p2)
  case orn => exact comparesTo_putD rfl (bitsOrn_iff s a b p1 p2)
  case xnor => exact comparesTo_putD rfl (bitsXnor_iff s a b p1 p2)
  case xor => exact comparesTo_putD rfl (bitsXor_iff s a b p1 p2)
  case ins | insn => exact bitsTo_putD rfl fun k _ => getLsbD_setBit _ _ _ k p1.isLt

/-- Settles O25: bit 0 gets the and or the or of the old bit 0 with the function of the two bits, or SH.*.T puts this
function behind the other bits. -/
theorem bitAccumulateShift : Obligations.BitAccumulateShift := by
  intro s c a b p1 p2
  refine ⟨?andAnd, ?andAndn, ?andNor, ?andOr, ?orAnd, ?orAndn, ?orNor, ?orOr, ?shAnd, ?shAndn, ?shNand, ?shNor, ?shOr,
    ?shOrn, ?shXnor, ?shXor⟩
  case andAnd => exact accumulatesTo_putD rfl (and_eq_true_iff_of_iff (bit0_iff s c) (bitsAnd_iff s a b p1 p2))
  case andAndn => exact accumulatesTo_putD rfl (and_eq_true_iff_of_iff (bit0_iff s c) (bitsAndn_iff s a b p1 p2))
  case andNor => exact accumulatesTo_putD rfl (and_eq_true_iff_of_iff (bit0_iff s c) (bitsNor_iff s a b p1 p2))
  case andOr => exact accumulatesTo_putD rfl (and_eq_true_iff_of_iff (bit0_iff s c) (bitsOr_iff s a b p1 p2))
  case orAnd => exact accumulatesTo_putD rfl (or_eq_true_iff_of_iff (bit0_iff s c) (bitsAnd_iff s a b p1 p2))
  case orAndn => exact accumulatesTo_putD rfl (or_eq_true_iff_of_iff (bit0_iff s c) (bitsAndn_iff s a b p1 p2))
  case orNor => exact accumulatesTo_putD rfl (or_eq_true_iff_of_iff (bit0_iff s c) (bitsNor_iff s a b p1 p2))
  case orOr => exact accumulatesTo_putD rfl (or_eq_true_iff_of_iff (bit0_iff s c) (bitsOr_iff s a b p1 p2))
  case shAnd => exact shiftsInTo_putD rfl (bitsAnd_iff s a b p1 p2)
  case shAndn => exact shiftsInTo_putD rfl (bitsAndn_iff s a b p1 p2)
  case shNand => exact shiftsInTo_putD rfl (bitsNand_iff s a b p1 p2)
  case shNor => exact shiftsInTo_putD rfl (bitsNor_iff s a b p1 p2)
  case shOr => exact shiftsInTo_putD rfl (bitsOr_iff s a b p1 p2)
  case shOrn => exact shiftsInTo_putD rfl (bitsOrn_iff s a b p1 p2)
  case shXnor => exact shiftsInTo_putD rfl (bitsXnor_iff s a b p1 p2)
  case shXor => exact shiftsInTo_putD rfl (bitsXor_iff s a b p1 p2)

end Sys2Proof.Machine
end

section
/-! The address moves and compares of spec/46_address_arithmetic.md that write a data register (O27). None of them names an
address register to write, so that none checks for a system register (46 R700). -/

namespace Sys2Proof.Machine

open Sys2Proof

/-- `>>a` is the division rounded down of the signed value (46 R707). -/
theorem sshiftRight_eq_ofInt_div (x : Word) (n : Nat) : x.sshiftRight n = BitVec.ofInt 32 (x.toInt / 2 ^ n) := by
  rw [BitVec.sshiftRight_eq, Int.shiftRight_eq_div_pow, Int.natCast_pow, Nat.cast_ofNat]

/-- Settles O27: MOV.D and DIFSC.A write a word of the addresses, and each compare the Boolean of its condition. -/
theorem addressToData : Obligations.AddressToData := by
  intro s c a b n
  -- The scaled difference is the shifted one that the meaning writes.
  rw [← sshiftRight_eq_ofInt_div]
  refine ⟨?movD, ?movD16, ?difsc, ?eq, ?ne, ?lt, ?ge, ?eqz, ?nez⟩
  case movD | movD16 | difsc => exact movesTo_putD rfl
  case eq | eqz => exact comparesTo_putD rfl beq_iff_eq
  case ne | nez => exact comparesTo_putD rfl bne_iff_ne
  case lt | ge => exact comparesTo_putD rfl decide_eq_true_iff

end Sys2Proof.Machine
end

section
/-! The jumps, calls and returns of spec/47_branch.md and RFE of 49: the unconditional jumps (O28), the conditional jumps on
data registers (O29), on bits and addresses with the counting jumps (O30), the calls (O31) and the returns (O32). A jump is
one write of the pc, so that what its proof shows is the target and the condition. Calls and returns share the test of the
call depth counter and the checks of their CSA, each said once here; Laws/Context.lean says what the save and the restore
do. -/

namespace Sys2Proof.Machine

open Sys2Proof

/-! ## Unconditional jumps (47 R742 to R748) -/

/-- A jump that links. -/
theorem linksTo_setA {i : Instr} {s : State} {t : Word} (h : exec i s = .next ((s.setA 11 (s.pc + 4)).setPc t)) :
    LinksTo i s t :=
  ⟨_, h, State.getA_setA s 11 (s.pc + 4), fun _ => rfl, rfl, rfl, RestKept.refl s⟩

/-- Settles O28: each jump writes its target to the pc, a linking jump after the return address. -/
theorem jumps : Obligations.Jumps := by
  intro s b e8 e24
  -- The targets are those that the meanings compute (30 R222, 47 R744, 10 R53).
  rw [← relTarget24_eq, ← relTarget8_eq, ← absTarget24_eq, ← evenTarget_eq]
  refine ⟨?j, ?j16, ?ja, ?ji, ?ji16, ?jl, ?jla, ?jli⟩
  case j | j16 | ja | ji | ji16 => exact jumpsTo_setPc rfl
  case jl | jla | jli => exact linksTo_setA rfl

/-! ## Conditional jumps (47 R750 to R768, R776 to R779) -/

/-- Settles O29: each jump is the conditional write of the pc by the Boolean of its condition. -/
theorem conditionalJumps : Obligations.ConditionalJumps := by
  intro s a b k4 e4 e8 e15
  -- The targets and constants are those that the meanings compute (30 R220, R222).
  rw [← relTarget15_eq, ← relTarget4_eq, ← relTarget8_eq, ← sext4_eq, ← sext4_toInt, ← zext4_toNat k4]
  refine ⟨?eqConst, ?eq, ?eqConst16, ?eq16, ?neConst, ?ne, ?neConst16, ?ne16, ?geConst, ?ge, ?geUConst, ?geU, ?ltConst,
    ?lt, ?ltUConst, ?ltU, ?gez, ?gtz, ?lez, ?ltz, ?nz15, ?nz, ?z15, ?z⟩
  case eqConst | eq | eqConst16 | eq16 | z15 | z => exact branchesTo_branchIf rfl beq_iff_eq
  case neConst | ne | neConst16 | ne16 | nz15 | nz => exact branchesTo_branchIf rfl bne_iff_ne
  case geConst | ge | geUConst | geU | ltConst | lt | ltUConst | ltU | gez | gtz | lez | ltz =>
    exact branchesTo_branchIf rfl decide_eq_true_iff

/-- A jump that counts in D[a]. -/
theorem countsTo_setD {i : Instr} {s : State} {a : Reg} {v t : Word} {b : Bool} {p : Prop}
    (h : exec i s = .next ((s.setD a v).branchIf b t 4)) (hb : b = true ↔ p) : CountsTo i s a v p t := by
  refine ⟨_, h, State.getD_setD s a v, fun _ => rfl, rfl, fun hp => ?_, fun hp => ?_, RestKept.refl s⟩
  · exact if_pos (hb.2 hp)
  · exact if_neg (mt hb.1 hp)

/-- LOOP with its counter at 0 falls through. -/
theorem jumpsTo_loopOp {i : Instr} {s : State} {r : Reg} {t len : Word} (h : exec i s = loopOp s r t len)
    (hr : s.getA r = 0) : JumpsTo i s (s.pc + len) :=
  jumpsTo_setPc (h.trans (if_pos hr))

/-- LOOP with another counter is the guarded write of the counter, which moves the pc by the displacement. -/
theorem addressTo_loopOp {i : Instr} {s : State} {r : Reg} {disp len : Word}
    (h : exec i s = loopOp s r (s.pc + disp) len) (hr : s.getA r ≠ 0) : AddressTo i s r disp (s.getA r - 1) :=
  addressTo_putA (h.trans (if_neg hr))

/-- Settles O30: the conditions are Booleans of the old values, and the counters are written besides. -/
theorem bitAddressAndLoopJumps : Obligations.BitAddressAndLoopJumps := by
  intro s a b k4 e4 e15 n5
  -- The targets and constants are those that the meanings compute (30 R220, R222); LOOP is stated by its displacement.
  rw [← relTarget15_eq, ← relTarget4_eq, ← sext4_eq]
  refine ⟨?bit, ?bit16, ?noBit, ?noBit16, ?eqA, ?neA, ?nzA, ?nzA16, ?zA, ?zA16, ?nedConst, ?ned, ?neiConst, ?nei,
    ?loopEnd, ?loop, ?loopEnd16, ?loop16⟩
  case bit | bit16 => exact branchesTo_branchIf rfl Iff.rfl
  case noBit | noBit16 => exact branchesTo_branchIf rfl (not_eq_true_iff_of_iff Iff.rfl)
  case eqA | zA | zA16 => exact branchesTo_branchIf rfl beq_iff_eq
  case neA | nzA | nzA16 => exact branchesTo_branchIf rfl bne_iff_ne
  case nedConst | ned | neiConst | nei => exact countsTo_setD rfl bne_iff_ne
  case loopEnd | loopEnd16 => exact jumpsTo_loopOp rfl
  case loop => exact addressTo_loopOp (congrArg (loopOp s a · 4) (relTarget15_eq s.pc e15))
  case loop16 => exact addressTo_loopOp (congrArg (loopOp s b · 2) (loopTarget4_eq s.pc e4))

/-! ## The call depth counter (10 R72, 47 R770) -/

/-- The leading zeros of a word bound it from above. -/
theorem toNat_lt_two_pow_leadingZeros {w : Nat} (x : BitVec w) : x.toNat < 2 ^ (w - leadingZeros x) := by
  obtain ⟨-, hrun, -⟩ := leadingRun_leadingZeros x
  refine Nat.lt_pow_two_of_testBit _ fun k hk => ?_
  by_cases hw : k < w
  · rw [← hrun (w - 1 - k) (by omega), BitVec.getLsbD]
    exact congrArg x.toNat.testBit (by omega)
  · exact BitVec.getLsbD_of_ge x k (not_lt.1 hw)

/-- The 1 bit below the leading zeros of a word bounds it from below. -/
theorem two_pow_leadingZeros_le_toNat {w : Nat} (x : BitVec w) (h : leadingZeros x < w) :
    2 ^ (w - 1 - leadingZeros x) ≤ x.toNat := by
  obtain ⟨-, -, hend⟩ := leadingRun_leadingZeros x
  exact Nat.ge_two_pow_of_testBit (hend (by omega))

theorem cdc_toNat (p : Word) : (Psw.cdc p).toNat = p.toNat % 2 ^ 7 := by
  rw [Psw.cdc, BitVec.extractLsb'_toNat, Nat.shiftRight_zero]

theorem cdc_ne_allOnes_iff (p : Word) : Psw.cdc p ≠ 0x7F ↔ p.toNat % 2 ^ 7 ≠ 127 := by
  rw [← cdc_toNat, Ne, ← BitVec.toNat_inj]
  rfl

/-- The number of leading ones tells between which powers of two the complement of CDC lies. -/
theorem callDepthMask_bounds (p : Word) :
    callDepthMask p ≤ 7 ∧ 127 - p.toNat % 2 ^ 7 < 2 ^ (7 - callDepthMask p) ∧
      (callDepthMask p < 7 → 2 ^ (6 - callDepthMask p) ≤ 127 - p.toNat % 2 ^ 7) := by
  have hnot : (~~~ Psw.cdc p).toNat = 127 - p.toNat % 2 ^ 7 := by
    rw [BitVec.toNat_not, cdc_toNat]
  rw [← hnot]
  exact ⟨zerosBelow_le _ 7, toNat_lt_two_pow_leadingZeros _, two_pow_leadingZeros_le_toNat _⟩

/-- The counter that CDC holds is the one that the model reads: its width is what the leading ones leave of 6. -/
theorem hasCounter_iff (p : Word) (w cnt : Nat) :
    HasCounter p w cnt ↔ callDepthMask p + w = 6 ∧ callDepthCount p = cnt := by
  obtain ⟨hmask, hupper, hlower⟩ := callDepthMask_bounds p
  unfold HasCounter callDepthCount callDepthWidth
  rw [cdc_toNat]
  generalize callDepthMask p = k at *
  constructor
  · rintro ⟨hw, hcnt, hcdc⟩
    have hdouble : 2 ^ (w + 1) = 2 * 2 ^ w := pow_succ' 2 w
    have hroom : 2 ^ (w + 1) ≤ 2 ^ 7 := Nat.pow_le_pow_right Nat.two_pos (by omega)
    -- The complement of CDC lies between 2 ^ w and 2 ^ (w + 1).
    have hlt : w < 7 - k := (Nat.pow_lt_pow_iff_right Nat.one_lt_two).1 (lt_of_le_of_lt (by omega) hupper)
    have hgt : 6 - k < w + 1 :=
      (Nat.pow_lt_pow_iff_right Nat.one_lt_two).1 (lt_of_le_of_lt (hlower (by omega)) (by omega))
    obtain rfl : k = 6 - w := by omega
    refine ⟨by omega, ?_⟩
    interval_cases w <;> omega
  · rintro ⟨hk, rfl⟩
    obtain rfl : k = 6 - w := by omega
    have hlow := hlower (by omega)
    have hw : w ≤ 6 := by omega
    interval_cases w <;> omega

theorem callCountingOn_iff (p : Word) :
    callCountingOn p = true ↔ p.getLsbD 7 = true ∧ p.toNat % 2 ^ 7 ≠ 127 := by
  unfold callCountingOn
  rw [Bool.and_eq_true, bne_iff_ne, cdc_ne_allOnes_iff, and_comm]
  rfl

/-- CDC leaves room for a counter, maybe of no bits, unless it is all ones. -/
theorem callDepthMask_le_six_iff (p : Word) : callDepthMask p ≤ 6 ↔ p.toNat % 2 ^ 7 ≠ 127 := by
  obtain ⟨hmask, hupper, hlower⟩ := callDepthMask_bounds p
  constructor
  · intro h
    have hpos := hlower (by omega)
    have := Nat.two_pow_pos (6 - callDepthMask p)
    omega
  · intro h
    by_contra hgt
    have hk : callDepthMask p = 7 := by omega
    rw [hk] at hupper
    omega

theorem callDepthOverflow_iff (p : Word) : callDepthOverflow p = true ↔ CallOverflows p := by
  unfold callDepthOverflow CallOverflows
  simp only [hasCounter_iff, Bool.and_eq_true, callCountingOn_iff, ← callDepthMask_le_six_iff, beq_iff_eq, callDepthWidth,
    and_assoc]
  refine and_congr_right fun _ => ⟨fun ⟨hk, hcnt⟩ => ⟨_, by omega, hcnt⟩, ?_⟩
  rintro ⟨w, hk, hcnt⟩
  obtain rfl : w = 6 - callDepthMask p := by omega
  exact ⟨by omega, hcnt⟩

/-- RET traps where a counter of some bits is 0 (47 R774). -/
theorem callDepthZero_iff (p : Word) : callDepthZero p = true ↔ ∃ w, 1 ≤ w ∧ HasCounter p w 0 := by
  unfold callDepthZero
  simp only [hasCounter_iff, Bool.and_eq_true, decide_eq_true_iff, beq_iff_eq]
  constructor
  · rintro ⟨hk, hcnt⟩
    exact ⟨6 - callDepthMask p, by omega, by omega, hcnt⟩
  · rintro ⟨w, hw, hk, hcnt⟩
    exact ⟨by omega, hcnt⟩

/-- RFE traps where a counter is not 0; one of no bits is 0 (49 R880). -/
theorem callDepthNonzero_iff (p : Word) :
    callDepthNonzero p = true ↔ ∃ w cnt, cnt ≠ 0 ∧ HasCounter p w cnt := by
  unfold callDepthNonzero
  rw [Bool.and_eq_true, decide_eq_true_iff, bne_iff_ne]
  constructor
  · rintro ⟨hk, hcnt⟩
    exact ⟨6 - callDepthMask p, _, hcnt, (hasCounter_iff _ _ _).2 ⟨by omega, rfl⟩⟩
  · rintro ⟨w, cnt, hcnt, h⟩
    have ⟨_, hlt, _⟩ := h
    obtain ⟨hk, rfl⟩ := (hasCounter_iff _ _ _).1 h
    have hw : w ≠ 0 := by
      rintro rfl
      omega
    exact ⟨by omega, hcnt⟩

/-- CDC after a call. -/
theorem cdc_afterCall (p : Word) :
    Psw.cdc (Psw.afterCall p) = if callCountingOn p then Psw.cdc p + 1 else Psw.cdc p := by
  apply BitVec.eq_of_getLsbD_eq
  intro k hk
  unfold Psw.afterCall
  rw [Psw.cdc, BitVec.getLsbD_extractLsb', getLsbD_setBit _ _ _ _ (by omega), if_neg (by omega),
    getLsbD_setField _ _ _ _ _ (by omega), if_pos (by omega), decide_eq_true hk, Bool.true_and]
  exact congrArg _ (by omega)

/-- The PSW that a call leaves counts the call and has CDE set. -/
theorem callCounted_afterCall {s t : State} (h : t.psw = Psw.afterCall s.psw) : CallCounted s t := by
  unfold CallCounted
  rw [h, ← cdc_toNat, ← cdc_toNat, cdc_afterCall]
  refine ⟨fun k hk => ?_, ?_, ?_⟩
  · unfold Psw.afterCall
    rw [getLsbD_setBit _ _ _ _ (by omega), if_neg (by omega), getLsbD_setField _ _ _ _ _ (by omega), if_neg (by omega)]
  · exact (getLsbD_setBit _ 7 true 7 (by omega)).trans (if_pos rfl)
  · have hlt := (Psw.cdc s.psw).isLt
    have hcount := callCountingOn_iff s.psw
    rw [← cdc_toNat] at hcount
    by_cases hc : callCountingOn s.psw = true
    · obtain ⟨-, hne⟩ := hcount.1 hc
      rw [if_pos hc, if_pos (hcount.1 hc), BitVec.toNat_add_of_lt]
      · rfl
      · change (Psw.cdc s.psw).toNat + 1 < 2 ^ 7
        omega
    · rw [if_neg hc, if_neg (mt hcount.2 hc)]

/-! ## The checks of a CSA (60 R971) -/

/-- An instruction that raises the trap of its CSA, if there is one, and else does `done`. -/
theorem csaChecked_of_csaTrap {i : Instr} {s : State} {x : Word} {done : Prop}
    (htrap : ∀ t, s.csaTrap x = some t → exec i s = raise s t) (hdone : s.csaTrap x = none → done) :
    CsaChecked i s x done := by
  obtain ⟨hmpp, hmpr, hmpw, hbus, hnone⟩ := csaTrap_spec s x
  exact ⟨fun h h' => htrap _ (hmpp h h'), fun h h' => htrap _ (hmpr h h'), fun h h' h'' => htrap _ (hmpw h h' h''),
    fun h h' h'' => htrap _ (hbus h h' h''), fun h h' => hdone (hnone h h')⟩

/-- The signals of the access and the boundary after it are the boundary of a context operation. -/
theorem contextBoundary_of_signal {s t : State} {x : Word} {rd wr v : Nat}
    (h : t.env = { (s.signal .modify x).env with
      outputs := (if csaKind s.cfg x = some .device then
          [.deviceStore x wr (v % 256 ^ wr) s.supervisor, .deviceLoad x rd s.supervisor] else []) ++
        (s.signal .modify x).env.outputs
      freeCount := (s.signal .modify x).env.freeCount + if csaKind s.cfg x = some .storage then 0 else rd }) :
    ContextBoundary s t x rd wr v := by
  rw [signal_env] at h
  unfold ContextBoundary
  rw [h, List.append_assoc]

/-! ## Calls (47 R769 to R773) -/

/-- The state that a call to `target` leaves (47 R769 steps 3 to 7). -/
def State.afterCall (s : State) (target : Word) : State :=
  ((((s.signal .modify (csaAddress s.fcx)).saveContext true).setPsw (Psw.afterCall s.psw)).setA 11 (s.pc + 4)).setPc target

theorem called_afterCall (s : State) (target : Word) : Called s (s.afterCall target) target := by
  obtain ⟨hstored, hlists, hd, ha, -, -, hicr, hsystem, henv⟩ :=
    saveContext_spec (s.signal .modify (csaAddress s.fcx)) true
  refine ⟨hstored, hlists, hd, fun r => ?_, callCounted_afterCall rfl, hicr, hsystem, rfl,
    contextBoundary_of_signal henv⟩
  rw [State.afterCall, State.getA_setPc, State.getA_setA, State.getA_setPsw, ha, State.getA_signal]

section
variable {s : State} (target : Word)

/-- A call with an empty free list. -/
theorem callOp_empty (h : pointer s.fcx = 0) : callOp s target = raise s .fcu := by
  unfold callOp
  rw [if_pos (beq_iff_eq.2 h)]

/-- A call that the call depth counter does not allow. -/
theorem callOp_overflow (h : pointer s.fcx ≠ 0) (ho : CallOverflows s.psw) : callOp s target = raise s .cdo := by
  unfold callOp
  rw [if_neg (mt beq_iff_eq.1 h), if_pos ((callDepthOverflow_iff _).2 ho)]

/-- A call whose CSA traps. -/
theorem callOp_csaTrap (h : pointer s.fcx ≠ 0) (ho : ¬ CallOverflows s.psw) {x : Trap}
    (hx : s.csaTrap (csaAddress s.fcx) = some x) : callOp s target = raise s x := by
  unfold callOp
  rw [if_neg (mt beq_iff_eq.1 h), if_neg (mt (callDepthOverflow_iff _).1 ho), hx]

/-- A call that completes. -/
theorem callOp_completes (h : pointer s.fcx ≠ 0) (ho : ¬ CallOverflows s.psw)
    (hx : s.csaTrap (csaAddress s.fcx) = none) : callOp s target = completeSave s (s.afterCall target) := by
  unfold callOp
  rw [if_neg (mt beq_iff_eq.1 h), if_neg (mt (callDepthOverflow_iff _).1 ho), hx]
  rfl

end

theorem completeSave_of_not_atLimit {s t : State} (h : ¬ AtLimit s) : completeSave s t = .next t :=
  if_neg (mt (atLimit_iff s).1 h)

theorem completeSave_of_atLimit {s t : State} (h : AtLimit s) : completeSave s t = takeTrap t .fcd t.pc :=
  if_pos ((atLimit_iff s).2 h)

/-- An instruction whose meaning is the shared call. -/
theorem callTo_callOp {i : Instr} {s : State} {target : Word} (h : exec i s = callOp s target) : CallTo i s target := by
  refine ⟨fun hf => h.trans (callOp_empty target hf), fun hf ho => h.trans (callOp_overflow target hf ho),
    fun hf ho => csaChecked_of_csaTrap (fun x hx => ?_) fun hx => ?_⟩
  · exact h.trans (callOp_csaTrap target hf ho hx)
  · have hdone := h.trans (callOp_completes target hf ho hx)
    exact ⟨fun hl => ⟨_, hdone.trans (completeSave_of_not_atLimit hl), called_afterCall s target⟩,
      fun hl => ⟨_, called_afterCall s target, hdone.trans (completeSave_of_atLimit hl)⟩⟩

/-- Settles O31: the three calls are the shared call with their targets. -/
theorem calls : Obligations.Calls := by
  intro s b e24
  -- The targets are those that the meanings compute (30 R222, 47 R744, 10 R53).
  rw [← relTarget24_eq, ← absTarget24_eq, ← evenTarget_eq]
  exact ⟨callTo_callOp rfl, callTo_callOp rfl, callTo_callOp rfl⟩

/-! ## Returns (47 R774, 49 R880) -/

/-- The state before a return restores its context: the signals sent and ICR replaced (60 R969). -/
def State.beforeRestore (s : State) : State :=
  (s.signal .modify (csaAddress s.pcxi)).setIcr (Icr.setEnable s.icr (Pcxi.pie s.pcxi) (Pcxi.pcpn s.pcxi))

/-- The state that a return leaves (49 R880 steps 4 to 7). -/
def State.afterReturn (s : State) : State := (s.beforeRestore.restoreContext true).setPc (evenTarget (s.getA 11))

theorem returned_afterReturn (s : State) : Returned s s.afterReturn := by
  obtain ⟨hloaded, hlists, hpsw, hicr, -, hsystem, henv⟩ := restoreUpper_spec s.beforeRestore
  obtain ⟨hie, hccpn, hrest⟩ := Icr.setEnable_fields s.icr (Pcxi.pie s.pcxi) (Pcxi.pcpn s.pcxi)
  unfold State.afterReturn
  generalize s.beforeRestore.restoreContext true = t at *
  refine ⟨hloaded, hlists, hpsw, ?_, ?_, ?_, hsystem, evenTarget_eq _, contextBoundary_of_signal henv⟩
  · exact (congrArg Icr.ie hicr).trans hie
  · exact (congrArg Icr.ccpn hicr).trans hccpn
  · exact fun k hk => (congrArg (BitVec.getLsbD · k) hicr).trans (hrest k hk)

section
variable {s : State}

/-- A return without a saved context. -/
theorem returnFrom_empty (h : pointer s.pcxi = 0) : returnFrom s = raise s .csu := by
  unfold returnFrom
  rw [if_pos (beq_iff_eq.2 h)]

/-- A return to a lower context. -/
theorem returnFrom_lower (h : pointer s.pcxi ≠ 0) (hu : Pcxi.ul s.pcxi = false) : returnFrom s = raise s .ctyp := by
  unfold returnFrom
  rw [if_neg (mt beq_iff_eq.1 h), hu]
  rfl

/-- A return whose CSA traps. -/
theorem returnFrom_csaTrap (h : pointer s.pcxi ≠ 0) (hu : Pcxi.ul s.pcxi = true) {x : Trap}
    (hx : s.csaTrap (csaAddress s.pcxi) = some x) : returnFrom s = raise s x := by
  unfold returnFrom
  rw [if_neg (mt beq_iff_eq.1 h), hu, hx]
  rfl

/-- A return that completes. -/
theorem returnFrom_completes (h : pointer s.pcxi ≠ 0) (hu : Pcxi.ul s.pcxi = true)
    (hx : s.csaTrap (csaAddress s.pcxi) = none) : returnFrom s = .next s.afterReturn := by
  unfold returnFrom
  rw [if_neg (mt beq_iff_eq.1 h), hu, hx]
  rfl

end

/-- An instruction whose meaning is the shared return. -/
theorem returnTo_returnFrom {i : Instr} {s : State} (h : exec i s = returnFrom s) : ReturnTo i s := by
  refine ⟨fun hp => h.trans (returnFrom_empty hp), fun hp hu => h.trans (returnFrom_lower hp hu),
    fun hp hu => csaChecked_of_csaTrap (fun x hx => ?_) fun hx => ?_⟩
  · exact h.trans (returnFrom_csaTrap hp hu hx)
  · exact ⟨_, h.trans (returnFrom_completes hp hu hx), returned_afterReturn s⟩

/-- Settles O32: RET and RFE test the call depth counter, and both forms of each then do the shared return. -/
theorem returns : Obligations.Returns := by
  intro s
  rw [← callDepthZero_iff, ← callDepthNonzero_iff]
  exact ⟨fun h => ⟨if_pos h, if_pos h⟩, fun h => ⟨returnTo_returnFrom (if_neg h), returnTo_returnFrom (if_neg h)⟩,
    fun h => ⟨if_pos h, if_pos h⟩, fun h => ⟨returnTo_returnFrom (if_neg h), returnTo_returnFrom (if_neg h)⟩⟩

end Sys2Proof.Machine
end

section
/-! The loads, stores, read-modify-writes and LEA of spec/48_load_store.md (O35 to O38) and the context loads and stores of
49 (O40). Each form is one of the shared operations, and Laws/LoadStore.lean says what these do; left to show are the values
that a form loads, stores or writes back. -/

namespace Sys2Proof.Machine

open Sys2Proof

/-! ## The values loaded (48 R806 to R812) -/

/-- The low bits of a value loaded, read as a signed number. -/
theorem toInt_ofNat_eq_signedField (n v : Nat) : (BitVec.ofNat n v).toInt = signedField n v := by
  rw [BitVec.toInt_eq_toNat_cond, BitVec.toNat_ofNat, signedField]
  push_cast
  rfl

theorem loadedB_eq (v : Nat) : loadedB v = BitVec.ofInt 32 (signedField 8 v) :=
  congrArg (BitVec.ofInt 32) (toInt_ofNat_eq_signedField 8 v)

theorem loadedH_eq (v : Nat) : loadedH v = BitVec.ofInt 32 (signedField 16 v) :=
  congrArg (BitVec.ofInt 32) (toInt_ofNat_eq_signedField 16 v)

theorem loadedBu_eq (v : Nat) : loadedBu v = BitVec.ofNat 32 (v % 2 ^ 8) := by
  rw [← BitVec.toNat_ofNat, BitVec.ofNat_toNat]
  rfl

theorem loadedHu_eq (v : Nat) : loadedHu v = BitVec.ofNat 32 (v % 2 ^ 16) := by
  rw [← BitVec.toNat_ofNat, BitVec.ofNat_toNat]
  rfl

theorem loadedQ_eq (v : Nat) : loadedQ v = BitVec.ofNat 32 (v % 2 ^ 16 * 2 ^ 16) := by
  rw [← BitVec.toNat_ofNat v 16, ← high16_eq]
  rfl

/-- Settles O35: each form is the shared load with the extension of its rule. -/
theorem loadBytesHalfwords : Obligations.LoadBytesHalfwords := by
  intro s a b o4 o10 o18
  -- The offsets are those that the meanings extend (30 R220, 20 R162).
  rw [← sext10_eq, ← zext4_eq]
  refine ⟨?b, ?bShort, ?bPre, ?bPost, ?bCirc, ?bBrev, ?bSlr, ?bSlrPost, ?bSlro, ?bSro,
    ?bu, ?buShort, ?buPre, ?buPost, ?buCirc, ?buBrev, ?buSlr, ?buSlrPost, ?buSlro, ?buSro,
    ?h, ?hShort, ?hPre, ?hPost, ?hCirc, ?hBrev, ?hSlr, ?hSlrPost, ?hSlro, ?hSro,
    ?hu, ?huShort, ?huPre, ?huPost, ?huCirc, ?huBrev, ?q, ?qShort, ?qPre, ?qPost, ?qCirc, ?qBrev,
    rfl, rfl, rfl, rfl, rfl⟩
  case b | bShort | bPre | bPost | bCirc | bBrev | bSlr | bSlrPost | bSlro | bSro =>
    exact loadsData_of rfl loadedB_eq
  case bu | buShort | buPre | buPost | buCirc | buBrev | buSlr | buSlrPost | buSlro | buSro =>
    exact loadsData_of rfl loadedBu_eq
  case h | hShort | hPre | hPost | hCirc | hBrev | hSlr | hSlrPost | hSlro | hSro =>
    exact loadsData_of rfl loadedH_eq
  case hu | huShort | huPre | huPost | huCirc | huBrev => exact loadsData_of rfl loadedHu_eq
  case q | qShort | qPre | qPost | qCirc | qBrev => exact loadsData_of rfl loadedQ_eq

/-- Settles O36: each form is the shared load that writes a data register, an address register or a pair. -/
theorem loadWordsAndPairs : Obligations.LoadWordsAndPairs := by
  intro s a b o4 o10 o16 o18
  -- The offsets are those that the meanings extend (30 R220, 20 R162, R163).
  rw [← sext10_eq, ← sext16_eq, ← zext4_eq]
  refine ⟨?w, ?wShort, ?wPre, ?wPost, ?wCirc, ?wBrev, ?wLong, ?wSlr, ?wSlrPost, ?wSlro, ?wSro,
    ?a, ?aShort, ?aPre, ?aPost, ?aCirc, ?aBrev, ?aLong, ?aSlr, ?aSlrPost, ?aSlro, ?aSro,
    ?d, ?dShort, ?dPre, ?dPost, ?dCirc, ?dBrev, ?da, ?daShort, ?daPre, ?daPost, ?daCirc, ?daBrev, rfl, rfl, rfl, rfl⟩
  case w | wShort | wPre | wPost | wCirc | wBrev | wLong | wSlr | wSlrPost | wSlro | wSro =>
    exact loadsData_of rfl fun _ => rfl
  case a | aShort | aPre | aPost | aCirc | aBrev | aLong | aSlr | aSlrPost | aSlro | aSro =>
    exact loadsAddress_of rfl
  case d | dShort | dPre | dPost | dCirc | dBrev => exact loadsPair_of rfl
  case da | daShort | daPre | daPost | daCirc | daBrev => exact loadsAddressPair_of rfl

/-! ## Stores (48 R814 to R820) -/

section
variable {i : Instr} {s : State} {m : AddrMode} {align n : Nat} {len : Word} {v : Nat}

/-- A store of a value that no register pair holds. -/
theorem storesOne_of (h : exec i s = storeOp s m true align n len v) (hn : 0 < n := by omega)
    (hn' : n ≤ 64 := by omega) : StoreForm i s m [] align n len v :=
  storeForm_of h pairOk_nil hn hn'

/-- A store of a register pair. -/
theorem storesPair_of {c : Reg} (h : exec i s = storeOp s m (Reg.isPair c) align 8 len v) :
    StoreForm i s m [c] align 8 len v :=
  storeForm_of h (pairOk_one c) (by omega) (by omega)

end

/-- Settles O37: each form is the shared store of the value of its register or pair. -/
theorem stores : Obligations.Stores := by
  intro s a b o4 o10 o16 o18
  -- The offsets and the values are those that the meanings compute (30 R220, 20 R162, R163; 10 R43).
  rw [← sext10_eq, ← sext16_eq, ← zext4_eq, ← toNat_hiHalf, ← State.getE_toNat, ← toNat_append_add]
  refine ⟨?b, ?bShort, ?bPre, ?bPost, ?bCirc, ?bBrev, ?bSsr, ?bSsrPost, ?bSsro, ?bSro,
    ?h, ?hShort, ?hPre, ?hPost, ?hCirc, ?hBrev, ?hSsr, ?hSsrPost, ?hSsro, ?hSro,
    ?q, ?qShort, ?qPre, ?qPost, ?qCirc, ?qBrev,
    ?w, ?wShort, ?wPre, ?wPost, ?wCirc, ?wBrev, ?wLong, ?wSsr, ?wSsrPost, ?wSsro, ?wSro,
    ?a, ?aShort, ?aPre, ?aPost, ?aCirc, ?aBrev, ?aSsr, ?aSsrPost, ?aSsro, ?aSro,
    ?d, ?dShort, ?dPre, ?dPost, ?dCirc, ?dBrev, ?da, ?daShort, ?daPre, ?daPost, ?daCirc, ?daBrev,
    rfl, rfl, rfl, rfl, rfl, rfl, rfl⟩
  case d | dShort | dPre | dPost | dCirc | dBrev | da | daShort | daPre | daPost | daCirc | daBrev =>
    exact storesPair_of rfl
  case b | bShort | bPre | bPost | bCirc | bBrev | bSsr | bSsrPost | bSsro | bSro |
    h | hShort | hPre | hPost | hCirc | hBrev | hSsr | hSsrPost | hSsro | hSro |
    q | qShort | qPre | qPost | qCirc | qBrev |
    w | wShort | wPre | wPost | wCirc | wBrev | wLong | wSsr | wSsrPost | wSsro | wSro |
    a | aShort | aPre | aPost | aCirc | aBrev | aSsr | aSsrPost | aSsro | aSro => exact storesOne_of rfl

/-! ## Read-modify-writes and LEA (48 R821 to R830) -/

/-- A number with one bit replaced, cut at that bit. -/
theorem withBit_eq_add (t p c : Nat) : withBit t p c = 2 ^ p * (2 * (t / 2 ^ (p + 1)) + c) + t % 2 ^ p := by
  have hcut : 2 ^ p * (2 * (t / 2 ^ (p + 1))) + t / 2 ^ p % 2 * 2 ^ p + t % 2 ^ p = t := by
    rw [pow_succ, ← Nat.div_div_eq_div_mul, Nat.mul_comm (_ % 2), ← Nat.mul_add, Nat.div_add_mod, Nat.div_add_mod]
  unfold withBit
  rw [Nat.mul_add, Nat.mul_comm _ c]
  omega

theorem testBit_withBit (t p k : Nat) (b : BitVec 1) :
    (withBit t p b.toNat).testBit k = if k = p then b == 1 else t.testBit k := by
  have hb := b.isLt
  rw [withBit_eq_add, Nat.testBit_two_pow_mul_add _ (Nat.mod_lt _ (Nat.two_pow_pos p))]
  rcases lt_trichotomy k p with hk | rfl | hk
  · rw [if_pos hk, if_neg hk.ne, Nat.testBit_mod_two_pow, decide_eq_true hk, Bool.true_and]
  · rw [if_neg (lt_irrefl k), if_pos rfl, Nat.sub_self, Nat.testBit_zero, Nat.mul_add_mod]
    revert b
    decide
  · obtain ⟨d, rfl⟩ := Nat.exists_eq_add_of_lt hk
    have hhalf : (2 * (t / 2 ^ (p + 1)) + b.toNat) / 2 = t / 2 ^ (p + 1) := by omega
    rw [if_neg hk.not_gt, if_neg hk.ne', show p + d + 1 - p = d + 1 by omega, Nat.testBit_succ, hhalf,
      Nat.testBit_div_two_pow, Nat.add_right_comm, Nat.add_comm]

/-- ST.T replaces one bit of the byte it has read (48 R821). -/
theorem bitStored_eq_withBit {t : Nat} (pos : BitVec 3) (b : BitVec 1) (ht : t < 2 ^ 32) :
    bitStored t pos b = withBit t pos.toNat b.toNat := by
  have hpos := pos.isLt
  apply Nat.eq_of_testBit_eq
  intro k
  rw [testBit_withBit, bitStored, ← BitVec.getLsbD, getLsbD_setBit _ _ _ _ (by omega), BitVec.getLsbD,
    BitVec.toNat_ofNat, Nat.mod_eq_of_lt ht]

/-- A read-modify-write is determined by what it makes of the value read. -/
theorem ModifyForm.congr {i : Instr} {s : State} {m : AddrMode} {pairs writes : List Reg} {align n : Nat}
    {f g : Nat → Nat} {regs : Nat → State → Prop} (h : ModifyForm i s m pairs writes align n f regs)
    (hfg : f (s.loadValue (m.place s) n) = g (s.loadValue (m.place s) n)) :
    ModifyForm i s m pairs writes align n g regs := by
  unfold ModifyForm at *
  rwa [← hfg]

/-- Settles O38: each form is the shared read-modify-write, or the shared LEA, with the value that its rule writes back. -/
theorem readModifyWriteAndLea : Obligations.ReadModifyWriteAndLea := by
  intro s a b o10 o16 o18 b3 b1
  -- The offsets are those that the meanings extend (20 R162, R163).
  rw [← sext10_eq, ← sext16_eq]
  refine ⟨?bit, ?mask, ?maskShort, ?maskPre, ?maskPost, ?maskCirc, ?maskBrev,
    ?swapW, ?swapWShort, ?swapWPre, ?swapWPost, ?swapWCirc, ?swapWBrev,
    ?swapA, ?swapAShort, ?swapAPre, ?swapAPost, ?swapACirc, ?swapABrev,
    ?lea, ?leaShort, ?leaPre, ?leaPost, ?leaCirc, ?leaBrev, ?leaLong, rfl, rfl, rfl, rfl⟩
  case bit =>
    have hbyte : s.loadValue ((AddrMode.abs o18).place s) 1 < 2 ^ 32 := (loadValue_lt s _ 1).trans (by omega)
    exact ModifyForm.congr (f := fun t => bitStored t b3 b1) (modifiesData_of rfl pairOk_nil (by omega) (by omega))
      (bitStored_eq_withBit b3 b1 hbyte)
  case mask | maskShort | maskPre | maskPost | maskCirc | maskBrev =>
    exact modifiesData_of rfl (pairOk_one a) (by omega) (by omega)
  case swapW | swapWShort | swapWPre | swapWPost | swapWCirc | swapWBrev => exact swapsData_of rfl
  case swapA | swapAShort | swapAPre | swapAPost | swapACirc | swapABrev => exact swapsAddress_of rfl
  case lea | leaShort | leaPre | leaPost | leaCirc | leaBrev | leaLong => exact leaForm_of rfl

/-! ## Context loads and stores (49 R875 to R879) -/

/-- Settles O40: the stores are the shared store of a context as one value, the loads the shared load of its registers, and
the words of a context stand at their places (`contextWords_laidOut`). -/
theorem contextMemory : Obligations.ContextMemory := by
  intro s b o10 o18
  -- The offset and the value of a block are those that the meanings compute (20 R162, 60 R965).
  rw [← sext10_eq, ← blockValue_eq, ← blockValue_eq]
  refine ⟨?stucx, ?stlcx, ?lducx, ?ldlcx, ?stucxShort, ?stlcxShort, ?lducxShort, ?ldlcxShort, ?upper, ?lower⟩
  case stucx | stlcx | stucxShort | stlcxShort => exact storesOne_of rfl
  case lducx | lducxShort => exact loadsUpper_of rfl rfl
  case ldlcx | ldlcxShort => exact loadsLower_of rfl rfl
  case upper | lower => exact contextWords_laidOut _ _ _ rfl

end Sys2Proof.Machine
end

section
/-! The exceptions of spec/60_exceptions.md: the entry of a trap (O58), the entries at a boundary (O54), the refusal of a
reserved PSW.IO (O57), and the step that runs the instruction fetched (O52). -/

namespace Sys2Proof.Machine

open Sys2Proof

/-! ## The entry of a trap (60 R975) -/

/-- The entry address of a trap class as its rule says it (60 R975 step 8). -/
theorem trapVector_eq (btv : Word) (cls : Nat) :
    trapVector btv cls = BitVec.ofNat 32 ((btv ||| BitVec.ofNat 32 (32 * cls)).toNat / 2 * 2) := by
  rw [Nat.mul_comm 32]
  exact evenTarget_eq _

theorem trapEntered_enterTrap {s : State} (x : Trap) (ret : Word) (h : FreeArea s) :
    TrapEntered s (s.enterTrap x ret) x.cls x.tin.toNat ret := by
  obtain ⟨-, hstorage⟩ := h
  obtain ⟨-, -, -, -, hicr, -, -, -, -, henv, hd, -⟩ := enter_fields s ret (Icr.ccpn s.icr)
  obtain ⟨-, -, hsaved, -⟩ := saveContext_spec s true
  obtain ⟨-, hccpn, -⟩ := Icr.setEnable_fields s.icr false (Icr.ccpn s.icr)
  refine ⟨entered_spec s ret _, fun r => ?_, ?_, trapVector_eq _ _, henv.trans (saveContext_env s true hstorage)⟩
  · rw [State.enterTrap, State.getD_setPc, State.getD_setD, hd, hsaved, zext8_eq]
  · exact (congrArg Icr.ccpn hicr).trans hccpn

/-! ## One entry after another (60 R967) -/

section
variable (n : Nat) {s : State} (x : Trap) (ret : Word)

theorem takeTraps_of_not_atLimit (h : FreeArea s) (hl : ¬ AtLimit s) :
    takeTraps (n + 1) s x ret = .next (s.enterTrap x ret) := by
  rw [takeTraps, if_pos ((canEnter_iff s).2 h), if_neg (mt (atLimit_iff s).1 hl)]

theorem takeTraps_of_not_freeArea (h : ¬ FreeArea s) : takeTraps (n + 1) s x ret = .fault .stuckContextEntry := by
  rw [takeTraps, if_neg (mt (canEnter_iff s).1 h)]

end

/-- Table 7 gives every trap its class and number (60 R936 to R942). -/
theorem cls_tin_of_mem_trapTable : ∀ p, p ∈ trapTable → p.2.1 = p.1.cls ∧ p.2.2 = p.1.tin.toNat := by decide

/-- Settles O58: an entry at the limit CSA hands over to that of FCD with one entry less to come. -/
theorem trapEntry : Obligations.TrapEntry := by
  intro s ret n x cls tin hx
  obtain ⟨rfl, rfl⟩ : cls = x.cls ∧ tin = x.tin.toNat := by
    rcases hx with hx | ⟨rfl, rfl, rfl⟩
    · exact cls_tin_of_mem_trapTable _ hx
    · exact ⟨rfl, rfl⟩
  refine ⟨fun hf hl => ⟨_, takeTrap_entered s x ret hf hl, trapEntered_enterTrap x ret hf⟩, fun hf hl => ?limit,
    takeTrap_stuck s x ret⟩
  case limit =>
    have hfirst : takeTrap s x ret = _ := takeTraps_limit 2 s x ret hf hl
    rw [hfirst]
    refine ⟨_, trapEntered_enterTrap x ret hf, fun hf hl => ?_, fun hf hl => ?again, takeTraps_of_not_freeArea 1 .fcd _⟩
    · exact ⟨_, takeTraps_of_not_atLimit 1 .fcd _ hf hl, trapEntered_enterTrap .fcd _ hf⟩
    case again =>
      rw [takeTraps_limit 1 _ .fcd _ hf hl]
      refine ⟨_, trapEntered_enterTrap .fcd _ hf, fun hf hl => ?_, fun hf hl => ?_, takeTraps_of_not_freeArea 0 .fcd _⟩
      · exact ⟨_, takeTraps_of_not_atLimit 0 .fcd _ hf hl, trapEntered_enterTrap .fcd _ hf⟩
      · exact takeTraps_limit 0 _ .fcd _ hf hl

/-! ## The entry of an interrupt (60 R976) -/

theorem interruptEntered_enterInterrupt {s : State} (h : FreeArea s) : InterruptEntered s s.enterInterrupt := by
  obtain ⟨-, hstorage⟩ := h
  obtain ⟨-, -, -, -, hicr, -, -, -, -, henv, hd, -⟩ := enter_fields s s.pc (Icr.pipn s.icr)
  obtain ⟨-, -, hsaved, -⟩ := saveContext_spec s true
  obtain ⟨-, hccpn, -⟩ := Icr.setEnable_fields s.icr false (Icr.pipn s.icr)
  refine ⟨entered_spec s s.pc _, fun r => (hd r).trans (hsaved r), (congrArg Icr.ccpn hicr).trans hccpn,
    trapVector_eq _ _, ?_⟩
  rw [State.enterInterrupt, State.emit_env, State.setPc_env, henv, saveContext_env s true hstorage]
  rfl

theorem takeInterrupt_of_not_atLimit {s : State} (h : FreeArea s) (hl : ¬ AtLimit s) :
    takeInterrupt s = .next s.enterInterrupt := by
  rw [takeInterrupt, if_pos ((canEnter_iff s).2 h), if_neg (mt (atLimit_iff s).1 hl)]

theorem takeInterrupt_of_atLimit {s : State} (h : FreeArea s) (hl : AtLimit s) :
    takeInterrupt s = takeTrap s.enterInterrupt .fcd s.enterInterrupt.pc := by
  rw [takeInterrupt, if_pos ((canEnter_iff s).2 h), if_pos ((atLimit_iff s).2 hl)]

theorem takeInterrupt_of_not_freeArea {s : State} (h : ¬ FreeArea s) : takeInterrupt s = .fault .stuckContextEntry := by
  rw [takeInterrupt, if_neg (mt (canEnter_iff s).1 h)]

/-! ## The entry at a boundary (60 R979) -/

theorem step_of_boundaryEntry {s u : State} {o : Out} (hp : Presented s u) (h : u.boundaryEntry = some o) :
    step s = o := by
  obtain ⟨rfl, hreset, hio⟩ := hp
  unfold step
  rw [hreset, h, if_neg Bool.false_ne_true, if_neg (by simpa using hio)]

section
variable {u : State} (hnmi : u.env.nmiPending = false)
include hnmi

theorem boundaryEntry_busTrap {c : BusCause} {rest : List BusCause} (ht : u.env.trapsPending = c :: rest) :
    u.boundaryEntry = some (takeTrap (u.setEnv { u.env with trapsPending := rest }) (.bus c) u.pc) := by
  rw [State.boundaryEntry, hnmi, ht]
  rfl

theorem boundaryEntry_interrupt (ht : u.env.trapsPending = []) (hi : InterruptAccepted u) :
    u.boundaryEntry = some (takeInterrupt u) := by
  rw [State.boundaryEntry, hnmi, ht]
  exact if_pos ((interruptAccepted_iff u).2 hi)

end

/-- Settles O54: the step is the entry that comes first; that of the interrupt is `enterInterrupt` where it can be made. -/
theorem boundaryEntries : Obligations.BoundaryEntries := by
  intro s u hp
  refine ⟨fun hnmi => ?nmi, fun c rest hnmi ht => ?bus, fun hnmi ht hi => ?interrupt⟩
  case nmi => exact step_of_boundaryEntry hp (if_pos hnmi)
  case bus => exact step_of_boundaryEntry hp (boundaryEntry_busTrap hnmi ht)
  case interrupt =>
    rw [step_of_boundaryEntry hp (boundaryEntry_interrupt hnmi ht hi)]
    exact ⟨fun hf hl => ⟨_, takeInterrupt_of_not_atLimit hf hl, interruptEntered_enterInterrupt hf⟩,
      fun hf hl => ⟨_, interruptEntered_enterInterrupt hf, takeInterrupt_of_atLimit hf hl⟩,
      takeInterrupt_of_not_freeArea⟩

/-! ## The step without an entry (60 R980, R994) -/

/-- Settles O57: after a reset, the level PSW.IO is what a step looks at first. -/
theorem reservedIoRefused : Obligations.ReservedIoRefused := by
  intro s hreset hio
  unfold step
  rw [hreset, hio]
  rfl

/-- Settles O52: without an entry the step is the instruction at pc, and a fetch that passes its checks ends in the state
in which that instruction runs. -/
theorem stepRunsDecoded : Obligations.StepRunsDecoded := by
  intro s u i hp hn hf hd hu
  have hfetch : u.fetch = .ok i := by
    rw [fetch_decoded hf hd, if_neg (mt (isUnimplemented_iff u _).1 hu)]
  rw [step_of_noEntry hp hn, stepInstr, hfetch, fetchDone_of_fetchOk hf]

end Sys2Proof.Machine
end

section
/-! The context and system instructions of spec/49_context_and_system.md: the lower context (O39), MFCR and MTCR (O41, O42),
SYSCALL, TRAPV and TRAPSV (O43), NOP, DSYNC, ISYNC and RSTV (O44), and ENABLE, DISABLE and DEBUG (O45). -/

namespace Sys2Proof.Machine

open Sys2Proof

/-! ## The lower context (49 R872 to R874) -/

/-- The state that a save of the lower context leaves, with ICR := `icr`. -/
def State.afterSaveLower (s : State) (icr len : Word) : State :=
  (((s.signal .modify (csaAddress s.fcx)).saveContext false).setIcr icr).advance len

theorem lowerSaved_afterSaveLower (s : State) (icr len : Word) : LowerSaved s (s.afterSaveLower icr len) icr len := by
  obtain ⟨hstored, hlists, hd, ha, hpc, hpsw, -, hsystem, henv⟩ :=
    saveContext_spec (s.signal .modify (csaAddress s.fcx)) false
  exact ⟨hstored, hlists, hd, ha, hpsw, rfl, hsystem, congrArg (· + len) hpc, contextBoundary_of_signal henv⟩

section
variable {s : State} (icr len : Word)

/-- A save with an empty free list. -/
theorem saveLowerOp_empty (h : pointer s.fcx = 0) : saveLowerOp s icr len = raise s .fcu := by
  unfold saveLowerOp
  rw [if_pos (beq_iff_eq.2 h)]

/-- A save whose CSA traps. -/
theorem saveLowerOp_csaTrap (h : pointer s.fcx ≠ 0) {x : Trap} (hx : s.csaTrap (csaAddress s.fcx) = some x) :
    saveLowerOp s icr len = raise s x := by
  unfold saveLowerOp
  rw [if_neg (mt beq_iff_eq.1 h), hx]

/-- A save that completes. -/
theorem saveLowerOp_completes (h : pointer s.fcx ≠ 0) (hx : s.csaTrap (csaAddress s.fcx) = none) :
    saveLowerOp s icr len = completeSave s (s.afterSaveLower icr len) := by
  unfold saveLowerOp
  rw [if_neg (mt beq_iff_eq.1 h), hx]
  rfl

end

/-- An instruction whose meaning is the shared save of the lower context. -/
theorem saveLowerTo_saveLowerOp {i : Instr} {s : State} {icr len : Word} (h : exec i s = saveLowerOp s icr len) :
    SaveLowerTo i s icr len := by
  refine ⟨fun hf => h.trans (saveLowerOp_empty icr len hf),
    fun hf => csaChecked_of_csaTrap (fun x hx => h.trans (saveLowerOp_csaTrap icr len hf hx)) fun hx => ?_⟩
  have hdone := h.trans (saveLowerOp_completes icr len hf hx)
  have hsaved := lowerSaved_afterSaveLower s icr len
  have ⟨_, _, _, _, _, _, _, hpc, _⟩ := hsaved
  refine ⟨fun hl => ⟨_, hdone.trans (completeSave_of_not_atLimit hl), hsaved⟩, fun hl => ⟨_, hsaved, ?_⟩⟩
  rw [hdone, completeSave_of_atLimit hl, hpc]

/-- BISR is a save of the lower context in Supervisor (49 R874). -/
theorem bisrTo_bisrOp {i : Instr} {s : State} {n : BitVec 8} {len : Word} (h : exec i s = bisrOp s n len) :
    BisrTo i s n len := by
  obtain ⟨hie, hccpn, hrest⟩ := Icr.setEnable_fields s.icr true n
  refine ⟨fun hio => h.trans (if_neg (mt beq_iff_eq.1 hio)), fun hio => ⟨_, hie, hccpn, hrest, ?_⟩⟩
  exact saveLowerTo_saveLowerOp (h.trans (if_pos (beq_iff_eq.2 hio)))

/-- The state that RSLCX leaves (49 R873). -/
def State.afterRestoreLower (s : State) : State :=
  ((s.signal .modify (csaAddress s.pcxi)).restoreContext false).advance 4

theorem lowerRestored_afterRestoreLower (s : State) : LowerRestored s s.afterRestoreLower := by
  obtain ⟨hd, ha, hlists, hpsw, hicr, hpc, hsystem, henv⟩ :=
    restoreLower_spec (s.signal .modify (csaAddress s.pcxi))
  unfold State.afterRestoreLower
  generalize (s.signal .modify (csaAddress s.pcxi)).restoreContext false = t at *
  exact ⟨hd, ha, hlists, hpsw, hicr, hsystem, congrArg (· + 4) hpc, contextBoundary_of_signal henv⟩

section
variable {s : State}

/-- A restore without a saved context. -/
theorem restoreLowerOp_empty (h : pointer s.pcxi = 0) : restoreLowerOp s = raise s .csu := by
  unfold restoreLowerOp
  rw [if_pos (beq_iff_eq.2 h)]

/-- A restore from an upper context. -/
theorem restoreLowerOp_upper (h : pointer s.pcxi ≠ 0) (hu : Pcxi.ul s.pcxi = true) :
    restoreLowerOp s = raise s .ctyp := by
  unfold restoreLowerOp
  rw [if_neg (mt beq_iff_eq.1 h), if_pos hu]

/-- A restore whose CSA traps. -/
theorem restoreLowerOp_csaTrap (h : pointer s.pcxi ≠ 0) (hu : Pcxi.ul s.pcxi = false) {x : Trap}
    (hx : s.csaTrap (csaAddress s.pcxi) = some x) : restoreLowerOp s = raise s x := by
  unfold restoreLowerOp
  rw [if_neg (mt beq_iff_eq.1 h), hu, hx]
  rfl

/-- A restore that completes. -/
theorem restoreLowerOp_completes (h : pointer s.pcxi ≠ 0) (hu : Pcxi.ul s.pcxi = false)
    (hx : s.csaTrap (csaAddress s.pcxi) = none) : restoreLowerOp s = .next s.afterRestoreLower := by
  unfold restoreLowerOp
  rw [if_neg (mt beq_iff_eq.1 h), hu, hx]
  rfl

end

/-- An instruction whose meaning is the shared restore of the lower context. -/
theorem restoreLowerTo_restoreLowerOp {i : Instr} {s : State} (h : exec i s = restoreLowerOp s) :
    RestoreLowerTo i s := by
  refine ⟨fun hp => h.trans (restoreLowerOp_empty hp), fun hp hu => h.trans (restoreLowerOp_upper hp hu),
    fun hp hu => csaChecked_of_csaTrap (fun x hx => h.trans (restoreLowerOp_csaTrap hp hu hx)) fun hx => ?_⟩
  exact ⟨_, h.trans (restoreLowerOp_completes hp hu hx), lowerRestored_afterRestoreLower s⟩

/-- Settles O39: SVLCX and BISR are the shared save with their ICR, RSLCX the shared restore. -/
theorem lowerContextSaves : Obligations.LowerContextSaves := by
  intro s k8 k9
  -- BISR takes the low byte of its const9 (49 R874).
  have hconst : BitVec.ofNat 8 k9.toNat = k9.setWidth 8 := BitVec.ofNat_toNat 8 k9
  rw [hconst]
  exact ⟨saveLowerTo_saveLowerOp rfl, bisrTo_bisrOp rfl, bisrTo_bisrOp rfl, restoreLowerTo_restoreLowerOp rfl⟩

/-! ## Core special function registers (49 R900 to R902) -/

theorem csfrAligned_iff (k : BitVec 16) : csfrAligned k = true ↔ k.toNat % 4 = 0 := beq_iff_eq

/-- MFCR at an aligned offset writes D[c]. -/
theorem exec_mfcr_of_aligned {s : State} {k : BitVec 16} (c : Reg) (h : k.toNat % 4 = 0) :
    exec (.mfcrRlc c k) s = .next (s.putD c (s.readCsfr k) 4) :=
  if_pos ((csfrAligned_iff k).2 h)

/-- Settles O41, with what stands at an offset by `readCsfr_spec`. -/
theorem coreRegisterRead : Obligations.CoreRegisterRead := by
  intro s c k
  refine ⟨fun h4 r v hr hv => ?placed, fun h4 hu => ?unmapped, fun h4 => ?unaligned⟩
  case placed =>
    rw [← (readCsfr_spec s k h4).1 r v hr hv]
    exact movesTo_putD (exec_mfcr_of_aligned c h4)
  case unmapped =>
    rw [← (readCsfr_spec s k h4).2 hu]
    exact movesTo_putD (exec_mfcr_of_aligned c h4)
  case unaligned => exact if_neg (mt (csfrAligned_iff k).1 h4)

/-- No write of a register moves the pc (10 R55). -/
theorem putCsfr_pc (s : State) (r : CsfrName) (x : Word) : (s.putCsfr r x).pc = s.pc := by
  cases r with
  | range q =>
    change (s.writeRange q x).pc = s.pc
    unfold State.writeRange
    split <;> rfl
  | _ => rfl

theorem writeCsfr_pc (s : State) (k : BitVec 16) (v : Word) : (s.writeCsfr k v).pc = s.pc := by
  unfold State.writeCsfr
  split
  · exact putCsfr_pc s _ _
  · rfl

/-- In Supervisor MTCR at an aligned offset writes the register there. -/
theorem exec_mtcr_of_aligned {s : State} {k : BitVec 16} (a : Reg) (hs : Psw.io s.psw = 2) (h : k.toNat % 4 = 0) :
    exec (.mtcrRlc k a) s = .next { s.writeCsfr k (s.getD a) with pc := s.pc + 4 } := by
  rw [exec_mtcr_of_supervisor k a hs, if_pos ((csfrAligned_iff k).2 h), State.advance, writeCsfr_pc]
  rfl

/-- Settles O42, with what a write leaves by `writeCsfr_spec`. -/
theorem coreRegisterWrite : Obligations.CoreRegisterWrite := by
  intro s a k
  refine ⟨exec_mtcr_of_not_supervisor k a, fun hs => ⟨fun h4 r old hr hv => ?placed, fun h4 hu => ?unmapped,
    fun h4 => ?unaligned⟩⟩
  case placed =>
    obtain ⟨x, hx, hw⟩ := (writeCsfr_spec s k (s.getD a) h4).1 r old hr hv
    exact ⟨x, _, hx, hw, exec_mtcr_of_aligned a hs h4⟩
  case unmapped => rw [exec_mtcr_of_aligned a hs h4, (writeCsfr_spec s k (s.getD a) h4).2 hu]
  case unaligned => rw [exec_mtcr_of_supervisor k a hs, if_neg (mt (csfrAligned_iff k).1 h4)]

/-! ## Traps that an instruction asks for (49 R885, R905, R906) -/

/-- An instruction that takes a trap, where the context can be saved and its CSA is not the limit. -/
theorem runsTo_takeTrap {i : Instr} {s : State} {x : Trap} {ret : Word} (h : exec i s = takeTrap s x ret)
    (hf : FreeArea s) (hl : ¬ AtLimit s) : RunsTo i s fun t => TrapEntered s t x.cls x.tin.toNat ret :=
  ⟨_, h.trans (takeTrap_entered s x ret hf hl), trapEntered_enterTrap x ret hf⟩

/-- Settles O43: each instruction takes its trap, TRAPV and TRAPSV where their flag is set. -/
theorem systemCallAndOverflowTraps : Obligations.SystemCallAndOverflowTraps := by
  intro s k9
  -- The number of the trap is the low byte of const9 (49 R885).
  have hconst : k9.setWidth 8 = BitVec.ofNat 8 k9.toNat := (BitVec.ofNat_toNat 8 k9).symm
  have hsyscall : exec (.syscallRc k9) s = takeTrap s (.sys (BitVec.ofNat 8 k9.toNat)) (s.pc + 4) := by
    rw [← hconst]
    rfl
  have hovf : Psw.v s.psw = true → exec .trapvSys s = raise s .ovf := fun h => if_pos h
  have hsovf : Psw.sv s.psw = true → exec .trapsvSys s = raise s .sovf := fun h => if_pos h
  refine ⟨hsyscall, ?syscall, hovf, fun h => runsTo_takeTrap (hovf h), fun h => ?noOvf, hsovf,
    fun h => runsTo_takeTrap (hsovf h), fun h => ?noSovf⟩
  case syscall =>
    have htin : (BitVec.ofNat 8 k9.toNat).toNat = k9.toNat % 256 := BitVec.toNat_ofNat _ _
    rw [← htin]
    exact runsTo_takeTrap hsyscall
  case noOvf | noSovf => exact jumpsTo_setPc (if_neg (Bool.eq_false_iff.1 h))

/-! ## Instructions that trap in no state (49 R895 to R903, R910) -/

/-- Settles O44: the first four only advance the pc, and RSTV clears the bits 30:27 of the PSW besides. -/
theorem plainSystemInstructions : Obligations.PlainSystemInstructions := by
  intro s
  refine ⟨jumpsTo_setPc rfl, jumpsTo_setPc rfl, jumpsTo_setPc rfl, jumpsTo_setPc rfl, _, rfl, fun _ => rfl,
    fun _ => rfl, fun k hlo hhi => ?flags, fun k hk => ?rest, rfl, RestKept.refl s⟩
  case flags => exact (Psw.getLsbD_clearOverflow s.psw k).trans (if_pos ⟨hlo, by omega⟩)
  case rest => exact (Psw.getLsbD_clearOverflow s.psw k).trans (if_neg (by omega))

/-- Where CCPN is written back only bit 8 of ICR changes (49 R890, R891). -/
theorem getLsbD_setEnable_ccpn (x : Word) (ie : Bool) {k : Nat} (hk : k ≠ 8) :
    (Icr.setEnable x ie (Icr.ccpn x)).getLsbD k = x.getLsbD k := by
  unfold Icr.setEnable
  rw [getLsbD_setBit _ _ _ _ (by omega), if_neg hk, getLsbD_setField _ _ _ _ _ (by omega), Icr.ccpn,
    BitVec.getLsbD_extractLsb']
  split
  next h => simp [h]
  next => rfl

/-- ENABLE and DISABLE at User-1 and Supervisor. -/
theorem runsTo_enableOp {i : Instr} {s : State} {ie : Bool} (h : exec i s = enableOp s ie)
    (hio : Psw.io s.psw = 1 ∨ Psw.io s.psw = 2) : RunsTo i s fun t =>
      DataKept s t ∧ AddressKept s t ∧ t.psw = s.psw ∧ ListsKept s t ∧ Icr.ie t.icr = ie ∧
      (∀ k, k ≠ 8 → t.icr.getLsbD k = s.icr.getLsbD k) ∧ SystemKept s t ∧ MemoryKept s t ∧ t.env = s.env ∧
      t.pc = s.pc + 4 := by
  have hio0 : ¬ (Psw.io s.psw == 0) = true := by rcases hio with hio | hio <;> rw [hio] <;> decide
  obtain ⟨hie, -, -⟩ := Icr.setEnable_fields s.icr ie (Icr.ccpn s.icr)
  exact ⟨_, h.trans (if_neg hio0), fun _ => rfl, fun _ => rfl, rfl, ⟨rfl, rfl⟩, hie,
    fun _ => getLsbD_setEnable_ccpn s.icr ie, ⟨rfl, rfl, rfl, rfl⟩, fun _ => rfl, rfl, rfl⟩

/-- DEBUG outside the debug mode. -/
theorem jumpsTo_debugOp {i : Instr} {s : State} {len : Word} (h : exec i s = .next (debugOp s len))
    (hoff : s.cfg.debugMode = false) : JumpsTo i s (s.pc + len) := by
  rw [debugOp, hoff] at h
  exact jumpsTo_setPc h

/-- DEBUG in the debug mode. -/
theorem runsTo_debugOp {i : Instr} {s : State} {len : Word} (h : exec i s = .next (debugOp s len))
    (hon : s.cfg.debugMode = true) : RunsTo i s fun t =>
      DataKept s t ∧ AddressKept s t ∧ t.psw = s.psw ∧ ListsKept s t ∧ t.icr = s.icr ∧ SystemKept s t ∧
      MemoryKept s t ∧ t.env = { s.env with outputs := .debugEvent s.pc :: s.env.outputs } ∧ t.pc = s.pc + len := by
  rw [debugOp, hon] at h
  exact ⟨_, h, fun _ => rfl, fun _ => rfl, rfl, ⟨rfl, rfl⟩, rfl, ⟨rfl, rfl, rfl, rfl⟩, fun _ => rfl, rfl, rfl⟩

/-- Settles O45: ENABLE and DISABLE are the shared write of IE, both forms of DEBUG the shared event. -/
theorem interruptEnableAndDebug : Obligations.InterruptEnableAndDebug := by
  intro s
  exact ⟨fun h => if_pos (beq_iff_eq.2 h), runsTo_enableOp rfl, fun h => if_pos (beq_iff_eq.2 h), runsTo_enableOp rfl,
    jumpsTo_debugOp rfl, runsTo_debugOp rfl, jumpsTo_debugOp rfl, runsTo_debugOp rfl⟩

end Sys2Proof.Machine
end
